-- ==== Sys2Proof/Word.lean ====
section
/-! DEFINITION. The word types of the Ulsden 4820: bytes that cross its boundary, 48-bit identities, and the index
types of its tables (section 0.4 of spec/00_scope.md). -/

namespace Sys2Proof

/-- One 8-bit byte of a frame or message (Chapter 11). -/
abbrev Byte := BitVec 8

/-- A character of the TD line: its ten bits in the order in which they pass, a start bit, eight data bits with the most
significant first, and a stop bit; 0 is the dominant level and 1 the recessive one (R200, Chapter 6). -/
abbrev LineChar := BitVec 10

/-- A character of the ToD or PKT serial input: the ninth bit on top of eight data bits (R201; log entry 37). -/
abbrev SerialChar := BitVec 9

/-- A terminal identity: 48 bits (R91, R198). -/
abbrev Identity := BitVec 48

/-- Index of a service record, 0 to 47 (section 0.4). -/
abbrev RecordIx := Fin 48

/-- Index of a reference slot, 0 to 5 (section 0.4). -/
abbrev SlotIx := Fin 6

/-- Index of a satellite slot, 0 or 1 (section 0.4). -/
abbrev SatIx := Fin 2

/-- Number of a port, 0 to 11 (section 0.4). -/
abbrev PortIx := Fin 12

/-- Number of a protection pair, 0 to 5 (section 0.4). -/
abbrev PairIx := Fin 6

/-- A terminal's address on its line, 0 to 3 (R91). -/
abbrev Address := Fin 4

/-- A record's generation, 0 to 255, which wraps (section 0.5.7, R92). -/
abbrev Generation := Fin 256

/-- Slot 2, the packet slot (section 0.4). -/
abbrev pktSlot : SlotIx := 2

/-- Slot 3, the frequency slot (section 0.4). -/
abbrev lineSlot : SlotIx := 3

/-- A satellite slot's index in the Reference Table. -/
def SatIx.slot (k : SatIx) : SlotIx := ⟨k.val, by omega⟩

end Sys2Proof
end

