-- ==== Sys2Proof/Syntax.lean ====
section
/-! DEFINITION. The commands: one constructor of `Instr` for each row of spec/opcode_table.json, with the operands the
spec's rules give the step. An operand named `dt` is the raw oscillator time, in q-ns, that has passed since the last
command that told the time (log entry 2). -/

namespace Sys2Proof

/-- One item of a SET or CREATE body: a field identifier byte and the value bytes (Figure 11-3). -/
structure RawItem where
  field : Byte
  value : List Byte
  deriving DecidableEq, Repr

/-- The edges of the line clock in the hub second that a boundary ends: how many came, and the raw time in q-ns from the
latest of them to the boundary (R29; log entry 45). -/
structure LineEdges where
  cycles : Nat
  since  : Nat
  deriving DecidableEq, Repr

/-- The work of one block at a boundary event (R8). -/
inductive BoundaryWork where
  | inputs      -- LINE sample, MISSING samples, step exemption (R22, R29, R35)
  | discipline  -- the hub second event (R67)
  | records     -- staged changes, silent seconds, auto-retire (R101, R109)
  | ports       -- judgement of the port second, parking, EPOCH (R123, R131, R136)
  | pairWait    -- wait counts of pairs in RESTORE_WAIT (R164)
  | sweep       -- sweeps and LINE_FAULT marks (R159, R162)
  deriving DecidableEq, Repr

/-- What comes from outside at a hub second boundary: the line clock's edges, and, since "they may act on it in any order"
(R8), the order in which the blocks and the ports take the event (log entry 4). -/
structure BoundaryArgs where
  line      : LineEdges
  order     : List BoundaryWork
  portOrder : List PortIx
  deriving DecidableEq, Repr

/-- The two levels of a TD line (Chapter 6). -/
inductive LineLevel where
  | dominant | recessive
  deriving DecidableEq, Repr

/-- An event on one port's TD line that can decide a slot's outcome (R124, R125, R130). -/
inductive LineEvent where
  | delaySlotStart (address : Address)
  | openSlotStart
  | verdictSlotStart
  | quietSlotStart
  | readbackMismatch (bit : Nat) (level : LineLevel)
  | windowClose
  | responseError (characters : List LineChar)
  | echo (characters : List LineChar)
  | leave (characters : List LineChar)
  | distress (characters : List LineChar)
  deriving DecidableEq, Repr

/-- The occurrence that brings a threshold step about (log entry 3): a boundary, an event on a line, a reference
message, or a request taken. -/
inductive Cause where
  | boundary (b : BoundaryArgs)
  | line (port : PortIx) (event : LineEvent)
  | tod (sat : SatIx) (characters : List SerialChar)
  | pkt (characters : List SerialChar)
  | request (frame : List Byte)
  deriving DecidableEq, Repr

/-- The commands, in the order of spec/opcode_table.json. A `frame` operand holds the bytes of a request frame after its
length byte; that byte states their number, at most 255 (R199). A `characters` operand holds the characters of a response
or of a serial input as they arrive (R200, R201); `bit` and `level` are the place in the frame of a bit that was read
back, counted from 0 at the break, and the level read (R130). `sinceEdge` is the raw time, in q-ns, from the line clock's latest
edge to the release of PORn, when the clock is present there (log entry 10). -/
inductive Instr where
  | status (header : Byte)
  | writeM (dt : Nat) (frame : List Byte)
  | readM (dt : Nat)
  | readA
  | transactionCutShort
  | unknownRequest (frame : List Byte)
  | ident (tag : Byte)
  | restart (tag : Byte)
  | lookServiceRecord (tag index : Byte)
  | lookReferenceSlot (tag index : Byte)
  | lookPort (tag index : Byte)
  | lookPair (tag index : Byte)
  | lookHubRecord (tag index : Byte)
  | lookOscillatorRecord (dt : Nat) (tag index : Byte)
  | lookAlarmSettings (tag index : Byte)
  | setServiceRecord (tag index : Byte) (items : List RawItem)
  | setReferenceSlot (tag index : Byte) (items : List RawItem)
  | setPort (tag index : Byte) (items : List RawItem)
  | setPair (tag index : Byte) (items : List RawItem)
  | setHubRecord (tag index : Byte) (items : List RawItem)
  | setOscillatorRecord (tag index : Byte) (items : List RawItem)
  | setAlarmSettings (tag index : Byte) (items : List RawItem)
  | findByPortAddress (tag port address : Byte)
  | findByIdentity (tag : Byte) (identity : Identity)
  | create (tag port address : Byte) (items : List RawItem)
  | retire (tag index : Byte)
  | bind (tag slot index : Byte)
  | unbind (tag slot : Byte)
  | forceFail (tag slot : Byte)
  | lockout (tag slot : Byte)
  | release (tag slot : Byte)
  | prefer (tag slot : Byte)
  | switchPair (tag pair : Byte)
  | restorePair (tag pair : Byte)
  | stepAllow (tag : Byte)
  | lockOsc (tag : Byte)
  | alarmBufferLoad
  | pornAssert
  | pornRelease (sinceEdge : Option Nat)
  | wrstnAssert
  | wrstnRelease
  | hubSecondBoundary (b : BoundaryArgs)
  | stepHoldEnd
  | hsoFall
  | lockEntry (b : BoundaryArgs)
  | outOfWindowReacquire (b : BoundaryArgs)
  | autoRetire (record : RecordIx) (b : BoundaryArgs)
  | lineFaultEntry (port : PortIx) (b : BoundaryArgs)
  | lineCleanEntry (port : PortIx) (b : BoundaryArgs)
  | portPark (port : PortIx) (b : BoundaryArgs)
  | pairWtrExpiry (pair : PairIx) (b : BoundaryArgs)
  | delaySlotStart (port : PortIx) (address : Address)
  | openSlotStart (port : PortIx)
  | verdictSlotStart (port : PortIx)
  | frameSentWhole (port : PortIx)
  | readbackMismatch (port : PortIx) (bit : Nat) (level : LineLevel)
  | responseWindowClose (port : PortIx)
  | responseStart (dt : Nat) (port : PortIx)
  | responseError (port : PortIx) (characters : List LineChar)
  | echo (port : PortIx) (characters : List LineChar)
  | delayStep (port : PortIx) (characters : List LineChar)
  | statisticsWindowClose (record : RecordIx) (cause : Cause)
  | leave (port : PortIx) (characters : List LineChar)
  | distress (port : PortIx) (characters : List LineChar)
  | enrol (port : PortIx) (characters : List LineChar)
  | silentEntry (record : RecordIx) (cause : Cause)
  | retireUnacknowledged (record : RecordIx) (cause : Cause)
  | wakePulse (port : PortIx)
  | ppsEdge (dt : Nat) (sat : SatIx)
  | todMessage (sat : SatIx) (characters : List SerialChar)
  | pktMessage (characters : List SerialChar)
  | lineClockLost
  | jumpReferenceRetake (slot : SlotIx) (cause : Cause)
  | slotQualify (slot : SlotIx) (cause : Cause)
  | slotHoldOffFail (slot : SlotIx) (cause : Cause)
  | slotOutlierFail (slot : SlotIx) (cause : Cause)
  | almPulseEnd
  | mgtPulseEnd
  | lineClockReturn
  | transactionBegin (header : Byte)
  | quietSlotStart (port : PortIx)
  | almOwedPulse
  | mgtOwedPulse
  deriving DecidableEq, Repr

end Sys2Proof
end

