-- ==== Sys2Proof/Config.lean ====
section
/-! DEFINITION. What the spec leaves open and the model leaves free (no body, so no proof can lean on a value), and the
fixed figures of this silicon (R194). -/

namespace Sys2Proof.Config

/-- FREE VALUE (log entry 6). The frequency sample of a measurement over which no raw time elapsed: R29 divides by
`Rt` and states no result for an `Rt` of 0. It is applied to the line time and the raw time elapsed. -/
opaque offsetOverNoRawTime : Int → Int → Int

/-- FREE VALUE (log entry 7). The request code (`false`) or tag (`true`) that a reply carries when the request frame
taken is too short to hold one: R191 has the reply carry them "as they stood in the frame" and states none then. -/
opaque byteNotInFrame : Bool → BitVec 8

/-- FREE VALUE (log entry 28). What a reply or notice carries for a number that does not fit the bytes its layout gives it
(the value of a SAT sample far from hub time, which R25 holds without limit, in the 8 bytes of R199): no rule states those
bytes. It is applied to the width in bytes and the number. -/
opaque numberBeyondWidth : Nat → Int → Nat

/-- The part number that IDENT reports (R194). -/
def partNumber : Nat := 4820

/-- The silicon revision code (section 0.1, R194). -/
def revisionCode : Nat := 2

end Sys2Proof.Config
end

