-- ==== Sys2Proof/Machine/Arith.lean ====
section
/-! DEFINITION. The part's arithmetic (R1, R2), clamping (section 0.5.8) and the byte order of its numbers (R198). -/

namespace Sys2Proof.Machine

/-- q units in one ns, and in one ppb (R1). -/
def qPerUnit : Nat := 65536

/-- q-ns in one second (R1, R4). -/
def qPerSecond : Nat := 65536 * 1000000000

/-- A quantity in whole units, in q units (R1). -/
def toQ (x : Int) : Int := x * 65536

/-- Division rounded to nearest, ties away from zero (R2); the divisor is positive. -/
def roundDiv (n d : Int) : Int :=
  if 0 ≤ n then (2 * n + d) / (2 * d) else -((2 * (-n) + d) / (2 * d))

/-- A right shift by `k`, rounded as R2 requires. -/
def roundShift (n : Int) (k : Nat) : Int := roundDiv n (2 ^ k)

/-- Division rounded up, for the rules that name a ceiling (R66, R123, R149). -/
def ceilDiv (n d : Int) : Int := -((-n) / d)

/-- The nearest end of the range, for a value outside it (section 0.5.8). -/
def clampTo (lo hi x : Int) : Int := max lo (min hi x)

/-- The magnitude of a quantity. -/
def magnitude (x : Int) : Int := if 0 ≤ x then x else -x

/-- The next generation, from 255 to 0 (R92). -/
def nextGeneration (g : Generation) : Generation := g + 1

/-- The next cause number, from 255 to 1 (R88). -/
def nextCause (n : Nat) : Nat := if 255 ≤ n then 1 else n + 1

/-- The low `w` bytes of a number, most significant first (R198). -/
def bytesOf (w n : Nat) : List Byte :=
  match w with
  | 0 => []
  | k + 1 => BitVec.ofNat 8 (n / 256 ^ k) :: bytesOf k n

/-- A signed number in `w` bytes, two's complement (R198). -/
def signedBytesOf (w : Nat) (z : Int) : List Byte := bytesOf w (z % (256 ^ w : Nat)).toNat

/-- The number that bytes spell, most significant first (R198). -/
def numberOf (bytes : List Byte) : Nat := bytes.foldl (fun n b => n * 256 + b.toNat) 0

/-- The signed number that bytes spell (R198). -/
def signedNumberOf (bytes : List Byte) : Int :=
  let n := numberOf bytes
  let range := 256 ^ bytes.length
  if 2 * n < range then (n : Int) else (n : Int) - range

/-- The sum of bytes modulo 256 (R121, R200). -/
def byteSum (bytes : List Byte) : Byte := bytes.foldl (· + ·) 0

/-- The exclusive-or of bytes (R201). -/
def byteXor (bytes : List Byte) : Byte := bytes.foldl (· ^^^ ·) 0

end Sys2Proof.Machine
end

