-- ==== Sys2Proof/Machine/State.lean ====
section
/-! DEFINITION. The state of the Ulsden 4820 as plain data: every field that the chapters give its ten blocks, the two
reset inputs, and the queue of commands that wait. Reset values stand with the fields; `State.reset` is the part right
after the release of PORn. -/

namespace Sys2Proof.Machine

/-! ## Time Base and oscillator record (Chapter 1) -/

/-- Hub time: seconds, nanoseconds and a q fraction (section 0.5.3). -/
structure HubTime where
  sec  : Nat := 0
  ns   : Nat := 0
  frac : Nat := 0
  deriving DecidableEq, Repr

/-- The Time Base. The hub time counter of R4 stands as the start of the hub second in progress (`second`, and `startNs`
after a forward step), the hub time elapsed since its boundary (`elapsed`, in q) and the length of a step hold at its
beginning (`holdNs`); `TimeBase.counter` reads the triple off them. -/
structure TimeBase where
  second      : Nat := 0
  startNs     : Nat := 0
  holdNs      : Nat := 0
  lengthNs    : Nat := 1000000000
  elapsed     : Nat := 0
  remainder   : Nat := 0           -- finer than one q, in units of 1 / (65,536 × 10^9) q (R4)
  raw         : Nat := 0           -- the raw oscillator's count at that boundary, in q-ns (R5, R29; log entry 45)
  applied     : Int := 0
  next        : Int := 0
  pendingStep : Option Int := none
  stepMark    : Bool := false      -- the second in progress began at a step boundary (R12)
  hso         : Bool := false      -- level of the hub second output (R9)
  deriving DecidableEq, Repr

/-- The oscillator record, table 5 (R13). -/
structure Oscillator where
  stability  : Int := 4096        -- S
  aging      : Int := 32768       -- A
  prediction : Int := 0           -- D
  shift      : Int := 12          -- W
  restart    : Int := 10000       -- Uw
  locked     : Bool := false
  deriving DecidableEq, Repr

/-! ## Reference Inputs (Chapter 2) -/

/-- The outcome of a sample (Figure 11-4 gives the codes). -/
inductive SampleOutcome where
  | good | missing | invalid | outlier
  deriving DecidableEq, Repr

/-- A completed sample record (R20); the slot is the index at which it stands. -/
structure Sample where
  outcome  : SampleOutcome
  value    : Option Int := none
  accuracy : Option Int := none
  scale    : Option Int := none
  second   : Nat := 0
  fresh    : Bool := true
  deriving DecidableEq, Repr

/-- A PPS edge that waits for its ToD message: its reading and the interval from the edge before (R23). -/
structure PendingEdge where
  reading  : HubTime
  interval : Option Int
  deriving DecidableEq, Repr

/-- The line clock at its input: whether it is present, its cycles counted, and the raw oscillator's count at its latest
edge (R29, R30). -/
structure LineClock where
  present : Bool := false
  cycles  : Nat := 0
  edge    : Int := 0
  deriving DecidableEq, Repr

/-- What the LINE slot reads at a boundary: the line clock's phase and the raw oscillator's count, in q-ns (R29). -/
structure LineReading where
  phase : Int
  raw   : Int
  deriving DecidableEq, Repr

/-- A message that is open on a serial input: the bytes received of it, and whether no PPS edge has been stamped since its
start character (R24, R201). -/
structure OpenMessage where
  bytes     : List Byte := []
  afterEdge : Bool := true
  deriving DecidableEq, Repr

/-- The input of one slot: the sample in preparation, the last completed sample and the continuity state (R21 to R35). -/
structure SlotInput where
  last           : Option Sample := none
  completed      : Bool := false              -- a sample has completed in this hub second (R22)
  wholeSecond    : Bool := false              -- running since the boundary that began this second (R22)
  pendingEdge    : Option PendingEdge := none
  prevEdge       : Option HubTime := none
  prevTod        : Option Nat := none
  message        : Option OpenMessage := none -- the message being received, at slots 0 to 2 (R201)
  lastSeq        : Option Nat := none
  lineStart      : Option LineReading := none -- readings at the start of the LINE measurement (R29)
  discardMessages : Bool := false             -- PKT messages of this second are discarded (R35)
  jumpReference  : Option Int := none
  jumpRun        : Nat := 0
  deriving DecidableEq, Repr

/-! ## Reference Table (Chapter 3) -/

inductive SlotState where
  | disabled | candidate | qualified | failed
  deriving DecidableEq, Repr

/-- The slot record, table 1 (R39). A field given for some kinds of slot only is held by every record and reached only
for those kinds. -/
structure SlotRecord where
  state       : SlotState := .candidate
  enabled     : Bool := true
  priority    : Int := 5
  wtr         : Int := 60
  holdOff     : Int := 2
  jumpLimit   : Int := 500
  acceptLimit : Int := 100
  cableDelay  : Int := 0
  allowance   : Int := 20
  freqBound   : Int := 6554
  goodRun     : Nat := 0
  badRun      : Nat := 0
  outlierRun  : Nat := 0
  forced      : Bool := false
  lockout     : Bool := false
  binding     : Option (RecordIx × Generation) := none
  deriving DecidableEq, Repr

/-- Why the previous slot gave way (R61). -/
inductive SelectionCause where
  | new | better | holdOff | outliers | forced | lockedOut | priority | disabled | recordLost
  deriving DecidableEq, Repr

/-! ## Discipline Unit (Chapter 4) -/

inductive HubState where
  | freeRun | acquire | locked | lockedFreq | bridging | holdover | holdoverExpired
  deriving DecidableEq, Repr

inductive Grade where
  | a | b | c | d | e
  deriving DecidableEq, Repr

inductive LoopClass where
  | fast | normal | slow
  deriving DecidableEq, Repr

/-- The state to which BRIDGING returns (R64). -/
inductive BridgedFrom where
  | locked | lockedFreq
  deriving DecidableEq, Repr

/-- The figures fixed at the start of a prediction (R85). -/
structure Prediction where
  uEntry    : Int
  base      : Int
  stability : Int     -- S'
  aging     : Int     -- A
  drift     : Int     -- D
  deriving DecidableEq, Repr

/-- The figures fixed at the start of a LOCKED_FREQ count (R86). -/
structure LineCount where
  uEntry : Int
  slope  : Int        -- Sline
  deriving DecidableEq, Repr

/-- The settings of the hub record (R65). -/
structure HubSettings where
  loopClass     : LoopClass := .normal
  lockWindow    : Int := 50
  stepThreshold : Int := 1000
  holdoverLimit : Int := 1100
  revertive     : Bool := true
  preferred     : Option SlotIx := none
  deriving DecidableEq, Repr

/-- The hub record, table 4 (R64, R65; power-on values of R89). -/
structure HubRecord where
  state          : HubState := .freeRun
  selected       : Option SlotIx := none
  grade          : Grade := .e
  integrator     : Int := 0                   -- F
  correction     : Int := 0                   -- y
  average        : Int := 0                   -- f_avg
  age            : Nat := 0
  averageValid   : Bool := false
  wasLocked      : Bool := false
  stepPermission : Bool := true
  bound          : Int := 65536000000000      -- U, in q-ns: 10^9 ns
  t              : Nat := 0
  prediction     : Option Prediction := none
  lineCount      : Option LineCount := none
  bridgedFrom    : BridgedFrom := .locked     -- DESIGN CHOICE at reset (log entry 8)
  inWindow       : Nat := 0
  outOfWindow    : Nat := 0
  causeNumber    : Nat := 0
  scaleOffset    : Int := 0
  lastRefused    : Option Identity := none
  settings       : HubSettings := {}
  deriving DecidableEq, Repr

/-! ## Record Table and Delay Unit (Chapters 5 and 7) -/

inductive RecordState where
  | vacant | reserved | pending | active | silent | retiring
  deriving DecidableEq, Repr

inductive TeState where
  | unmeasured | within | marginal | exceeded
  deriving DecidableEq, Repr

/-- The statistics window of a record (R138). -/
structure StatWindow where
  count  : Nat := 0
  minRtd : Option Int := none
  maxRtd : Option Int := none
  good   : Nat := 0
  missed : Nat := 0
  deriving DecidableEq, Repr

/-- A service record, table 0 (R91, R138); its standing conditions stand in the Alarm Unit (R170). The defaults are
those of creation, but for the state: a record with all defaults and any generation is VACANT. That a VACANT record and
a reset one hold them is the model's choice (R112, R117; log entry 46). -/
structure ServiceRecord where
  state          : RecordState := .vacant
  generation     : Generation := 0
  homePort       : PortIx := 0
  currentPort    : PortIx := 0
  address        : Address := 0
  identity       : Option Identity := none
  budget         : Int := 1500
  asymmetry      : Int := 0
  share          : Int := 32768
  staticOffset   : Int := 0
  protectOffset  : Int := 0
  eligible       : Bool := false
  silentLimit    : Int := 8
  silentCount    : Nat := 0
  autoRetire     : Int := 0
  silentSeconds  : Nat := 0
  statistics     : Bool := true
  filter         : Option Int := none         -- Dfilt
  outlierRun     : Nat := 0
  compensation   : Int := 0                   -- C
  window         : StatWindow := {}
  halfSpread     : Option Int := none
  stale          : Bool := false
  te             : Option Int := none
  teState        : TeState := .unmeasured
  prevLink       : Option Int := none
  returnBinding  : Option SlotIx := none
  stagedOffset   : Option Int := none
  stagedShare    : Option Int := none
  resetRequest   : Bool := false
  lastPort       : Option PortIx := none
  blocked        : Bool := false
  dismissAttempts : Nat := 0
  deriving DecidableEq, Repr

/-! ## Port Engines (Chapter 6) -/

inductive PortState where
  | disabled | parked | running
  deriving DecidableEq, Repr

inductive LineState where
  | clean | fault
  deriving DecidableEq, Repr

inductive SlotError where
  | none | readback | checksum | noResponse | overrun | range
  deriving DecidableEq, Repr

inductive EnrolmentMode where
  | closed | open
  deriving DecidableEq, Repr

/-- The port record, table 2 (R119, R137). -/
structure PortRecord where
  enabled       : Bool := true
  state         : PortState := .parked
  mode          : EnrolmentMode := .closed
  defaultBudget : Int := 1500
  line          : LineState := .clean
  failRun       : Nat := 0
  cleanRun      : Nat := 0
  idleCount     : Nat := 0
  wakeWindow    : Nat := 0
  lastError     : SlotError := .none
  deriving DecidableEq, Repr

/-- The five kinds of frame that the part sends (R121). -/
inductive FrameKind where
  | epoch | delay | dismiss | openFrame | verdict
  deriving DecidableEq, Repr

/-- A frame on the line: kind, address field and payload bytes (R121). -/
structure LineFrame where
  kind    : FrameKind
  address : Address
  payload : List Byte
  deriving DecidableEq, Repr

/-- Why an ENROL is refused (R102, R106). -/
inductive RefuseReason where
  | full | duplicate | closed
  deriving DecidableEq, Repr

/-- What is decided for an ENROL (R105, R106). -/
inductive VerdictResult where
  | admitted (address : Address)
  | refuse (reason : RefuseReason)
  deriving DecidableEq, Repr

/-- The content of the VERDICT that answers an ENROL (R121, R129). -/
structure Verdict where
  identity : Identity
  result   : VerdictResult
  deriving DecidableEq, Repr

/-- A reading of hub time, with the mark that it was taken during a step hold (R127). -/
structure Stamp where
  time   : HubTime
  inHold : Bool
  deriving DecidableEq, Repr

/-- Where a port stands in its port second (Figure 6-2). -/
inductive PortSlot where
  | quiet | epoch | address (a : Address) | openSlot | verdictSlot
  deriving DecidableEq, Repr

/-- What a port does on its line. -/
inductive Activity where
  | idle                        -- nothing driven, nothing expected
  | driving (frame : LineFrame) -- from the break to the checksum character
  | window                      -- the response window is open
  | response                    -- a response has been taken and is being received
  deriving DecidableEq, Repr

/-- The record whose slot is in progress and whose outcome has not been reported; `dismiss` when the slot began with the
record in RETIRING, `filterHeld` when the DELAY was sent to a record that held a delay filter (R32). -/
structure SlotTarget where
  record     : RecordIx
  generation : Generation
  dismiss    : Bool
  filterHeld : Bool
  deriving DecidableEq, Repr

/-- The engine of one port: the slot in progress and what the port second has shown so far (R122 to R131). -/
structure Engine where
  slot     : PortSlot := .quiet
  activity : Activity := .idle
  target   : Option SlotTarget := none
  t1       : Option Stamp := none
  t4       : Option Stamp := none
  verdict  : Option Verdict := none
  sent     : Bool := false           -- a frame has been sent in this port second (R131)
  aborted  : Bool := false           -- a frame has been aborted in this port second (R131)
  deriving DecidableEq, Repr

/-! ## Protection Unit (Chapter 8) -/

inductive PairState where
  | normal | switchedAuto | switchedManual | restoreWait
  deriving DecidableEq, Repr

/-- The pair record, table 3 (R155, R168). -/
structure PairRecord where
  revertive : Bool := true
  wtr       : Int := 300
  state     : PairState := .normal
  waitCount : Nat := 0
  deriving DecidableEq, Repr

/-! ## Alarm Unit (Chapter 9) -/

/-- Severities of conditions and notices (R169). -/
inductive Severity where
  | clear | note | minor | major | critical
  deriving DecidableEq, Repr

/-- The conditions of every owner kind (R169). -/
inductive Condition where
  | teMarginal | teExceeded | silent | lineFault | distress | measCheck | delayStep | switched | enrolled | left
  | retired | identityClash
  | failed | forced | qualified
  | bridging | holdover | holdoverExpired | freeRun | freqLimit | portFault | selection | timeStepped
  | enrolRefused | restart
  deriving DecidableEq, Repr

/-- The 55 alarm owners (section 0.4). -/
inductive Owner where
  | record (i : RecordIx)
  | slot (k : SlotIx)
  | hub
  deriving DecidableEq, Repr

/-- The detail codes of a report (R169). -/
inductive Detail where
  | immediate | auto | acknowledged | unacknowledged | full | closed | powerOn | warm
  | selection (cause : SelectionCause)
  deriving DecidableEq, Repr

/-- An entry of the pending list (R172). An optional field is `some` when it is valid; a valid slot field may hold "none". -/
structure Entry where
  owner      : Owner
  generation : Option Generation
  raised     : BitVec 16
  cleared    : BitVec 16
  severity   : Severity
  ancillary  : Bool
  cause      : Nat
  te         : Option Int := none
  slot       : Option (Option SlotIx) := none
  ports      : Option (BitVec 12) := none
  identity   : Option Identity := none
  detail     : Option Detail := none
  affected   : Option (BitVec 48) := none
  deriving DecidableEq, Repr

/-- A finished notice: the entry it was loaded from and the standing mask at loading (R178). -/
structure Notice where
  entry    : Entry
  standing : BitVec 16
  deriving DecidableEq, Repr

inductive LineMode where
  | level | pulse
  deriving DecidableEq, Repr

inductive Polarity where
  | activeHigh | activeLow
  deriving DecidableEq, Repr

/-- The alarm settings, table 6 (R182); a threshold of `none` is NONE. -/
structure AlarmSettings where
  recordThreshold : Option Severity := some .note
  slotThreshold   : Option Severity := some .note
  hubThreshold    : Option Severity := some .note
  coalescing      : Bool := false
  almMode         : LineMode := .level
  almPolarity     : Polarity := .activeHigh
  mgtMode         : LineMode := .level
  mgtPolarity     : Polarity := .activeHigh
  pulseWidth      : Int := 1
  deriving DecidableEq, Repr

/-- Where an interrupt line stands in PULSE mode: at rest, giving a pulse, or within one width after one (R181). -/
inductive PulsePhase where
  | rest | pulse | gap
  deriving DecidableEq, Repr

/-- The pulses of an interrupt line: the phase, the width of the last pulse begun, and the pulses owed (R181, R193). -/
structure PulseLine where
  phase : PulsePhase := .rest
  width : Int := 1
  owed  : Nat := 0
  deriving DecidableEq, Repr

/-- The Alarm Unit: standing sets, pending list, alarm buffer, settings and the pulses of the ALM line. -/
structure AlarmUnit where
  recordStanding : Vector (BitVec 16) 48 := Vector.replicate 48 0
  slotStanding   : Vector (BitVec 16) 6 := Vector.replicate 6 0
  hubStanding    : BitVec 16 := 0
  list           : List Entry := []
  buffer         : Option Notice := none
  settings       : AlarmSettings := {}
  alm            : PulseLine := {}
  deriving DecidableEq, Repr

/-! ## Management Port (Chapter 10) -/

inductive Operation where
  | status | writeM | readM | readA
  deriving DecidableEq, Repr

/-- The transaction in progress: its operation, the judgement made at its header (R189, R192, R179), the frame it clocks
out, and whether no reset has come or stood since it began (R188, R197). -/
structure Transaction where
  op       : Operation
  judgedOk : Bool
  frame    : List Byte
  intact   : Bool
  deriving DecidableEq, Repr

inductive ResetKind where
  | powerOn | warmPin | warmRequest
  deriving DecidableEq, Repr

/-- The Management Port (R186 to R196). `spiOut` holds the bytes that the latest transaction has clocked out so far, its
status byte first; filler is not recorded (log entry 9). -/
structure MgmtPort where
  inbound     : Option (List Byte) := none   -- the bytes after the length byte
  reply       : Option (List Byte) := none   -- the whole reply frame
  resetSeen   : Bool := true
  lastReset   : ResetKind := .powerOn
  mgt         : PulseLine := {}
  transaction : Option Transaction := none
  spiOut      : List Byte := []
  deriving DecidableEq, Repr

/-! ## The part, the queue, and reset -/

/-- Everything the spec gives the part. -/
structure Part where
  tb        : TimeBase := {}
  osc       : Oscillator := {}
  lineClock : LineClock := {}                  -- the line clock at its input (R29, R30; log entry 10)
  inputs    : Vector SlotInput 6 := Vector.replicate 6 {}
  slots     : Vector SlotRecord 6
  selected  : Option SlotIx := none
  hub       : HubRecord := {}
  records   : Vector ServiceRecord 48 := Vector.replicate 48 {}
  ports     : Vector PortRecord 12 := Vector.replicate 12 {}
  engines   : Vector Engine 12 := Vector.replicate 12 {}
  pairs     : Vector PairRecord 6 := Vector.replicate 6 {}
  alarm     : AlarmUnit := {}
  mgmt      : MgmtPort := {}
  porn      : Bool := false                    -- PORn is asserted
  wrst      : Bool := false                    -- WRSTn is asserted
  deriving DecidableEq, Repr

/-- The machine: the part and the commands that wait, first in, first out. -/
structure State where
  part    : Part
  pending : List Instr
  deriving DecidableEq, Repr

/-- Why the machine stops with a fault. No command of this part does: the type has no constructor, and that is safe,
since the spec gives every command an effect. -/
inductive Fault where
  deriving DecidableEq, Repr

/-- Why a command is refused. -/
inductive Refusal where
  /-- Raised by `exec` alone, for a command whose meaning is not written; safe, and no command is left so. -/
  | notModelled (mnemonic : String)
  deriving DecidableEq, Repr

/-- The Reference Table after either reset (R39, R62). -/
def resetSlots : Vector SlotRecord 6 :=
  #v[{ priority := 1 },
     { priority := 2 },
     { priority := 3, wtr := 120 },
     { priority := 4, wtr := 30, jumpLimit := 2 },
     { state := .disabled, enabled := false },
     { state := .disabled, enabled := false }]

/-- The inputs after the release of PORn: slots 0 to 3 have run from that boundary (R38). -/
def releasedInputs : Vector SlotInput 6 :=
  #v[{ wholeSecond := true }, { wholeSecond := true }, { wholeSecond := true }, { wholeSecond := true }, {}, {}]

/-- The RESTART notice of a power-on reset: raised RESTART and FREE_RUN (bits 9 and 3), severity CRITICAL, cause number
0, standing FREE_RUN (R184). -/
def restartNotice : Notice :=
  { entry :=
      { owner := .hub, generation := none, raised := 0x0208#16, cleared := 0#16, severity := .critical,
        ancillary := false, cause := 0, detail := some .powerOn },
    standing := 0x0008#16 }

/-- The machine right after reset: PORn has been released, the first hub second boundary has fallen with no line clock
present (log entry 10), and the RESTART notice waits in the alarm buffer (R18, R38, R62, R89, R117, R137, R168, R184,
R196). -/
def State.reset : State :=
  { part :=
      { tb := { hso := true }
        inputs := releasedInputs
        slots := resetSlots
        alarm := { hubStanding := 0x0008#16, buffer := some restartNotice } }
    pending := [] }

end Sys2Proof.Machine
end

