-- ==== Sys2Proof/Machine/Formats.lean ====
section
/-! DEFINITION. Chapter 11: the byte layouts of requests, replies, notices, TD line frames, terminal responses and
reference messages, and the codes of enumerations. -/

namespace Sys2Proof.Machine

/-! ## Enumeration codes (Figure 11-4) -/

def Severity.code : Severity → Nat
  | .clear => 0 | .note => 1 | .minor => 2 | .major => 3 | .critical => 4

def thresholdCode : Option Severity → Nat
  | none => 5 | some s => s.code

def thresholdOf (code : Nat) : Option Severity :=
  match code with
  | 1 => some .note | 2 => some .minor | 3 => some .major | 4 => some .critical | _ => none

def flagCode (b : Bool) : Nat := if b then 1 else 0

def LoopClass.code : LoopClass → Nat
  | .fast => 0 | .normal => 1 | .slow => 2

def loopClassOf (code : Nat) : LoopClass :=
  match code with
  | 0 => .fast | 1 => .normal | _ => .slow

def EnrolmentMode.code : EnrolmentMode → Nat
  | .closed => 0 | .open => 1

def LineMode.code : LineMode → Nat
  | .level => 0 | .pulse => 1

def Polarity.code : Polarity → Nat
  | .activeHigh => 0 | .activeLow => 1

def HubState.code : HubState → Nat
  | .freeRun => 0 | .acquire => 1 | .locked => 2 | .lockedFreq => 3 | .bridging => 4 | .holdover => 5
  | .holdoverExpired => 6

/-- The code of the state to which BRIDGING returns, a hub state. -/
def BridgedFrom.code : BridgedFrom → Nat
  | .locked => 2 | .lockedFreq => 3

def Grade.code : Grade → Nat
  | .a => 1 | .b => 2 | .c => 3 | .d => 4 | .e => 5

def SelectionCause.code : SelectionCause → Nat
  | .new => 16 | .better => 17 | .holdOff => 18 | .outliers => 19 | .forced => 20 | .lockedOut => 21 | .priority => 22
  | .disabled => 23 | .recordLost => 24

def Detail.code : Detail → Nat
  | .immediate => 1 | .auto => 2 | .acknowledged => 3 | .unacknowledged => 4 | .full => 5 | .closed => 6 | .powerOn => 7
  | .warm => 8 | .selection c => c.code

def RecordState.code : RecordState → Nat
  | .vacant => 0 | .reserved => 1 | .pending => 2 | .active => 3 | .silent => 4 | .retiring => 5

def SlotState.code : SlotState → Nat
  | .disabled => 0 | .candidate => 1 | .qualified => 2 | .failed => 3

def PortState.code : PortState → Nat
  | .disabled => 0 | .parked => 1 | .running => 2

def LineState.code : LineState → Nat
  | .clean => 0 | .fault => 1

def PairState.code : PairState → Nat
  | .normal => 0 | .switchedAuto => 1 | .switchedManual => 2 | .restoreWait => 3

def TeState.code : TeState → Nat
  | .unmeasured => 0 | .within => 1 | .marginal => 2 | .exceeded => 3

def SlotError.code : SlotError → Nat
  | .none => 0 | .readback => 1 | .checksum => 2 | .noResponse => 3 | .overrun => 4 | .range => 5

def SampleOutcome.code : SampleOutcome → Nat
  | .good => 0 | .missing => 1 | .invalid => 2 | .outlier => 3

def ResetKind.code : ResetKind → Nat
  | .powerOn => 0 | .warmPin => 1 | .warmRequest => 2

/-- An owner's number: records 0 to 47, slots 48 to 53, the hub 54 (section 0.4). -/
def Owner.number : Owner → Nat
  | .record i => i.val
  | .slot k => 48 + k.val
  | .hub => 54

/-! ## Replies (R191, Figure 11-2) -/

inductive ReplyCode where
  | done | noSuch | vacant | full | conflict | state | locked | bound | badRequest
  deriving DecidableEq, Repr

def ReplyCode.code : ReplyCode → Nat
  | .done => 0 | .noSuch => 1 | .vacant => 2 | .full => 3 | .conflict => 4 | .state => 5 | .locked => 6 | .bound => 7
  | .badRequest => 8

/-- What an owning block answers to a request (R191). -/
structure Reply where
  code    : ReplyCode
  clamped : Bool := false
  staged  : Bool := false
  body    : List Byte := []
  deriving DecidableEq, Repr

/-- A refusal: no flags and no body (R191). -/
def Reply.refused (c : ReplyCode) : Reply := { code := c }

/-- DONE with a body. -/
def Reply.doneWith (body : List Byte) : Reply := { code := .done, body := body }

/-- One number in one byte. -/
def byte (n : Nat) : Byte := BitVec.ofNat 8 n

/-- The reply frame: length byte, kind 0x02, request code, tag, reply code, flags, body (Figure 11-2). -/
def replyFrame (requestCode tag : Byte) (r : Reply) : List Byte :=
  byte (5 + r.body.length) :: 0x02#8 :: requestCode :: tag :: byte r.code.code ::
    byte (flagCode r.clamped + 2 * flagCode r.staged) :: r.body

/-- The NONE frame (Figure 11-2). -/
def noneFrame : List Byte := [0x01#8, 0x00#8]

/-! ## Items (R198, Figure 11-3) -/

/-- How the value of a written field is decoded: a 4-byte number clamped to a range, a one-byte code from a list, an
identity, the preferred slot's code (whose range R65 checks apart), or the pulse width (R183). -/
inductive FieldKind where
  | num (lo hi : Int)
  | code (listed : List Nat)
  | ident
  | anyCode
  | pulseWidth
  deriving DecidableEq, Repr

/-- A decoded value; `clamped` marks a number that was outside its range. -/
inductive FieldValue where
  | num (v : Int) (clamped : Bool)
  | code (n : Nat)
  | ident (identity : Option Identity)
  deriving DecidableEq, Repr

structure Item where
  field : Nat
  value : FieldValue
  deriving DecidableEq, Repr

/-- The largest listed pulse width not above the written value, and 1 for a value below 1 (R183). -/
def listedWidth (v : Int) : Int := if 8 ≤ v then 8 else if 4 ≤ v then 4 else if 2 ≤ v then 2 else 1

/-- The value of one item under its field's kind; `none` for a wrong length or an unlisted code (R198, R199). -/
def decodeValue (kind : FieldKind) (bytes : List Byte) : Option FieldValue :=
  match kind with
  | .num lo hi =>
    if bytes.length = 4 then
      let v := signedNumberOf bytes
      some (.num (clampTo lo hi v) (clampTo lo hi v != v))
    else none
  | .code listed =>
    if bytes.length = 1 ∧ numberOf bytes ∈ listed then some (.code (numberOf bytes)) else none
  | .ident =>
    if bytes.length = 6 then some (.ident (some (BitVec.ofNat 48 (numberOf bytes))))
    else if bytes.length = 0 then some (.ident none)
    else none
  | .anyCode => if bytes.length = 1 then some (.code (numberOf bytes)) else none
  | .pulseWidth =>
    if bytes.length = 4 then
      let v := signedNumberOf bytes
      some (.num (listedWidth v) (listedWidth v != v))
    else none

/-- Splits a body into items; `none` when they do not fill it exactly (Figure 11-3). -/
def splitItems : Nat → List Byte → Option (List RawItem)
  | _, [] => some []
  | 0, _ :: _ => none
  | _ + 1, [_] => none
  | n + 1, f :: l :: rest =>
    if rest.length < l.toNat then none
    else (splitItems n (rest.drop l.toNat)).map (fun items => ⟨f, rest.take l.toNat⟩ :: items)

/-- Items as they stand in a request body (Figure 11-3). -/
def joinItems (items : List RawItem) : List Byte :=
  items.flatMap (fun it => it.field :: byte it.value.length :: it.value)

/-- Decodes every item; `none` for an unknown field or a value its kind does not allow. -/
def decodeItems (kindOf : Nat → Option FieldKind) : List RawItem → Option (List Item)
  | [] => some []
  | raw :: rest => do
    let kind ← kindOf raw.field.toNat
    let value ← decodeValue kind raw.value
    let items ← decodeItems kindOf rest
    return ⟨raw.field.toNat, value⟩ :: items

/-- Whether a field is named more than once. -/
def namedTwice : List Item → Bool
  | [] => false
  | it :: rest => rest.any (fun other => other.field == it.field) || namedTwice rest

/-- A body's items under a table's fields: `none` is the BAD_REQUEST of R15, R52, R65, R97, R98, R120, R156 and R183. -/
def readItems (kindOf : Nat → Option FieldKind) (body : List Byte) : Option (List Item) := do
  let raws ← splitItems body.length body
  let items ← decodeItems kindOf raws
  if namedTwice items then none else some items

/-- Whether any written number was clamped (R191). -/
def anyClamped (items : List Item) : Bool :=
  items.any (fun it => match it.value with
    | .num _ c => c
    | _ => false)

/-- The number written to a field, if the request names it. -/
def numberWritten (items : List Item) (field : Nat) : Option Int :=
  items.findSome? (fun it => match it.value with
    | .num v _ => if it.field = field then some v else none
    | _ => none)

/-- The code written to a field, if the request names it. -/
def codeWritten (items : List Item) (field : Nat) : Option Nat :=
  items.findSome? (fun it => match it.value with
    | .code n => if it.field = field then some n else none
    | _ => none)

/-- The flag written to a field, if the request names it. -/
def flagWritten (items : List Item) (field : Nat) : Option Bool := (codeWritten items field).map (· == 1)

/-- The identity written, if the request names it; the inner `none` makes it absent (R99). -/
def identityWritten (items : List Item) : Option (Option Identity) :=
  items.findSome? (fun it => match it.value with
    | .ident x => some x
    | _ => none)

def onOff : FieldKind := .code [0, 1]

/-- Host-written fields of table 0 (R91, Figure 11-3). -/
def recordFields (field : Nat) : Option FieldKind :=
  match field with
  | 1 => some .ident
  | 2 => some (.num 20 1000000)
  | 3 => some (.num 0 100000)
  | 4 => some (.num 1 65535)
  | 5 => some (.num (-100000) 100000)
  | 6 => some (.num (-100000) 100000)
  | 7 => some onOff
  | 8 => some (.num 1 60)
  | 9 => some (.num 0 65535)
  | 10 => some onOff
  | _ => none

/-- Host-written fields of table 1 for the slot named (R39, R52). -/
def slotFields (k : SlotIx) (field : Nat) : Option FieldKind :=
  match field with
  | 1 => if k.val ≤ 3 then some onOff else none
  | 2 => some (.num 0 8)
  | 3 => some (.num 0 3600)
  | 4 => some (.num 0 30)
  | 5 => some (if k = lineSlot then .num 1 1000 else .num 20 100000)
  | 6 => if k.val ≤ 1 then some (.num 10 10000) else none
  | 7 => if k.val ≤ 1 then some (.num 0 100000) else none
  | 8 => some (.num 0 10000)
  | 9 => if k = lineSlot then some (.num 0 655360) else none
  | _ => none

/-- Host-written fields of table 2 (R119). -/
def portFields (field : Nat) : Option FieldKind :=
  match field with
  | 1 => some onOff
  | 2 => some (.code [0, 1])
  | 3 => some (.num 20 1000000)
  | _ => none

/-- Host-written fields of table 3 (R155). -/
def pairFields (field : Nat) : Option FieldKind :=
  match field with
  | 1 => some onOff
  | 2 => some (.num 0 3600)
  | _ => none

/-- Settings of table 4 (R65). -/
def hubFields (field : Nat) : Option FieldKind :=
  match field with
  | 1 => some (.code [0, 1, 2])
  | 2 => some (.num 10 1000)
  | 3 => some (.num 100 100000)
  | 4 => some (.num 100 1000000)
  | 5 => some onOff
  | 6 => some .anyCode
  | _ => none

/-- Figures of table 5 (R13). -/
def oscillatorFields (field : Nat) : Option FieldKind :=
  match field with
  | 1 => some (.num 0 655360)
  | 2 => some (.num 0 655360)
  | 3 => some (.num (-655360) 655360)
  | 4 => some (.num 8 16)
  | 5 => some (.num 0 1000000)
  | _ => none

/-- Settings of table 6 (R182). -/
def alarmFields (field : Nat) : Option FieldKind :=
  match field with
  | 1 => some (.code [1, 2, 3, 4, 5])
  | 2 => some (.code [1, 2, 3, 4, 5])
  | 3 => some (.code [1, 2, 3, 4, 5])
  | 4 => some onOff
  | 5 => some (.code [0, 1])
  | 6 => some (.code [0, 1])
  | 7 => some (.code [0, 1])
  | 8 => some (.code [0, 1])
  | 9 => some .pulseWidth
  | _ => none

/-! ## Numbers that the part reports (R198, R199) -/

/-- A signed number reported in `w` bytes; one that does not fit them is carried as a free value (log entry 28). -/
def reportedBytes (w : Nat) (z : Int) : List Byte :=
  if -(256 ^ w : Nat) ≤ 2 * z ∧ 2 * z < (256 ^ w : Nat) then signedBytesOf w z
  else bytesOf w (Config.numberBeyondWidth w z)

/-- An unsigned number reported in `w` bytes; one that does not fit them is carried as a free value (log entry 28). -/
def reportedUnsigned (w : Nat) (z : Int) : List Byte :=
  if 0 ≤ z ∧ z < (256 ^ w : Nat) then bytesOf w z.toNat else bytesOf w (Config.numberBeyondWidth w z)

/-! ## Items of a LOOK reply (R199; log entries 11 and 12) -/

/-- One reported item: identifier, value length, value. -/
def item (field : Nat) (value : List Byte) : List Byte := byte field :: byte value.length :: value

/-- A flag, an enumeration, or a port, slot, address, generation or cause number: one byte. -/
def item1 (field n : Nat) : List Byte := item field [byte n]

def itemFlag (field : Nat) (b : Bool) : List Byte := item1 field (flagCode b)

/-- A whole-unit quantity: four bytes, signed. -/
def item4 (field : Nat) (z : Int) : List Byte := item field (reportedBytes 4 z)

/-- A quantity in q units: eight bytes, signed. -/
def item8 (field : Nat) (z : Int) : List Byte := item field (reportedBytes 8 z)

/-- A quantity in q units that may be absent: value length 0 then. -/
def item8? (field : Nat) (z : Option Int) : List Byte :=
  match z with
  | none => item field []
  | some v => item8 field v

/-- An identity that may be absent. -/
def itemIdentity (field : Nat) (x : Option Identity) : List Byte :=
  item field (match x with
    | none => []
    | some v => bytesOf 6 v.toNat)

/-- A port or slot that may be "none", code 0xFF (R198). -/
def codeOrNone {n : Nat} (x : Option (Fin n)) : Nat :=
  match x with
  | none => 255
  | some v => v.val

/-- A set of records: six bytes, bit i for record i (R199). -/
def recordSetBytes (m : BitVec 48) : List Byte := bytesOf 6 m.toNat

/-- A hub time reading: seconds 6 bytes, nanoseconds 4, fraction 2 (R199). -/
def hubTimeBytes (t : HubTime) : List Byte := bytesOf 6 t.sec ++ bytesOf 4 t.ns ++ bytesOf 2 t.frac

/-- A slot's last sample: 23 bytes, or none (R199). -/
def sampleBytes (s : Option Sample) : List Byte :=
  match s with
  | none => []
  | some x =>
    [byte x.outcome.code] ++ reportedBytes 8 (x.value.getD 0) ++ reportedUnsigned 4 (x.accuracy.getD 0) ++
      signedBytesOf 2 (x.scale.getD 0) ++ bytesOf 6 x.second ++ [byte (flagCode x.fresh)] ++
      [byte (flagCode x.value.isSome + 2 * flagCode x.accuracy.isSome + 4 * flagCode x.scale.isSome)]

/-! ## Notice frames (Figure 11-5) -/

/-- The generation carried for a record, 0 for a slot or the hub. -/
def generationByte (g : Option Generation) : Byte :=
  match g with
  | none => 0
  | some v => byte v.val

/-- The notice frame: length byte 36, kind 0x01 and the 35 bytes of Figure 11-5. -/
def noticeFrame (n : Notice) : List Byte :=
  let e := n.entry
  [byte 36, 0x01#8, byte e.owner.number, generationByte e.generation] ++
    bytesOf 2 e.raised.toNat ++ bytesOf 2 e.cleared.toNat ++ bytesOf 2 n.standing.toNat ++
    [byte e.severity.code,
     byte (flagCode e.ancillary + 2 * flagCode e.te.isSome + 4 * flagCode e.slot.isSome + 8 * flagCode e.ports.isSome +
       16 * flagCode e.affected.isSome + 32 * flagCode e.identity.isSome + 64 * flagCode e.detail.isSome),
     byte e.cause] ++
    reportedBytes 8 (e.te.getD 0) ++
    [match e.slot with
     | none => 0
     | some s => byte (codeOrNone s)] ++
    bytesOf 2 (e.ports.getD 0).toNat ++ recordSetBytes (e.affected.getD 0) ++
    bytesOf 6 (e.identity.getD 0).toNat ++
    [match e.detail with
     | none => 0
     | some d => byte d.code]

/-! ## TD line frames (R121, R200, Figure 11-6) -/

def FrameKind.code : FrameKind → Nat
  | .epoch => 0 | .delay => 1 | .dismiss => 2 | .openFrame => 3 | .verdict => 4

/-- Whether a frame opens a response window (R125). -/
def FrameKind.expectsResponse : FrameKind → Bool
  | .delay => true | .dismiss => true | .openFrame => true
  | .epoch => false | .verdict => false

/-- The identifier character: kind in bits 7 to 5, address in bits 4 and 3, check in bits 2 to 0 (R200). -/
def identifierByte (kind : FrameKind) (a : Address) : Byte :=
  byte (32 * kind.code + 8 * a.val + (7 - (kind.code + 3 * a.val) % 8))

/-- The characters of a frame after its break: sync, identifier, payload, checksum (R121, R200). -/
def LineFrame.bytes (f : LineFrame) : List Byte :=
  let covered := identifierByte f.kind f.address :: f.payload
  0x55#8 :: covered ++ [-(byteSum covered)]

/-! ## The bits of a TD line (R121, R200) -/

/-- The level of a bit: the dominant level is logical 0 (Chapter 6). -/
def levelOf (bit : Bool) : LineLevel := if bit then .recessive else .dominant

/-- A byte as a character: a dominant start bit, eight data bits with the most significant first, and a recessive stop bit
(R200). -/
def characterOf (b : Byte) : LineChar := 0#1 ++ b ++ 1#1

/-- The eight data bits of a character (R200). -/
def dataOf (c : LineChar) : Byte := c.extractLsb' 1 8

/-- Whether a character's stop bit is recessive (R200). -/
def stopsRight (c : LineChar) : Bool := c.getLsbD 0

/-- The levels of a character's ten bits in the order in which they pass (R200). -/
def characterLevels (c : LineChar) : List LineLevel := (List.range 10).map (fun n => levelOf (c.getMsbD n))

/-- The levels that the part drives for a frame, bit by bit: the break of 16 dominant bits, the line released recessive for
2, and the characters from the sync to the checksum (R121, R200). -/
def LineFrame.levels (f : LineFrame) : List LineLevel :=
  List.replicate 16 .dominant ++ List.replicate 2 .recessive ++
    f.bytes.flatMap (fun b => characterLevels (characterOf b))

/-- Whether the level read back at a bit of a frame differs from the one driven; beyond the frame's last bit nothing is
driven (R130). -/
def LineFrame.differs (f : LineFrame) (bit : Nat) (level : LineLevel) : Bool :=
  match f.levels[bit]? with
  | some driven => driven != level
  | none => false

/-- U in whole ns, rounded up and saturated at 1,000,000 (R123). -/
def epochBound (u : Int) : Int := min (ceilDiv u 65536) 1000000

/-- The EPOCH frame (R123). -/
def epochFrame (label : Nat) (grade : Grade) (state : HubState) (u scale : Int) (step : Bool) : LineFrame :=
  { kind := .epoch, address := 0,
    payload := bytesOf 6 label ++ [byte grade.code, byte state.code] ++ signedBytesOf 3 (epochBound u) ++
      signedBytesOf 2 scale ++ [byte (flagCode step)] }

/-- The DELAY frame: C in 1/16 ns and the reset-request flag (R146, R124). -/
def delayFrame (a : Address) (c : Int) (resetRequest : Bool) : LineFrame :=
  { kind := .delay, address := a, payload := signedBytesOf 4 (roundDiv c 4096) ++ [byte (flagCode resetRequest)] }

/-- The DISMISS frame (R121). -/
def dismissFrame (a : Address) : LineFrame := { kind := .dismiss, address := a, payload := [] }

/-- A set of addresses in one byte, bit a for address a (R199). -/
def addressSetByte (free : List Address) : Byte := byte ((free.map (fun a => 2 ^ a.val)).sum)

/-- The OPEN frame with the free addresses (R128). -/
def openFrame (free : List Address) : LineFrame :=
  { kind := .openFrame, address := 0, payload := [addressSetByte free] }

def RefuseReason.code : RefuseReason → Nat
  | .full => 1 | .duplicate => 2 | .closed => 3

/-- The VERDICT frame (R121, Figure 11-6). -/
def verdictFrame (v : Verdict) : LineFrame :=
  match v.result with
  | .admitted a => { kind := .verdict, address := a, payload := bytesOf 6 v.identity.toNat ++ [byte 0, byte 0] }
  | .refuse r => { kind := .verdict, address := 0, payload := bytesOf 6 v.identity.toNat ++ [byte 1, byte r.code] }

/-! ## Terminal responses (R125, R200, Figure 11-7) -/

/-- The payload length of a response kind; `none` for an unknown kind byte. -/
def responseLength (kind : Nat) : Option Nat :=
  match kind with
  | 0x11 => some 5
  | 0x12 => some 11
  | 0x20 => some 1
  | 0x30 => some 1
  | 0x40 => some 8
  | _ => none

/-- Whether a slot takes a response kind: ENROL in the OPEN slot, the others in an address slot (Figure 6-2). -/
def kindTaken (openSlot : Bool) (kind : Nat) : Bool := (kind == 0x40) == openSlot

/-- The return fields of a long ECHO (Figure 11-7): offset in ns (3 bytes, signed), accuracy in ns (2 bytes) and the
validity byte. -/
structure ReturnFields where
  offset   : BitVec 24
  accuracy : BitVec 16
  validity : Byte
  deriving DecidableEq, Repr

/-- The fields of an ECHO (Figure 11-7): the turnaround in ns and, in a long echo, the return fields. -/
structure EchoFields where
  turnaround : BitVec 32
  ret        : Option ReturnFields
  deriving DecidableEq, Repr

/-- What a response says (Figure 11-7). -/
inductive Response where
  | echo (fields : EchoFields)
  | leave
  | distress
  | enrol (identity : Identity) (wish : Option Address)
  deriving DecidableEq, Repr

/-- The wish byte of an ENROL: an address, or 0xFF for none (Figure 11-7). -/
def wishOf (b : Byte) : Option (Option Address) :=
  if h : b.toNat < 4 then some (some ⟨b.toNat, h⟩) else if b.toNat = 255 then some none else none

/-- The response of a kind byte and the payload bytes after it (Figure 11-7); `none` when they are not one. -/
def decodeResponse (bytes : List Byte) : Option Response :=
  match bytes with
  | [] => none
  | kind :: body =>
    if responseLength kind.toNat = some bytes.length then
      match kind.toNat with
      | 0x11 => some (.echo { turnaround := BitVec.ofNat 32 (numberOf body), ret := none })
      | 0x12 =>
        some (.echo
          { turnaround := BitVec.ofNat 32 (numberOf (body.take 4))
            ret :=
              some
                { offset := BitVec.ofNat 24 (numberOf ((body.drop 4).take 3))
                  accuracy := BitVec.ofNat 16 (numberOf ((body.drop 7).take 2)), validity := body.getD 9 0 } })
      | 0x20 => some .leave
      | 0x30 => some .distress
      | 0x40 => (wishOf (body.getD 6 0)).map (.enrol (BitVec.ofNat 48 (numberOf (body.take 6))))
      | _ => none
    else none

/-- The error shown by the data bytes received of a response, in the order of their arrival: RANGE at the kind byte or the
wish byte, CHECKSUM at the checksum character (R125). -/
def responseFault (openSlot : Bool) (bytes : List Byte) : Option SlotError :=
  match bytes with
  | [] => none
  | k :: _ =>
    match responseLength k.toNat with
    | none => some .range
    | some len =>
      if ¬ kindTaken openSlot k.toNat then some .range
      else if k.toNat = 0x40 ∧ 8 ≤ bytes.length ∧ ¬ ((bytes.getD 7 0).toNat ≤ 3 ∨ (bytes.getD 7 0).toNat = 255) then some .range
      else if len + 1 ≤ bytes.length ∧ byteSum (bytes.take (len + 1)) ≠ 0 then some .checksum
      else none

/-- The characters that the port receives of a response: as many payload bytes as its kind byte fixes, and the checksum
character (R125). -/
def receivedOf (characters : List LineChar) : List LineChar :=
  match characters with
  | [] => []
  | kind :: _ => characters.take ((responseLength (dataOf kind).toNat).getD 0 + 1)

/-- The error that ends a response at the last of the characters given: CHECKSUM when it has no stop bit, and otherwise what
its data bytes show (R125, R200; log entry 38 on a byte that shows both). -/
def endingError (openSlot : Bool) (characters : List LineChar) : Option SlotError :=
  match characters.getLast? with
  | none => none
  | some c => if stopsRight c then responseFault openSlot (characters.map dataOf) else some .checksum

/-- The error that ends a response, at the first of its characters that shows one (R125). -/
def responseError (openSlot : Bool) (characters : List LineChar) : Option SlotError :=
  (receivedOf characters).inits.findSome? (endingError openSlot)

/-- The response that the characters received make when it is accepted: it is complete, shows no error, and so has a good
checksum and a kind that the slot takes (R125, R200). -/
def acceptedResponse (openSlot : Bool) (characters : List LineChar) : Option Response :=
  if responseError openSlot characters = none then decodeResponse ((receivedOf characters).map dataOf).dropLast
  else none

/-- The fields of the accepted ECHO that the characters make, if they make one. -/
def acceptedEcho (characters : List LineChar) : Option EchoFields :=
  match acceptedResponse false characters with
  | some (.echo fields) => some fields
  | _ => none

/-- The return offset, a signed number of ns (Figure 11-7). -/
def ReturnFields.offsetNs (r : ReturnFields) : Int := r.offset.toInt

/-- Whether an echo reports return-reference validity: a validity byte of 1 (R200). -/
def ReturnFields.valid (r : ReturnFields) : Bool := r.validity == 1

/-! ## Reference messages (R201) -/

/-- A start character: its ninth bit is set (R201). -/
def startsMessage (c : SerialChar) : Bool := c.getLsbD 8

/-- The byte of a character whose ninth bit is clear (R201). -/
def messageByte (c : SerialChar) : Byte := c.extractLsb' 0 8

/-- One character at a serial input whose messages have `length` bytes: what is open after it, and the message that it
makes whole. A start character begins a message, and interrupts an open one; a byte with no message open is ignored
(R201). -/
def receiveCharacter (length : Nat) (c : SerialChar) (current : Option OpenMessage) :
    Option OpenMessage × Option OpenMessage :=
  if startsMessage c then (some {}, none)
  else match current with
    | none => (none, none)
    | some m =>
      let m := { m with bytes := m.bytes ++ [messageByte c] }
      if length ≤ m.bytes.length then (none, some m) else (some m, none)

/-- Characters at a serial input in the order of their arrival: what is open after them, and the messages that they make
whole (R201). -/
def receiveCharacters (length : Nat) : List SerialChar → Option OpenMessage → Option OpenMessage × List OpenMessage
  | [], current => (current, [])
  | c :: rest, current =>
    let first := receiveCharacter length c current
    let others := receiveCharacters length rest first.1
    (others.1, first.2.toList ++ others.2)

/-- The fields of a ToD message. -/
structure TodMessage where
  seconds  : Nat
  tracking : Bool
  estimate : Int
  scale    : Int
  sound    : Bool     -- its checksum is good
  deriving DecidableEq, Repr

/-- A whole ToD message: the 14 bytes after its start character. -/
def decodeTod (bytes : List Byte) : Option TodMessage :=
  if bytes.length = 14 then
    some { seconds := numberOf (bytes.take 6), tracking := bytes.getD 6 0 == 1,
           estimate := numberOf ((bytes.drop 7).take 4), scale := signedNumberOf ((bytes.drop 11).take 2),
           sound := byteXor bytes == 0 }
  else none

/-- The fields of a PKT sample message. -/
structure PktMessage where
  sequence : Nat
  valid    : Bool
  offset   : Int
  bound    : Int
  sound    : Bool     -- its checksum is good
  deriving DecidableEq, Repr

/-- A whole PKT sample message: the 15 bytes after its start character. -/
def decodePkt (bytes : List Byte) : Option PktMessage :=
  if bytes.length = 15 then
    some { sequence := (bytes.getD 0 0).toNat, valid := bytes.getD 1 0 == 1,
           offset := signedNumberOf ((bytes.drop 2).take 8), bound := numberOf ((bytes.drop 10).take 4),
           sound := byteXor bytes == 0 }
  else none

end Sys2Proof.Machine
end

