-- ==== Sys2Proof/Machine/Ops.lean ====
section
/-! DEFINITION. The named operations over the part's tables: reading and writing one record of a table, and the
questions that several chapters ask of them (R94, R119). -/

namespace Sys2Proof.Machine

/-! ## One record of a table -/

def Part.record (p : Part) (i : RecordIx) : ServiceRecord := p.records[i.val]
def Part.slot (p : Part) (k : SlotIx) : SlotRecord := p.slots[k.val]
def Part.input (p : Part) (k : SlotIx) : SlotInput := p.inputs[k.val]
def Part.port (p : Part) (q : PortIx) : PortRecord := p.ports[q.val]
def Part.engine (p : Part) (q : PortIx) : Engine := p.engines[q.val]
def Part.pair (p : Part) (k : PairIx) : PairRecord := p.pairs[k.val]

def Part.setRecord (p : Part) (i : RecordIx) (r : ServiceRecord) : Part := { p with records := p.records.set i.val r }
def Part.setSlot (p : Part) (k : SlotIx) (r : SlotRecord) : Part := { p with slots := p.slots.set k.val r }
def Part.setInput (p : Part) (k : SlotIx) (x : SlotInput) : Part := { p with inputs := p.inputs.set k.val x }
def Part.setPort (p : Part) (q : PortIx) (r : PortRecord) : Part := { p with ports := p.ports.set q.val r }
def Part.setEngine (p : Part) (q : PortIx) (e : Engine) : Part := { p with engines := p.engines.set q.val e }
def Part.setPair (p : Part) (k : PairIx) (r : PairRecord) : Part := { p with pairs := p.pairs.set k.val r }

/-- A reset input is asserted. -/
def Part.held (p : Part) : Bool := p.porn || p.wrst

/-- A command's work is done only while no reset input is asserted; the blocks ignore it otherwise (R38, R63, R90,
R118, R137, R168, R184, R196). -/
def unlessHeld (f : Part → Part) (p : Part) : Part := if p.held then p else f p

/-- Runs a step for each index in turn. -/
def forEach {α : Type} (indices : List α) (step : α → Part → Part) (p : Part) : Part :=
  indices.foldl (fun q i => step i q) p

def allRecords : List RecordIx := List.finRange 48
def allSlots : List SlotIx := List.finRange 6
def allPorts : List PortIx := List.finRange 12
def allPairs : List PairIx := List.finRange 6
def allAddresses : List Address := List.finRange 4

/-! ## Questions asked of the tables -/

/-- A record has a port as home port or as current port (R94). -/
def ServiceRecord.counts (r : ServiceRecord) (q : PortIx) : Bool :=
  r.state != .vacant && (r.homePort == q || r.currentPort == q)

/-- A record is on a port: the port is its current port (R94). -/
def ServiceRecord.on (r : ServiceRecord) (q : PortIx) : Bool := r.state != .vacant && r.currentPort == q

/-- A port is bound while a non-VACANT record has it as home or current port (R119). -/
def Part.portBound (p : Part) (q : PortIx) : Bool := allRecords.any (fun i => (p.record i).counts q)

/-- An address is free on a port when no record that counts against the port holds it (R94). -/
def Part.addressFree (p : Part) (q : PortIx) (a : Address) : Bool :=
  !allRecords.any (fun i => (p.record i).counts q && (p.record i).address == a)

/-- The addresses free on a port (R119, R128). -/
def Part.freeAddresses (p : Part) (q : PortIx) : List Address := allAddresses.filter (fun a => p.addressFree q a)

/-- How many records count against a port (R94, R157). -/
def Part.portCount (p : Part) (q : PortIx) : Nat := (allRecords.filter (fun i => (p.record i).counts q)).length

/-- The record whose slot an address is on a port: on the port and holding the address (R124). -/
def Part.recordAt (p : Part) (q : PortIx) (a : Address) : Option RecordIx :=
  allRecords.find? (fun i => (p.record i).on q && (p.record i).address == a)

/-- The non-VACANT record that holds an identity (R94, R96). -/
def Part.identityHolder (p : Part) (x : Identity) : Option RecordIx :=
  allRecords.find? (fun i => (p.record i).state != .vacant && (p.record i).identity == some x)

/-- The working port of a pair (R155). -/
def workingPort (k : PairIx) : PortIx := ⟨2 * k.val, by omega⟩

/-- The protect port of a pair (R155). -/
def protectPort (k : PairIx) : PortIx := ⟨2 * k.val + 1, by omega⟩

/-- The pair that a port belongs to (section 0.4). -/
def pairOf (q : PortIx) : PairIx := ⟨q.val / 2, by omega⟩

/-- An index given in a request, when it exists. -/
def indexOf (n : Nat) (b : Byte) : Option (Fin n) := if h : b.toNat < n then some ⟨b.toNat, h⟩ else none

end Sys2Proof.Machine
end

