-- ==== Sys2Proof/Machine/Alarm.lean ====
section
/-! DEFINITION. The Alarm Unit (Chapter 9): conditions, reports, standing sets, the pending list, the alarm buffer and
the pulses of the ALM line; and the pulse line that MGT shares its rules with (R181, R193). -/

namespace Sys2Proof.Machine

/-! ## Conditions (R169, R199) -/

/-- The bit of a condition in the masks of its owner kind (Figure 11-5). -/
def Condition.bit : Condition → Nat
  | .teMarginal => 0 | .teExceeded => 1 | .silent => 2 | .lineFault => 3 | .distress => 4 | .measCheck => 5
  | .delayStep => 6 | .switched => 7 | .enrolled => 8 | .left => 9 | .retired => 10 | .identityClash => 11
  | .failed => 0 | .forced => 1 | .qualified => 2
  | .bridging => 0 | .holdover => 1 | .holdoverExpired => 2 | .freeRun => 3 | .freqLimit => 4 | .portFault => 5
  | .selection => 6 | .timeStepped => 7 | .enrolRefused => 8 | .restart => 9

/-- Whether a condition is standing; the others are momentary (R169). -/
def Condition.standing : Condition → Bool
  | .teMarginal => true | .teExceeded => true | .silent => true | .lineFault => true
  | .failed => true | .forced => true
  | .bridging => true | .holdover => true | .holdoverExpired => true | .freeRun => true | .freqLimit => true
  | .portFault => true
  | .distress => false | .measCheck => false | .delayStep => false | .switched => false | .enrolled => false
  | .left => false | .retired => false | .identityClash => false | .qualified => false | .selection => false
  | .timeStepped => false | .enrolRefused => false | .restart => false

/-- The severity of a condition (R169). -/
def Condition.severity : Condition → Severity
  | .teMarginal => .minor | .teExceeded => .major | .silent => .major | .lineFault => .critical | .distress => .critical
  | .measCheck => .minor | .delayStep => .note | .switched => .note | .enrolled => .note | .left => .note
  | .retired => .note | .identityClash => .note
  | .failed => .major | .forced => .note | .qualified => .note
  | .bridging => .minor | .holdover => .major | .holdoverExpired => .critical | .freeRun => .critical
  | .freqLimit => .major | .portFault => .critical | .selection => .note | .timeStepped => .note
  | .enrolRefused => .note | .restart => .note

/-- The mask that holds one condition. -/
def Condition.mask (c : Condition) : BitVec 16 := 1#16 <<< c.bit

/-- Whether a mask holds a condition. -/
def hasCondition (m : BitVec 16) (c : Condition) : Bool := m.getLsbD c.bit

/-- The greater of two severities (R169). -/
def Severity.max (a b : Severity) : Severity := if a.code < b.code then b else a

/-! ## Reports (R169) -/

/-- A report to the Alarm Unit; an optional field is `some` when the report carries it. -/
structure Report where
  owner      : Owner
  condition  : Condition
  isRaise    : Bool
  cause      : Nat
  ancillary  : Bool := false
  generation : Option Generation := none
  te         : Option Int := none
  slot       : Option (Option SlotIx) := none
  ports      : Option (BitVec 12) := none
  identity   : Option Identity := none
  detail     : Option Detail := none
  deriving DecidableEq, Repr

/-- The port mask that holds one port (R169). -/
def portMask (q : PortIx) : BitVec 12 := 1#12 <<< q.val

/-! ## Standing sets (R170) -/

def AlarmUnit.standingOf (a : AlarmUnit) : Owner → BitVec 16
  | .record i => a.recordStanding[i.val]
  | .slot k => a.slotStanding[k.val]
  | .hub => a.hubStanding

def AlarmUnit.setStanding (a : AlarmUnit) (o : Owner) (m : BitVec 16) : AlarmUnit :=
  match o with
  | .record i => { a with recordStanding := a.recordStanding.set i.val m }
  | .slot k => { a with slotStanding := a.slotStanding.set k.val m }
  | .hub => { a with hubStanding := m }

/-- Whether a report is passed on to the notices: all but a clear of a condition that is not in the set (R170). -/
def AlarmUnit.passesOn (a : AlarmUnit) (r : Report) : Bool :=
  r.isRaise || hasCondition (a.standingOf r.owner) r.condition

/-- A report's effect on its owner's standing set (R170). -/
def AlarmUnit.updateStanding (a : AlarmUnit) (r : Report) : AlarmUnit :=
  if r.condition.standing then
    if r.isRaise then a.setStanding r.owner (a.standingOf r.owner ||| r.condition.mask)
    else a.setStanding r.owner (a.standingOf r.owner &&& ~~~ r.condition.mask)
  else a

/-- The threshold of an owner's kind (R171). -/
def AlarmUnit.threshold (a : AlarmUnit) : Owner → Option Severity
  | .record _ => a.settings.recordThreshold
  | .slot _ => a.settings.slotThreshold
  | .hub => a.settings.hubThreshold

/-- Whether a report's condition is at or above its owner kind's threshold (R171). -/
def AlarmUnit.atThreshold (a : AlarmUnit) (r : Report) : Bool :=
  match a.threshold r.owner with
  | none => false
  | some t => t.code ≤ r.condition.severity.code

/-! ## The pending list (R172 to R176) -/

/-- A new entry for a report (R172). -/
def Entry.fresh (r : Report) : Entry :=
  { owner := r.owner, generation := r.generation,
    raised := if r.isRaise then r.condition.mask else 0,
    cleared := if r.isRaise then 0 else r.condition.mask,
    severity := if r.isRaise then r.condition.severity else .clear,
    ancillary := r.isRaise && r.ancillary, cause := r.cause,
    te := r.te, slot := r.slot, ports := r.ports, identity := r.identity, detail := r.detail }

/-- A field that a report carries replaces the entry's (R174). -/
def newer {α : Type} (carried kept : Option α) : Option α :=
  match carried with
  | some x => some x
  | none => kept

/-- A report merged into an entry (R174, R175). -/
def Entry.merge (e : Entry) (r : Report) : Entry :=
  { e with
    raised := if r.isRaise then e.raised ||| r.condition.mask else e.raised
    cleared := if r.isRaise then e.cleared else e.cleared ||| r.condition.mask
    severity := if r.isRaise then e.severity.max r.condition.severity else e.severity
    ancillary := if r.isRaise then e.ancillary && r.ancillary else e.ancillary
    cause := r.cause
    te := newer r.te e.te, slot := newer r.slot e.slot, ports := newer r.ports e.ports
    identity := newer r.identity e.identity, detail := newer r.detail e.detail }

/-- The mask that holds one record index (R172). -/
def recordMask (i : RecordIx) : BitVec 48 := 1#48 <<< i.val

/-- A coalesced raise of a record, merged into the hub's entry (R176). -/
def Entry.coalesce (e : Entry) (i : RecordIx) (cause : Nat) : Entry :=
  { e with affected := some (e.affected.getD 0 ||| recordMask i), cause := cause }

/-- The hub entry that a coalesced raise forms when the hub has none (R176). -/
def Entry.coalesced (i : RecordIx) (cause : Nat) : Entry :=
  { owner := .hub, generation := none, raised := 0, cleared := 0, severity := .clear, ancillary := true, cause := cause,
    affected := some (recordMask i) }

/-- Whether an owner has an entry in the list. -/
def AlarmUnit.hasEntry (a : AlarmUnit) (o : Owner) : Bool := a.list.any (fun e => e.owner == o)

/-- Changes the owner's entry where it stands; a new entry joins the tail (R173). -/
def AlarmUnit.putEntry (a : AlarmUnit) (o : Owner) (change : Entry → Entry) (new : Entry) : AlarmUnit :=
  if a.hasEntry o then { a with list := a.list.map (fun e => if e.owner = o then change e else e) }
  else { a with list := a.list ++ [new] }

/-- The record of an ancillary raise that is coalesced, if this report is one (R176). -/
def AlarmUnit.coalescedRecord (a : AlarmUnit) (r : Report) : Option RecordIx :=
  match r.owner with
  | .record i => if a.settings.coalescing && r.isRaise && r.ancillary && !a.hasEntry (.record i) then some i else none
  | _ => none

/-- A report that enters forms, joins or is coalesced into an entry (R173, R174, R176). -/
def AlarmUnit.enter (a : AlarmUnit) (r : Report) : AlarmUnit :=
  match a.coalescedRecord r with
  | some i => a.putEntry .hub (fun e => e.coalesce i r.cause) (Entry.coalesced i r.cause)
  | none => a.putEntry r.owner (fun e => e.merge r) (Entry.fresh r)

/-! ## Pulses of an interrupt line (R181, R193) -/

/-- A loading in PULSE mode gives a pulse, or owes one during a pulse or within one width after it. -/
def PulseLine.load (l : PulseLine) (mode : LineMode) (width : Int) : PulseLine :=
  match mode with
  | .level => l
  | .pulse =>
    match l.phase with
    | .rest => { l with phase := .pulse, width := width }
    | .pulse => { l with owed := l.owed + 1 }
    | .gap => { l with owed := l.owed + 1 }

/-- The pulse being given ends after its width. -/
def PulseLine.endPulse (l : PulseLine) : PulseLine :=
  match l.phase with
  | .pulse => { l with phase := .gap }
  | .rest => l
  | .gap => l

/-- The line has stood inactive for one pulse width: an owed pulse begins, or the line comes to rest (log entry 13). -/
def PulseLine.endGap (l : PulseLine) (width : Int) : PulseLine :=
  match l.phase with
  | .gap => if l.owed = 0 then { l with phase := .rest } else { phase := .pulse, width := width, owed := l.owed - 1 }
  | .rest => l
  | .pulse => l

/-! ## The alarm buffer (R177, R178) -/

/-- Loads the buffer when it is empty and the list is not: the head entry becomes a notice with its owner's standing
set (R177, R178). The notice's generation is the entry's, which R178 says equals the record's. -/
def AlarmUnit.load (a : AlarmUnit) : AlarmUnit :=
  match a.buffer, a.list with
  | none, e :: rest =>
    { a with buffer := some { entry := e, standing := a.standingOf e.owner }, list := rest,
             alm := a.alm.load a.settings.almMode a.settings.pulseWidth }
  | _, _ => a

/-- What a report does to the Alarm Unit (R170, R171, R173 to R176). -/
def AlarmUnit.take (a : AlarmUnit) (r : Report) : AlarmUnit :=
  if a.passesOn r then
    if a.atThreshold r then (a.updateStanding r).enter r else a.updateStanding r
  else a

/-! ## The Alarm Unit in the part -/

/-- A report reaches the Alarm Unit. The reports of one step are all taken before the loading that they make due: a step
is indivisible, and ALARM_BUFFER_LOAD is a step of its own (log entry 5). -/
def report (r : Report) (p : Part) : Part := { p with alarm := p.alarm.take r }

/-- A raise and a clear that come of one time error judgement, in the order in which the table of R152 lists them (log
entry 17). A clear that goes with a coalesced raise is coalesced with it, and changes the standing set alone (R176). -/
def reportPair (clearFirst : Bool) (raised cleared : Report) (p : Part) : Part :=
  if (p.alarm.coalescedRecord raised).isSome && p.alarm.atThreshold raised then
    { p with alarm := (p.alarm.take raised).updateStanding cleared }
  else if clearFirst then report raised (report cleared p)
  else report cleared (report raised p)

/-- The loading that is due whenever the buffer is empty and the list is not (R177), except while a reset input is
asserted (R184). -/
def loadIfDue (p : Part) : Part := if p.held then p else { p with alarm := p.alarm.load }

/-- The end of a command: the loading that is due is taken at this instant. An ALARM_BUFFER_LOAD that stands next in the
queue is that loading, so that nothing falls between (R177; log entry 5). -/
def settle (waiting : List Instr) (p : Part) : Part :=
  if waiting.head? = some .alarmBufferLoad then p else loadIfDue p

/-- The outcome of a command whose effect on the part is `f`: a next state, the queue untouched. -/
def commandDone (f : Part → Part) (s : State) : Host.Outcome State Fault Refusal :=
  .next { s with part := settle s.pending (f s.part) }

/-- Whether an entry or notice keeps a record's index (R93, R176). -/
def Entry.holds (e : Entry) (i : RecordIx) : Bool :=
  e.owner == .record i || (e.owner == .hub && (e.affected.getD 0).getLsbD i.val)

/-- A record is held while the list or the buffer has news of it (R93). -/
def Part.recordHeld (p : Part) (i : RecordIx) : Bool :=
  p.alarm.list.any (fun e => e.holds i) ||
    match p.alarm.buffer with
    | some n => n.entry.holds i
    | none => false

/-- The lowest-indexed VACANT record that is not held (R93). -/
def Part.usableRecord (p : Part) : Option RecordIx :=
  allRecords.find? (fun i => (p.record i).state == .vacant && !p.recordHeld i)

/-- A record's standing conditions (R91, R170). -/
def Part.standingOfRecord (p : Part) (i : RecordIx) : BitVec 16 := p.alarm.standingOf (.record i)

/-- The ALM line stands at its active level (R180, R181, R184). -/
def Part.almActive (p : Part) : Bool :=
  !p.held &&
    match p.alarm.settings.almMode with
    | .level => p.alarm.buffer.isSome
    | .pulse => p.alarm.alm.phase == .pulse

/-- The MGT line stands at its active level (R193, R196). -/
def Part.mgtActive (p : Part) : Bool :=
  !p.held &&
    match p.alarm.settings.mgtMode with
    | .level => p.mgmt.reply.isSome
    | .pulse => p.mgmt.mgt.phase == .pulse

/-- The electrical level of an interrupt line: high for an active line that is active high (R180, R193). -/
def lineLevel (active : Bool) (polarity : Polarity) : Bool :=
  match polarity with
  | .activeHigh => active
  | .activeLow => !active

/-! ## LOOK and SET on table 6 (R182, R183) -/

/-- The body of LOOK on table 6 (R182). Whether the buffer holds a notice, and its owner, are two derived items, a flag and
an owner: the model's reading of R182 and R199 (log entry 11). -/
def lookAlarmBody (p : Part) : List Byte :=
  let s := p.alarm.settings
  item1 1 (thresholdCode s.recordThreshold) ++ item1 2 (thresholdCode s.slotThreshold) ++
    item1 3 (thresholdCode s.hubThreshold) ++ itemFlag 4 s.coalescing ++ item1 5 s.almMode.code ++
    item1 6 s.almPolarity.code ++ item1 7 s.mgtMode.code ++ item1 8 s.mgtPolarity.code ++ item4 9 s.pulseWidth ++
    (allSlots.flatMap (fun k => item (96 + k.val) (bytesOf 2 (p.alarm.standingOf (.slot k)).toNat))) ++
    item 102 (bytesOf 2 p.alarm.hubStanding.toNat) ++
    item 103 (p.alarm.list.map (fun e => byte e.owner.number)) ++
    itemFlag 104 p.alarm.buffer.isSome ++
    item1 105 (match p.alarm.buffer with
      | some n => n.entry.owner.number
      | none => 255)

/-- The settings as a SET leaves them (R183). -/
def writeAlarmSettings (items : List Item) (s : AlarmSettings) : AlarmSettings :=
  { recordThreshold := ((codeWritten items 1).map thresholdOf).getD s.recordThreshold
    slotThreshold := ((codeWritten items 2).map thresholdOf).getD s.slotThreshold
    hubThreshold := ((codeWritten items 3).map thresholdOf).getD s.hubThreshold
    coalescing := (flagWritten items 4).getD s.coalescing
    almMode := ((codeWritten items 5).map (fun n => if n = 0 then .level else .pulse)).getD s.almMode
    almPolarity := ((codeWritten items 6).map (fun n => if n = 0 then .activeHigh else .activeLow)).getD s.almPolarity
    mgtMode := ((codeWritten items 7).map (fun n => if n = 0 then .level else .pulse)).getD s.mgtMode
    mgtPolarity := ((codeWritten items 8).map (fun n => if n = 0 then .activeHigh else .activeLow)).getD s.mgtPolarity
    pulseWidth := (numberWritten items 9).getD s.pulseWidth }

/-- A change of mode or polarity ends a pulse in progress, which is then followed by its width of rest as any pulse is, and
discards the owed pulses (R181, R193). The reply to the SET that makes the change is loaded after it, so within that width
it owes a pulse (log entry 36). -/
def lineAfterSettings (changed : Bool) (l : PulseLine) : PulseLine :=
  if changed then { l.endPulse with owed := 0 } else l

/-- SET on table 6 (R183). -/
def setAlarm (body : List Byte) (p : Part) : Part × Reply :=
  match readItems alarmFields body with
  | none => (p, .refused .badRequest)
  | some items =>
    let old := p.alarm.settings
    let new := writeAlarmSettings items old
    ({ p with
       alarm := { p.alarm with
         settings := new
         alm := lineAfterSettings (old.almMode != new.almMode || old.almPolarity != new.almPolarity) p.alarm.alm }
       mgmt := { p.mgmt with
         mgt := lineAfterSettings (old.mgtMode != new.mgtMode || old.mgtPolarity != new.mgtPolarity) p.mgmt.mgt } },
     { code := .done, clamped := anyClamped items })

end Sys2Proof.Machine
end

