-- ==== Sys2Proof/Machine/TimeBase.lean ====
section
/-! DEFINITION. The Time Base (Chapter 1): the hub time counter, the applied correction, steps, the hub second output,
and the oscillator record with its lock. -/

namespace Sys2Proof.Machine

/-! ## The counter (R4, R5, R11) -/

/-- A hub time as a count of q-ns. -/
def HubTime.toQ (t : HubTime) : Int := ((t.sec : Int) * 1000000000 + t.ns) * 65536 + t.frac

/-- The counter's reading `e` q of elapsed time after the boundary of the hub second in progress: held at its start while
a step hold lasts, then counting (R5, R11). -/
def TimeBase.readingAt (tb : TimeBase) (e : Nat) : HubTime :=
  let q := tb.startNs * 65536 + (e - tb.holdNs * 65536)
  { sec := tb.second, ns := q / 65536, frac := q % 65536 }

/-- The hub time counter: seconds, nanoseconds and whole q (R4, R5). -/
def TimeBase.counter (tb : TimeBase) : HubTime := tb.readingAt tb.elapsed

/-- A step hold is in progress `e` q after the boundary (R11). -/
def TimeBase.holdingAt (tb : TimeBase) (e : Nat) : Bool := e < tb.holdNs * 65536

/-- A step hold is in progress (R11). -/
def TimeBase.holding (tb : TimeBase) : Bool := tb.holdingAt tb.elapsed

/-- A reading with its hold mark (R5, R127). -/
def TimeBase.stampAt (tb : TimeBase) (e : Nat) : Stamp := { time := tb.readingAt e, inHold := tb.holdingAt e }

/-- One ms of elapsed time, in q (section 0.5.6). -/
def qPerMs : Nat := 65536 * 1000000

/-- Hub-rate time passes up to `e` q after the boundary; it never goes back, and it stops short of the next boundary,
which is an event of its own (R4, R8; log entry 2). The carried remainder stays as it is when a command at a fixed place
brings the time to that place: R4 does not say what it is there (log entry 2). The hub second output falls 100 ms after
the boundary (R9). -/
def TimeBase.elapseTo (tb : TimeBase) (e : Nat) : TimeBase :=
  let now := max tb.elapsed (min e (tb.lengthNs * 65536 - 1))
  { tb with elapsed := now, hso := tb.hso && now < 100 * qPerMs }

/-- Raw oscillator time of `dt` q-ns passes: the counter advances at rate (1 + y × 2^-16 × 10^-9), and what is finer than
one q is carried (R4, R7). -/
def TimeBase.passRaw (tb : TimeBase) (dt : Nat) : TimeBase :=
  let total := dt * ((qPerSecond : Int) + tb.applied).toNat + tb.remainder
  { tb.elapseTo (tb.elapsed + total / qPerSecond) with remainder := total % qPerSecond }

/-- The raw time in which the counter advances by `e` q at the applied correction (R7), rounded to the nearest whole q (R2);
that it is held in whole q is the model's choice (log entry 45). -/
def TimeBase.rawTime (tb : TimeBase) (e : Nat) : Nat :=
  (roundDiv (e * qPerSecond : Nat) ((qPerSecond : Int) + tb.applied).toNat).toNat

/-- The raw oscillator's count, without correction, as the Time Base presents it to the Reference Inputs (R5). -/
def TimeBase.rawCount (tb : TimeBase) : Nat := tb.raw + tb.rawTime tb.elapsed

/-- Raw time passes for the part; hub time is stopped while PORn is asserted, and no warm reset stops it (R4, R19). -/
def passRaw (dt : Nat) (p : Part) : Part := if p.porn then p else { p with tb := p.tb.passRaw dt }

/-- A step whose place in the port second is `ms` milliseconds after the boundary comes at that instant (R122). -/
def elapseToMs (ms : Nat) (p : Part) : Part := if p.porn then p else { p with tb := p.tb.elapseTo (ms * qPerMs) }

/-! ## Boundaries and steps (R6, R8 to R12) -/

/-- The whole seconds and the remainder of a step amount: Δ = k × 10^9 + n with −500,000,000 ≤ n < 500,000,000 (R11). -/
def splitStep (delta : Int) : Int × Int :=
  let k := (delta + 500000000) / 1000000000
  (k, delta - k * 1000000000)

/-- The Time Base at a hub second boundary: a pending step is applied, the next correction becomes the applied
correction, and the hub second output rises (R8, R9, R11). The carried remainder is kept, and is zeroed by a step (R7,
R11). The raw oscillator has counted the length of the second that ends, at the correction that was applied in it (R7). -/
def TimeBase.boundary (tb : TimeBase) : TimeBase :=
  let s := (tb.second + 1) % 2 ^ 48
  let raw := tb.raw + tb.rawTime (tb.lengthNs * 65536)
  match tb.pendingStep with
  | none =>
    { tb with second := s, startNs := 0, holdNs := 0, lengthNs := 1000000000, elapsed := 0, raw := raw,
              applied := tb.next, stepMark := false, hso := true }
  | some delta =>
    let (k, n) := splitStep delta
    { tb with second := (((s : Int) + k) % (2 ^ 48 : Nat)).toNat, startNs := n.toNat, holdNs := (-n).toNat,
              lengthNs := (1000000000 - n).toNat, elapsed := 0, remainder := 0, raw := raw, applied := tb.next,
              pendingStep := none, stepMark := true, hso := true }

/-- The Discipline Unit hands y over: it becomes the next correction (R6). -/
def handOver (p : Part) : Part := { p with tb := { p.tb with next := p.hub.correction } }

/-- The Discipline Unit requests a step; a later request replaces it (R10). -/
def requestStep (delta : Int) (p : Part) : Part := { p with tb := { p.tb with pendingStep := some delta } }

/-- The end of a step hold: the counter resumes counting (R11). It changes nothing when no hold is in progress. -/
def endHold (p : Part) : Part :=
  if p.porn || !p.tb.holding then p else { p with tb := p.tb.elapseTo (p.tb.holdNs * 65536) }

/-- The fall of the hub second output, 100 ms of hub time after the boundary (R9). -/
def fallHso (p : Part) : Part := if p.porn || !p.tb.hso then p else { p with tb := { p.tb.elapseTo (100 * qPerMs) with hso := false } }

/-- STEP_HOLD_END (R11). -/
def execStepHoldEnd (s : State) : Host.Outcome State Fault Refusal := commandDone endHold s

/-- HSO_FALL (R9). -/
def execHsoFall (s : State) : Host.Outcome State Fault Refusal := commandDone fallHso s

/-! ## The oscillator record, table 5 (R13 to R17) -/

/-- The body of LOOK on table 5: the figures, the lock flag, the applied correction and a hub time reading (R14). -/
def lookOscillatorBody (p : Part) : List Byte :=
  item8 1 p.osc.stability ++ item8 2 p.osc.aging ++ item8 3 p.osc.prediction ++ item4 4 p.osc.shift ++
    item4 5 p.osc.restart ++ itemFlag 32 p.osc.locked ++ item8 96 p.tb.applied ++ item 97 (hubTimeBytes p.tb.counter)

/-- The oscillator record as a SET leaves it (R15). -/
def writeOscillator (items : List Item) (o : Oscillator) : Oscillator :=
  { o with
    stability := (numberWritten items 1).getD o.stability
    aging := (numberWritten items 2).getD o.aging
    prediction := (numberWritten items 3).getD o.prediction
    shift := (numberWritten items 4).getD o.shift
    restart := (numberWritten items 5).getD o.restart }

/-- SET on table 5: BAD_REQUEST before LOCKED (R15). -/
def setOscillator (body : List Byte) (p : Part) : Part × Reply :=
  match readItems oscillatorFields body with
  | none => (p, .refused .badRequest)
  | some items =>
    if p.osc.locked then (p, .refused .locked)
    else ({ p with osc := writeOscillator items p.osc }, { code := .done, clamped := anyClamped items })

/-- LOCK-OSC (R17). -/
def lockOscillator (p : Part) : Part × Reply := ({ p with osc := { p.osc with locked := true } }, { code := .done })

end Sys2Proof.Machine
end

