-- ==== Sys2Proof/Machine/Discipline.lean ====
section
/-! DEFINITION. The Discipline Unit (Chapter 4): the hub record, the seven hub states, the loop, the prediction, the
uncertainty bound, grades and cause numbers. -/

namespace Sys2Proof.Machine

/-! ## Figures (R80, R84) -/

/-- The limit of F, y and f_avg: 50,000 ppb in q-ppb (R64, R80). -/
def correctionLimit : Int := 3276800000

/-- The ceiling of U: 10^9 ns in q-ns (R84). -/
def boundCeiling : Int := 65536000000000

/-- F and y are clamped to ±50,000 ppb (R80). -/
def clampCorrection (x : Int) : Int := clampTo (-correctionLimit) correctionLimit x

/-- U saturates at 10^9 ns (R84). -/
def saturateBound (u : Int) : Int := min u boundCeiling

/-- The P and I of a loop update (R80). -/
structure Gains where
  p : Nat
  i : Nat
  deriving DecidableEq, Repr

def acquireGains : Gains := { p := 1, i := 4 }

def LoopClass.gains : LoopClass → Gains
  | .fast => { p := 3, i := 8 }
  | .normal => { p := 5, i := 12 }
  | .slow => { p := 7, i := 16 }

/-! ## Hub reports (R88) -/

/-- A report of a hub condition, with the cause number as it stands. -/
def Part.hubReport (p : Part) (c : Condition) (isRaise : Bool) : Report :=
  { owner := .hub, condition := c, isRaise := isRaise, cause := p.hub.causeNumber }

def raiseHub (c : Condition) (p : Part) : Part := report (p.hubReport c true) p
def clearHub (c : Condition) (p : Part) : Part := report (p.hubReport c false) p

/-- The hub record changes. -/
def withHub (f : HubRecord → HubRecord) (p : Part) : Part := { p with hub := f p.hub }

/-- The cause number advances by one, before the raises that call for it (R88). -/
def advanceCause (p : Part) : Part := withHub (fun h => { h with causeNumber := nextCause h.causeNumber }) p

/-- FREQ_LIMIT follows each computation of F or y: raised when a clamp acts, cleared at the first in which none does; a
computation that clamps while it is raised changes nothing further (R83). -/
def followLimit (clamped : Bool) (p : Part) : Part :=
  if clamped then
    if hasCondition p.alarm.hubStanding .freqLimit then p else raiseHub .freqLimit p
  else clearHub .freqLimit p

/-- y is set to F and handed over, which is not a computation under R83. -/
def correctionToF (p : Part) : Part := handOver (withHub (fun h => { h with correction := h.integrator }) p)

/-! ## Loop arithmetic (R80 to R82) -/

/-- e limited to ±1,000,000 ns for a loop update (R80). -/
def limitPhase (e : Int) : Int := clampTo (-65536000000) 65536000000 e

/-- F and y before their clamps, in a loop update: the integral term is added to F, and the proportional term to F as
just updated and clamped (R80). -/
def loopF (g : Gains) (f e : Int) : Int := f + roundShift (limitPhase e) g.i

def loopY (g : Gains) (f e : Int) : Int := clampCorrection (loopF g f e) + roundShift (limitPhase e) g.p

/-- A loop update (R80, R83). -/
def loopUpdate (g : Gains) (e : Int) (p : Part) : Part :=
  let f := loopF g p.hub.integrator e
  let y := loopY g p.hub.integrator e
  followLimit (clampCorrection f != f || clampCorrection y != y)
    (handOver (withHub (fun h => { h with integrator := clampCorrection f, correction := clampCorrection y }) p))

/-- A frequency filter update (R81, R83). -/
def filterUpdate (r : Int) (p : Part) : Part :=
  let f := p.hub.integrator + roundDiv (r - p.hub.integrator) 8
  followLimit (clampCorrection f != f)
    (handOver (withHub (fun h => { h with integrator := clampCorrection f, correction := clampCorrection f }) p))

/-- The learned average after a GOOD sample in LOCKED or LOCKED_FREQ (R82). -/
def averageUpdate (p : Part) : Part :=
  let w := p.osc.shift.toNat
  withHub (fun h =>
    let age := min (h.age + 1) 65536
    { h with
      average := if h.age = 0 then h.integrator else h.average + roundShift (h.integrator - h.average) w
      age := age
      averageValid := h.averageValid || decide (2 ^ w ≤ age) }) p

/-! ## U and the prediction (R84 to R86) -/

/-- U after a GOOD phase sample: Aref + |e| (R84). -/
def boundFromSample (aref e : Int) : Int := saturateBound (toQ aref + magnitude e)

def setBound (u : Int) (p : Part) : Part := withHub (fun h => { h with bound := u }) p

/-- The prediction record that starts now (R85). -/
def Part.newPrediction (p : Part) : Prediction :=
  { uEntry := p.hub.bound
    base := if p.hub.averageValid then p.hub.average else p.hub.integrator
    stability := if p.hub.averageValid then p.osc.stability else 2 * p.osc.stability
    aging := p.osc.aging
    drift := p.osc.prediction }

/-- A prediction starts: its record is fixed and t is 0 (R85). -/
def startPrediction (p : Part) : Part := withHub (fun h => { h with prediction := some p.newPrediction, t := 0 }) p

/-- U of a prediction after t seconds (R85). -/
def Prediction.boundAt (r : Prediction) (t : Nat) : Int :=
  saturateBound (r.uEntry + r.stability * t + roundDiv (r.aging * t * (t + 1)) 172800)

/-- y of a prediction after t seconds, before its clamp (R85). -/
def Prediction.correctionAt (r : Prediction) (t : Nat) : Int := r.base + roundDiv (r.drift * t) 86400

/-- t is lengthened by one and U is recomputed by the prediction (R75 to R77, R85). -/
def advancePrediction (p : Part) : Part :=
  withHub (fun h =>
    { h with t := h.t + 1, bound := match h.prediction with
      | some r => r.boundAt (h.t + 1)
      | none => h.bound }) p

/-- y is computed from the prediction and handed over (R76, R77, R83, R85). -/
def predictCorrection (p : Part) : Part :=
  match p.hub.prediction with
  | none => p
  | some r =>
    let y := r.correctionAt p.hub.t
    followLimit (clampCorrection y != y) (handOver (withHub (fun h => { h with correction := clampCorrection y }) p))

/-- A LOCKED_FREQ count starts: U_entry and Sline are fixed and t is 0 (R86). -/
def startLineCount (p : Part) : Part :=
  withHub (fun h =>
    { h with lineCount := some { uEntry := h.bound, slope := (p.slot lineSlot).freqBound }, t := 0 }) p

/-- t is lengthened by one and U follows the LOCKED_FREQ count (R74, R86). -/
def advanceLineCount (p : Part) : Part :=
  withHub (fun h =>
    { h with t := h.t + 1, bound := match h.lineCount with
      | some r => saturateBound (r.uEntry + r.slope * ((h.t : Int) + 1))
      | none => h.bound }) p

/-! ## Entries into the hub states (R69 to R78) -/

/-- The grade of LOCKED on a slot (R87). -/
def lockedGrade (k : Option SlotIx) : Grade := if k = some pktSlot then .b else .a

/-- Entry to FREE_RUN (R69). -/
def enterFreeRun (p : Part) : Part :=
  raiseHub .freeRun
    (correctionToF (withHub (fun h => { h with state := .freeRun, grade := .e, bound := boundCeiling }) p))

/-- Entry to ACQUIRE with a grade (R70, R87). The in-window run is zeroed, and a LOCKED_FREQ count ends (log entry 14). -/
def enterAcquire (g : Grade) (p : Part) : Part :=
  withHub (fun h => { h with state := .acquire, grade := g, inWindow := 0, lineCount := none }) p

/-- Entry to LOCKED (R73, R79). -/
def enterLocked (p : Part) : Part :=
  withHub (fun h =>
    { h with state := .locked, grade := lockedGrade h.selected, wasLocked := true, outOfWindow := 0,
             stepPermission := false }) p

/-- Entry to LOCKED_FREQ (R74). -/
def enterLockedFreq (p : Part) : Part :=
  startLineCount (withHub (fun h => { h with state := .lockedFreq, grade := .c, wasLocked := true }) p)

/-- Entry to BRIDGING from a locked state at a take that is not GOOD (R75). -/
def enterBridging (origin : BridgedFrom) (p : Part) : Part :=
  startPrediction (correctionToF (raiseHub .bridging (advanceCause
    (withHub (fun h => { h with state := .bridging, grade := .c, bridgedFrom := origin, lineCount := none }) p))))

/-- U is compared with H in HOLDOVER; above it the hub enters HOLDOVER_EXPIRED (R76, R77). `advance` when the occurrence
has not advanced the cause number already (R88). -/
def compareBound (advance : Bool) (p : Part) : Part :=
  if p.hub.state = .holdover ∧ toQ p.hub.settings.holdoverLimit < p.hub.bound then
    raiseHub .holdoverExpired (withHub (fun h => { h with state := .holdoverExpired, grade := .d })
      (if advance then advanceCause p else p))
  else p

/-- Entry to HOLDOVER within an occurrence that has advanced the cause number: a new prediction, but from BRIDGING, whose
prediction goes on (R76). -/
def enterHoldover (p : Part) : Part :=
  let bridging := decide (p.hub.state = .bridging)
  let q := if bridging then p else startPrediction p
  let q := raiseHub .holdover (withHub (fun h => { h with state := .holdover, grade := .c, lineCount := none }) q)
  let q := if bridging then clearHub .bridging q else q
  compareBound false (predictCorrection q)

/-- The prediction is left: its record is removed; from HOLDOVER and HOLDOVER_EXPIRED, F takes the y last computed, and
the conditions of the state left are cleared (R75 to R78). In the other states this does what leaving them asks. -/
def leaveState (p : Part) : Part :=
  match p.hub.state with
  | .freeRun => clearHub .freeRun p
  | .acquire => p
  | .locked => p
  | .lockedFreq => p
  | .bridging => clearHub .bridging (withHub (fun h => { h with prediction := none }) p)
  | .holdover =>
    clearHub .holdover (withHub (fun h => { h with integrator := h.correction, prediction := none }) p)
  | .holdoverExpired =>
    clearHub .holdoverExpired (clearHub .holdover
      (withHub (fun h => { h with integrator := h.correction, prediction := none }) p))

/-! ## Selection reports (R68) -/

/-- The kind of the slot that a report names (R61). -/
inductive NewKind where
  | phase | frequency | none
  deriving DecidableEq, Repr

def newKind : Option SlotIx → NewKind
  | .none => .none
  | some k => if k = lineSlot then .frequency else .phase

/-- The hub state moves as the table of R68 sets out; a pairing marked with a dash moves nothing. -/
def moveOnReport (new : Option SlotIx) (p : Part) : Part :=
  match newKind new, p.hub.state with
  | .phase, .acquire => enterAcquire p.hub.grade p
  | .phase, .freeRun => enterAcquire .e (leaveState p)
  | .phase, .locked => enterAcquire .c (leaveState p)
  | .phase, .lockedFreq => enterAcquire .c (leaveState p)
  | .phase, .bridging => enterAcquire .c (leaveState p)
  | .phase, .holdover => enterAcquire .c (leaveState p)
  | .phase, .holdoverExpired => enterAcquire .c (leaveState p)
  | .frequency, .lockedFreq => p
  | .frequency, .freeRun => enterLockedFreq (leaveState p)
  | .frequency, .acquire => enterLockedFreq (leaveState p)
  | .frequency, .locked => enterLockedFreq (leaveState p)
  | .frequency, .bridging => enterLockedFreq (leaveState p)
  | .frequency, .holdover => enterLockedFreq (leaveState p)
  | .frequency, .holdoverExpired => enterLockedFreq (leaveState p)
  | .none, .freeRun => p
  | .none, .acquire => if p.hub.wasLocked then enterHoldover p else enterFreeRun p
  | .none, .locked => enterHoldover p
  | .none, .lockedFreq => enterHoldover p
  | .none, .bridging => enterHoldover p
  | .none, .holdover => p
  | .none, .holdoverExpired => p

/-- A selection report reaches the unit: the hub record's selected slot is written, the cause number advances, SELECTION
is raised with the new slot and the report's cause, and the hub state moves (R68, R88). -/
def selectionReport (new : Option SlotIx) (cause : SelectionCause) (p : Part) : Part :=
  let q := advanceCause (withHub (fun h => { h with selected := new }) p)
  moveOnReport new
    (report { q.hubReport .selection true with slot := some new, detail := some (.selection cause) } q)

/-! ## The hub second event (R67) -/

/-- What the unit takes of the selected slot's sample (R36). -/
structure Take where
  outcome  : SampleOutcome
  value    : Option Int := none
  accuracy : Option Int := none
  scale    : Option Int := none
  deriving DecidableEq, Repr

/-- The take: a copy of a fresh sample, or MISSING; absent when no slot is selected (R36). -/
def Part.take (p : Part) : Option Take :=
  p.selected.map (fun k =>
    match (p.input k).last with
    | some x =>
      if x.fresh then { outcome := x.outcome, value := x.value, accuracy := x.accuracy, scale := x.scale }
      else { outcome := .missing }
    | none => { outcome := .missing })

/-- The unit clears the fresh flag of every slot's last completed sample (R36). -/
def clearFresh (p : Part) : Part :=
  { p with inputs := p.inputs.map (fun x => { x with last := x.last.map (fun s => { s with fresh := false }) }) }

/-- The value of a GOOD take; a take that is not GOOD gives none. -/
def Take.goodValue (t : Take) : Option Int := if t.outcome = .good then t.value else none

/-- A GOOD take of a SAT slot copies its scale offset into the hub record (R67). -/
def copyScale (t : Take) (p : Part) : Part :=
  match t.outcome, t.scale with
  | .good, some x => if p.selected = some 0 ∨ p.selected = some 1 then withHub (fun h => { h with scaleOffset := x }) p else p
  | _, _ => p

/-- ACQUIRE at a GOOD sample beyond the step threshold, with step permission held: a step request (R71). -/
def askStep (e aref : Int) (p : Part) : Part :=
  withHub (fun h => { h with inWindow := 0, bound := boundFromSample aref e })
    (correctionToF (requestStep (roundDiv e 65536) p))

/-- ACQUIRE at any other GOOD sample (R70, R73). -/
def acquireGood (e aref : Int) (p : Part) : Part :=
  let q := setBound (boundFromSample aref e) (loopUpdate acquireGains e p)
  let run := if magnitude e ≤ toQ p.hub.settings.lockWindow then p.hub.inWindow + 1 else 0
  let q := withHub (fun h => { h with inWindow := run }) q
  if 16 ≤ run then enterLocked q else q

/-- ACQUIRE at a take that is not GOOD (R70, R84). -/
def acquireBad (p : Part) : Part :=
  withHub (fun h => { h with inWindow := 0, bound := saturateBound (h.bound + p.osc.stability) }) (correctionToF p)

/-- LOCKED at a GOOD sample (R73). -/
def lockedGood (e aref : Int) (p : Part) : Part :=
  let q := averageUpdate (setBound (boundFromSample aref e) (loopUpdate p.hub.settings.loopClass.gains e p))
  let run := if toQ p.hub.settings.lockWindow < magnitude e then p.hub.outOfWindow + 1 else 0
  let q := withHub (fun h => { h with outOfWindow := run }) q
  if 64 ≤ run then enterAcquire .c q else q

/-- LOCKED_FREQ at a GOOD sample (R74). -/
def lockedFreqGood (r : Int) (p : Part) : Part := advanceLineCount (averageUpdate (filterUpdate r p))

/-- BRIDGING at a GOOD sample: the hub returns to the state it bridged from, where the sample is handled (R75). -/
def bridgingGood (x aref : Int) (p : Part) : Part :=
  let q := leaveState p
  match p.hub.bridgedFrom with
  | .locked => lockedGood x aref (enterLocked q)
  | .lockedFreq => lockedFreqGood x (enterLockedFreq q)

/-- The action on the take in the present hub state (R69 to R77). `stepped` when the boundary event carries the step mark:
ACQUIRE then discards the take (R72). -/
def actOnTake (stepped : Bool) (t : Option Take) (p : Part) : Part :=
  let value := t.bind Take.goodValue
  let aref := (t.bind Take.accuracy).getD 0
  match p.hub.state with
  | .freeRun => p
  | .acquire =>
    if stepped then p
    else match value with
      | some e =>
        if toQ p.hub.settings.stepThreshold < magnitude e ∧ p.hub.stepPermission then askStep e aref p
        else acquireGood e aref p
      | none => acquireBad p
  | .locked =>
    match value with
    | some e => lockedGood e aref p
    | none => enterBridging .locked p
  | .lockedFreq =>
    match value with
    | some r => lockedFreqGood r p
    | none => enterBridging .lockedFreq p
  | .bridging =>
    match value with
    | some x => bridgingGood x aref (advancePrediction p)
    | none => advancePrediction p
  | .holdover => compareBound true (predictCorrection (advancePrediction p))
  | .holdoverExpired => predictCorrection (advancePrediction p)

/-- The completion of a step: the permission is consumed and TIME_STEPPED is raised with the selected slot (R72; log
entry 34). -/
def completeStep (p : Part) : Part :=
  let q := withHub (fun h => { h with stepPermission := false }) p
  report { q.hubReport .timeStepped true with slot := some q.hub.selected } q

/-- The take that ACQUIRE discards at a step is neither GOOD nor non-GOOD (R72), so it copies no scale offset either (log
entry 30). -/
def discardsTake (stepped : Bool) (p : Part) : Bool := stepped && p.hub.state == .acquire

/-- The hub second event (R67): step completion, take, action; y is handed over where it is computed. -/
def hubSecondEvent (p : Part) : Part :=
  let stepped := p.tb.stepMark
  let p := if stepped then completeStep p else p
  let t := p.take
  let p := clearFresh p
  let p := match t with
    | some x => if discardsTake stepped p then p else copyScale x p
    | none => p
  actOnTake stepped t p

/-! ## Requests (R65, R66, R79) -/

/-- STEP-ALLOW: the permission is granted (R79). -/
def allowStep (p : Part) : Part × Reply := (withHub (fun h => { h with stepPermission := true }) p, { code := .done })

/-- The settings as a SET leaves them (R65). -/
def writeHubSettings (items : List Item) (s : HubSettings) : HubSettings :=
  { loopClass := ((codeWritten items 1).map loopClassOf).getD s.loopClass
    lockWindow := (numberWritten items 2).getD s.lockWindow
    stepThreshold := (numberWritten items 3).getD s.stepThreshold
    holdoverLimit := (numberWritten items 4).getD s.holdoverLimit
    revertive := (flagWritten items 5).getD s.revertive
    preferred := match codeWritten items 6 with
      | some n => if h : n < 6 then some ⟨n, h⟩ else none
      | none => s.preferred }

/-- The preferred slot code of a SET is none or 0 to 5 (R65, R198). -/
def preferredCodeOk (items : List Item) : Bool :=
  match codeWritten items 6 with
  | some n => n < 6 || n == 255
  | none => true

/-- The body of LOOK on table 4 (R66). -/
def lookHubBody (p : Part) : List Byte :=
  let h := p.hub
  let s := h.settings
  item1 32 h.state.code ++ item1 33 (codeOrNone h.selected) ++ item1 34 h.grade.code ++ item8 35 h.integrator ++
    item8 36 h.correction ++ item8 37 h.average ++ item4 38 h.age ++ itemFlag 39 h.averageValid ++
    itemFlag 40 h.wasLocked ++ itemFlag 41 h.stepPermission ++ item8 42 h.bound ++ item4 43 h.t ++
    item 44 (match h.prediction with
      | none => []
      | some r => reportedBytes 8 r.uEntry ++ reportedBytes 8 r.base ++ reportedBytes 8 r.stability ++
          reportedBytes 8 r.aging ++ reportedBytes 8 r.drift) ++
    item 45 (match h.lineCount with
      | none => []
      | some r => reportedBytes 8 r.uEntry ++ reportedBytes 8 r.slope) ++
    item1 46 h.bridgedFrom.code ++ item4 47 h.inWindow ++ item4 48 h.outOfWindow ++ item1 49 h.causeNumber ++
    item 50 (signedBytesOf 2 h.scaleOffset) ++ itemIdentity 51 h.lastRefused ++
    item1 1 s.loopClass.code ++ item4 2 s.lockWindow ++ item4 3 s.stepThreshold ++ item4 4 s.holdoverLimit ++
    itemFlag 5 s.revertive ++ item1 6 (codeOrNone s.preferred) ++ item4 96 (ceilDiv h.bound 65536)

end Sys2Proof.Machine
end

