-- ==== Sys2Proof/Machine/Selector.lean ====
section
/-! DEFINITION. The Reference Selector (Chapter 3): slot states, host controls, return bindings, and the choice of the
selected slot. -/

namespace Sys2Proof.Machine

/-! ## Slot conditions (R47) -/

def slotReport (c : Condition) (isRaise : Bool) (k : SlotIx) (p : Part) : Report :=
  { owner := .slot k, condition := c, isRaise := isRaise, cause := p.hub.causeNumber, slot := some (some k) }

def raiseSlot (c : Condition) (k : SlotIx) (p : Part) : Part := report (slotReport c true k p) p
def clearSlot (c : Condition) (k : SlotIx) (p : Part) : Part := report (slotReport c false k p) p

/-- The slot record changes. -/
def withSlot (k : SlotIx) (f : SlotRecord → SlotRecord) (p : Part) : Part := p.setSlot k (f (p.slot k))

/-- The slot's input changes. -/
def withInput (k : SlotIx) (f : SlotInput → SlotInput) (p : Part) : Part := p.setInput k (f (p.input k))

/-! ## The choice (R58 to R61) -/

/-- A slot is eligible when it is QUALIFIED, not locked out and of priority 1 or more (R58). -/
def Part.eligible (p : Part) (k : SlotIx) : Bool :=
  (p.slot k).state == .qualified && !(p.slot k).lockout && decide (1 ≤ (p.slot k).priority)

/-- The phase slots, in index order (R58). -/
def phaseSlots : List SlotIx := [0, 1, 2, 4, 5]

/-- The eligible phase slot of lowest priority number, the lowest index among equals (R58). -/
def Part.bestPhase (p : Part) : Option SlotIx :=
  (phaseSlots.filter (fun k => p.eligible k)).foldl (fun best k =>
    match best with
    | none => some k
    | some b => if (p.slot k).priority < (p.slot b).priority then some k else some b) none

/-- The choice of R58, preference apart: the best phase slot, else LINE, else none. -/
def Part.ranked (p : Part) : Option SlotIx :=
  match p.bestPhase with
  | some k => some k
  | none => if p.eligible lineSlot then some lineSlot else none

/-- The choice of R58: an eligible preferred slot goes first. -/
def Part.best (p : Part) : Option SlotIx :=
  match p.hub.settings.preferred with
  | some k => if p.eligible k then some k else p.ranked
  | none => p.ranked

/-- The selection that R59 makes of R58 under the revertive setting. -/
def Part.choice (p : Part) : Option SlotIx :=
  if p.hub.settings.revertive then p.best
  else match p.selected with
    | none => p.best
    | some k =>
      if !p.eligible k then p.best
      else if k = lineSlot then (if p.bestPhase.isNone then some k else p.best)
      else some k

/-- The cause that a selection report carries: NEW and BETTER by the previous slot, and otherwise the loss that the
change brought (R61). -/
def Part.reportCause (p : Part) (loss : SelectionCause) : SelectionCause :=
  match p.selected with
  | none => .new
  | some k => if p.eligible k then .better else loss

/-- A choice follows a change; when it gives a new selection a report is issued (R60, R61). -/
def choose (loss : SelectionCause) (p : Part) : Part :=
  if p.choice = p.selected then p
  else selectionReport p.choice (p.reportCause loss) { p with selected := p.choice }

/-! ## Samples applied (R42 to R46) -/

/-- Entry to QUALIFIED (R43). -/
def enterQualified (k : SlotIx) (p : Part) : Part :=
  raiseSlot .qualified k
    (withSlot k (fun r => { r with state := .qualified, goodRun := 0, badRun := 0, outlierRun := 0 }) p)

/-- Entry to FAILED (R46). -/
def enterFailed (k : SlotIx) (p : Part) : Part :=
  raiseSlot .failed k (withSlot k (fun r => { r with state := .failed, goodRun := 0, badRun := 0, outlierRun := 0 }) p)

/-- A GOOD sample in CANDIDATE, with the good run that it lengthens: compared with the WTR (R43). -/
def candidateGood (k : SlotIx) (p : Part) : Part :=
  let run := min ((p.slot k).goodRun + 1) 65535
  let q := withSlot k (fun r => { r with goodRun := run }) p
  if (p.slot k).wtr ≤ run then choose .holdOff (enterQualified k q) else q

/-- A sample in QUALIFIED (R44, R45). -/
def qualifiedSample (k : SlotIx) (o : SampleOutcome) (p : Part) : Part :=
  match o with
  | .good => withSlot k (fun r => { r with badRun := 0, outlierRun := 0 }) p
  | .outlier =>
    if 3 ≤ (p.slot k).outlierRun + 1 then choose .outliers (enterFailed k p)
    else withSlot k (fun r => { r with outlierRun := r.outlierRun + 1 }) p
  | .missing =>
    if (p.slot k).holdOff < (p.slot k).badRun + 1 then choose .holdOff (enterFailed k p)
    else withSlot k (fun r => { r with badRun := r.badRun + 1 }) p
  | .invalid =>
    if (p.slot k).holdOff < (p.slot k).badRun + 1 then choose .holdOff (enterFailed k p)
    else withSlot k (fun r => { r with badRun := r.badRun + 1 }) p

/-- A GOOD sample in FAILED: CANDIDATE with a good run of 1, compared with the WTR at once; one choice follows (R46). -/
def failedGood (k : SlotIx) (p : Part) : Part :=
  let q := clearSlot .failed k
    (withSlot k (fun r => { r with state := .candidate, goodRun := 1, badRun := 0, outlierRun := 0 }) p)
  choose .holdOff (if (p.slot k).wtr ≤ 1 then enterQualified k q else q)

/-- The Selector applies a completed sample to the slot record; a forced slot ignores it (R42). -/
def applySample (k : SlotIx) (o : SampleOutcome) (p : Part) : Part :=
  if (p.slot k).forced then p
  else match (p.slot k).state with
    | .disabled => p
    | .candidate => if o = .good then candidateGood k p else withSlot k (fun r => { r with goodRun := 0 }) p
    | .qualified => qualifiedSample k o p
    | .failed => if o = .good then failedGood k p else p

/-! ## Entering and leaving DISABLED (R21, R41) -/

/-- The input stops: the sample in preparation is abandoned and the fresh flag cleared; the last completed sample is
kept (R21), and so is the discarding of this second's messages after a step (R35; log entry 26). -/
def stopInput (k : SlotIx) (p : Part) : Part :=
  withInput k (fun x =>
    { last := x.last.map (fun s => { s with fresh := false }), completed := x.completed,
      discardMessages := x.discardMessages }) p

/-- The input starts with its continuity state cleared (R21). -/
def startInput (k : SlotIx) (p : Part) : Part :=
  withInput k (fun x => { last := x.last, completed := x.completed, discardMessages := x.discardMessages }) p

/-- Entry to DISABLED (R41). -/
def enterDisabled (k : SlotIx) (p : Part) : Part :=
  clearSlot .forced k (clearSlot .failed k (stopInput k
    (withSlot k (fun r =>
      { r with state := .disabled, enabled := false, goodRun := 0, badRun := 0, outlierRun := 0, forced := false }) p)))

/-- Departure from DISABLED into CANDIDATE (R41). -/
def leaveDisabled (k : SlotIx) (p : Part) : Part :=
  startInput k
    (withSlot k (fun r =>
      { r with state := .candidate, enabled := true, goodRun := 0, badRun := 0, outlierRun := 0, forced := false }) p)

/-! ## Host controls (R48 to R53) -/

/-- The DONE body of BIND, UNBIND, FORCE-FAIL, LOCKOUT and RELEASE: the slot and its state (R199). -/
def slotBody (k : SlotIx) (p : Part) : List Byte := [byte k.val, byte (p.slot k).state.code]

/-- FORCE-FAIL on a slot that is not in DISABLED (R48). -/
def forceSlot (k : SlotIx) (p : Part) : Part :=
  if (p.slot k).forced then p
  else
    let q := raiseSlot .forced k (withSlot k (fun r => { r with forced := true }) p)
    choose .forced (if (p.slot k).state = .failed then q else enterFailed k q)

/-- FORCE-FAIL (R48). -/
def forceFail (slot : Byte) (p : Part) : Part × Reply :=
  match indexOf 6 slot with
  | none => (p, .refused .noSuch)
  | some k =>
    if (p.slot k).state = .disabled then (p, .refused .state)
    else (forceSlot k p, .doneWith (slotBody k (forceSlot k p)))

/-- LOCKOUT (R49). -/
def lockoutSlot (k : SlotIx) (p : Part) : Part :=
  if (p.slot k).lockout then p else choose .lockedOut (withSlot k (fun r => { r with lockout := true }) p)

def lockout (slot : Byte) (p : Part) : Part × Reply :=
  match indexOf 6 slot with
  | none => (p, .refused .noSuch)
  | some k => (lockoutSlot k p, .doneWith (slotBody k (lockoutSlot k p)))

/-- RELEASE of a forced slot: CANDIDATE with all runs zero, FORCED and FAILED cleared (R50). -/
def releaseForced (k : SlotIx) (p : Part) : Part :=
  clearSlot .failed k (clearSlot .forced k
    (withSlot k (fun r =>
      { r with forced := false, state := .candidate, goodRun := 0, badRun := 0, outlierRun := 0 }) p))

/-- RELEASE (R50). -/
def releaseSlot (k : SlotIx) (p : Part) : Part :=
  if (p.slot k).forced || (p.slot k).lockout then
    let q := if (p.slot k).forced then releaseForced k p else p
    choose .better (withSlot k (fun r => { r with lockout := false }) q)
  else p

def release (slot : Byte) (p : Part) : Part × Reply :=
  match indexOf 6 slot with
  | none => (p, .refused .noSuch)
  | some k => (releaseSlot k p, .doneWith (slotBody k (releaseSlot k p)))

/-- The preferred slot is written and a choice follows (R51, R60). -/
def preferSlot (pref : Option SlotIx) (p : Part) : Part :=
  if p.hub.settings.preferred = pref then p
  else choose .better (withHub (fun h => { h with settings := { h.settings with preferred := pref } }) p)

/-- PREFER (R51). -/
def prefer (slot : Byte) (p : Part) : Part × Reply :=
  if slot.toNat = 255 then (preferSlot none p, { code := .done })
  else match indexOf 6 slot with
    | none => (p, .refused .noSuch)
    | some k => (preferSlot (some k) p, { code := .done })

/-- SET on table 4: BAD_REQUEST, then NO_SUCH for the preferred slot, then all named settings; one choice follows a change
of preference or of the revertive setting (R65). -/
def setHub (body : List Byte) (p : Part) : Part × Reply :=
  match readItems hubFields body with
  | none => (p, .refused .badRequest)
  | some items =>
    if !preferredCodeOk items then (p, .refused .noSuch)
    else
      let old := p.hub.settings
      let new := writeHubSettings items old
      let q := withHub (fun h => { h with settings := new }) p
      (if old.preferred = new.preferred ∧ old.revertive = new.revertive then q else choose .better q,
       { code := .done, clamped := anyClamped items })

/-- The slot record as a SET's numbers leave it (R52). -/
def writeSlot (items : List Item) (r : SlotRecord) : SlotRecord :=
  { r with
    priority := (numberWritten items 2).getD r.priority
    wtr := (numberWritten items 3).getD r.wtr
    holdOff := (numberWritten items 4).getD r.holdOff
    jumpLimit := (numberWritten items 5).getD r.jumpLimit
    acceptLimit := (numberWritten items 6).getD r.acceptLimit
    cableDelay := (numberWritten items 7).getD r.cableDelay
    allowance := (numberWritten items 8).getD r.allowance
    freqBound := (numberWritten items 9).getD r.freqBound }

/-- A SET's write of the enabled field: a write of the value held leaves the slot as it stands (R41). -/
def writeEnabled (items : List Item) (k : SlotIx) (p : Part) : Part :=
  match flagWritten items 1 with
  | some true => if (p.slot k).state = .disabled then leaveDisabled k p else p
  | some false => if (p.slot k).state = .disabled then p else enterDisabled k p
  | none => p

/-- SET on table 1 with a slot that exists: one choice follows a change of state or priority (R52, R60, R61). -/
def setSlotFields (k : SlotIx) (items : List Item) (p : Part) : Part :=
  let q := writeEnabled items k (withSlot k (writeSlot items) p)
  if (q.slot k).state = (p.slot k).state ∧ (q.slot k).priority = (p.slot k).priority then q
  else choose (if (q.slot k).state = .disabled then .disabled else .priority) q

/-- SET on table 1: NO_SUCH, then BAD_REQUEST (R52). -/
def setReference (index : Byte) (body : List Byte) (p : Part) : Part × Reply :=
  match indexOf 6 index with
  | none => (p, .refused .noSuch)
  | some k =>
    match readItems (slotFields k) body with
    | none => (p, .refused .badRequest)
    | some items => (setSlotFields k items p, { code := .done, clamped := anyClamped items })

/-- The body of LOOK on table 1: every field of R39 that exists for the slot, the last sample, the selected flag (R40). -/
def lookReferenceBody (k : SlotIx) (p : Part) : List Byte :=
  let r := p.slot k
  item1 32 r.state.code ++ itemFlag 1 r.enabled ++ item4 2 r.priority ++ item4 3 r.wtr ++ item4 4 r.holdOff ++
    item4 5 r.jumpLimit ++
    (if k.val ≤ 1 then item4 6 r.acceptLimit ++ item4 7 r.cableDelay else []) ++ item4 8 r.allowance ++
    (if k = lineSlot then item8 9 r.freqBound else []) ++
    item4 33 r.goodRun ++ item4 34 r.badRun ++ item4 35 r.outlierRun ++ itemFlag 36 r.forced ++ itemFlag 37 r.lockout ++
    (if 4 ≤ k.val then
      item 38 (match r.binding with
        | none => []
        | some (i, g) => [byte i.val, byte g.val])
     else []) ++
    item 96 (sampleBytes (p.input k).last) ++ itemFlag 97 (p.selected == some k)

/-- LOOK on table 1 (R40). -/
def lookReference (index : Byte) (p : Part) : Reply :=
  match indexOf 6 index with
  | none => .refused .noSuch
  | some k => .doneWith (lookReferenceBody k p)

/-! ## Return bindings (R54 to R56, R116) -/

/-- A record's return binding field is written (R116). -/
def setReturnBinding (i : RecordIx) (b : Option SlotIx) (p : Part) : Part :=
  p.setRecord i { p.record i with returnBinding := b }

/-- BIND on a slot and a record that pass every check (R54). -/
def bindSlot (k : SlotIx) (i : RecordIx) (p : Part) : Part :=
  choose .better (leaveDisabled k (setReturnBinding i (some k)
    (withSlot k (fun r => { r with binding := some (i, (p.record i).generation) }) p)))

/-- BIND (R54): the first check that fails gives the reply. -/
def bindRequest (slot index : Byte) (p : Part) : Part × Reply :=
  match indexOf 6 slot with
  | none => (p, .refused .noSuch)
  | some k =>
    if k.val < 4 then (p, .refused .state)
    else match indexOf 48 index with
      | none => (p, .refused .noSuch)
      | some i =>
        if (p.record i).state = .vacant then (p, .refused .vacant)
        else if (p.record i).state = .retiring then (p, .refused .state)
        else if (p.slot k).binding = some (i, (p.record i).generation) then (p, .doneWith (slotBody k p))
        else if (p.slot k).binding ≠ none then (p, .refused .bound)
        else if (p.record i).returnBinding ≠ none then (p, .refused .bound)
        else (bindSlot k i p, .doneWith (slotBody k (bindSlot k i p)))

/-- The binding is removed from the slot and from its record, and the slot enters DISABLED (R55, R56). -/
def unbindSlot (loss : SelectionCause) (k : SlotIx) (p : Part) : Part :=
  let q := match (p.slot k).binding with
    | some (i, _) => setReturnBinding i none p
    | none => p
  choose loss (enterDisabled k (withSlot k (fun r => { r with binding := none }) q))

/-- UNBIND (R55). -/
def unbindRequest (slot : Byte) (p : Part) : Part × Reply :=
  match indexOf 6 slot with
  | none => (p, .refused .noSuch)
  | some k =>
    if k.val < 4 then (p, .refused .state)
    else if (p.slot k).binding = none then (p, .doneWith (slotBody k p))
    else if p.selected = some k then (p, .refused .bound)
    else (unbindSlot .disabled k p, .doneWith (slotBody k (unbindSlot .disabled k p)))

/-- The Record Table reports that a bound record becomes VACANT or enters RETIRING: the slot bound to that index and
generation is unbound and disabled at once, whatever its hold-off (R56). -/
def recordLost (i : RecordIx) (g : Generation) (p : Part) : Part :=
  if (p.slot 4).binding = some (i, g) then unbindSlot .recordLost 4 p
  else if (p.slot 5).binding = some (i, g) then unbindSlot .recordLost 5 p
  else p

end Sys2Proof.Machine
end

