-- ==== Sys2Proof/Machine/Inputs.lean ====
section
/-! DEFINITION. The Reference Inputs (Chapter 2): how each kind of slot forms its sample, the jump check, and the
inputs' work at a hub second boundary. -/

namespace Sys2Proof.Machine

/-- A slot's input is running (R21). -/
def Part.running (p : Part) (k : SlotIx) : Bool := (p.slot k).state != .disabled

/-! ## Completion (R20, R33, R34) -/

/-- A sample completes: it becomes the slot's last completed sample, and the Selector applies it (R20, R42). -/
def completeSample (k : SlotIx) (s : Sample) (p : Part) : Part :=
  applySample k s.outcome (withInput k (fun x => { x with last := some s, completed := true }) p)

/-- The outcome of the jump check on a value, the limit in q units (R33). -/
def jumpOutcome (reference : Option Int) (limit v : Int) : SampleOutcome :=
  match reference with
  | none => .good
  | some r => if limit < magnitude (v - r) then .outlier else .good

/-- The jump reference and the jump run after the check (R33, R34). -/
def jumpAfter (limit v : Int) (x : SlotInput) : SlotInput :=
  match jumpOutcome x.jumpReference limit v with
  | .outlier =>
    if 3 ≤ x.jumpRun + 1 then { x with jumpReference := some v, jumpRun := 0 }
    else { x with jumpRun := x.jumpRun + 1 }
  | .good => { x with jumpReference := some v, jumpRun := 0 }
  | .missing => x
  | .invalid => x

/-- A sample that has passed its kind's checks completes with the outcome of the jump check (R33). -/
def completeJudged (k : SlotIx) (v : Int) (accuracy scale : Option Int) (second : Nat) (p : Part) : Part :=
  let limit := toQ (p.slot k).jumpLimit
  completeSample k
    { outcome := jumpOutcome (p.input k).jumpReference limit v, value := some v, accuracy := accuracy, scale := scale,
      second := second }
    (withInput k (jumpAfter limit v) p)

/-- A sample whose value could be read completes as INVALID, or goes on to the jump check. -/
def completeRead (k : SlotIx) (invalid : Bool) (v : Int) (accuracy scale : Option Int) (second : Nat) (p : Part) : Part :=
  if invalid then
    completeSample k
      { outcome := .invalid, value := some v, accuracy := accuracy, scale := scale, second := second } p
  else completeJudged k v accuracy scale second p

/-- A sample whose source data could not be read completes as INVALID with no value (R26, R27). -/
def completeUnread (k : SlotIx) (p : Part) : Part :=
  completeSample k { outcome := .invalid, second := p.tb.second } p

/-! ## Satellite slots (R23 to R26) -/

/-- A PPS edge is stamped and becomes the pending edge (R23); a message that is open then began before it (R24). The
interval is the plain difference of the readings, also when hub seconds have passed from 2^48 − 1 to 0 between them (log
entry 39). -/
def stampEdge (t : HubTime) (x : SlotInput) : SlotInput :=
  { x with
    pendingEdge := some { reading := t, interval := x.prevEdge.map (fun before => t.toQ - before.toQ) }
    prevEdge := some t
    message := x.message.map (fun m => { m with afterEdge := false }) }

/-- PPS_EDGE on a satellite slot (R23, R21). -/
def ppsEdge (k : SlotIx) : Part → Part :=
  unlessHeld (fun p => if p.running k then withInput k (stampEdge p.tb.counter) p else p)

/-- The value of a SAT sample (R25). -/
def satValue (seconds : Nat) (cableDelay : Int) (edge : HubTime) : Int :=
  toQ ((seconds : Int) * 1000000000 + cableDelay) - edge.toQ

/-- An edge interval outside 900,000,000 to 1,100,000,000 ns (R26). -/
def intervalWrong (interval : Option Int) : Bool :=
  match interval with
  | none => false
  | some v => decide (v < toQ 900000000 ∨ toQ 1100000000 < v)

/-- The seconds are not one more than the previous ToD seconds (R26). -/
def secondsWrong (previous : Option Nat) (seconds : Nat) : Bool :=
  match previous with
  | none => false
  | some s => seconds != s + 1

/-- Whether a SAT message with a good checksum gives an INVALID sample (R26). -/
def satInvalid (m : TodMessage) (e : PendingEdge) (previous : Option Nat) (r : SlotRecord) (permission : Bool) : Bool :=
  !m.tracking || decide (r.acceptLimit < m.estimate) || secondsWrong previous m.seconds || intervalWrong e.interval ||
    (decide (toQ 1000000 < magnitude (satValue m.seconds r.cableDelay e.reading)) && !permission)

/-- The sample of a ToD message that belongs to the pending edge (R25, R26). -/
def completeTod (k : SlotIx) (m : TodMessage) (e : PendingEdge) (previous : Option Nat) (p : Part) : Part :=
  if m.sound then
    completeRead k (satInvalid m e previous (p.slot k) p.hub.stepPermission)
      (satValue m.seconds (p.slot k).cableDelay e.reading) (some (m.estimate + (p.slot k).allowance)) (some m.scale)
      p.tb.second p
  else completeUnread k p

/-- A message with a good checksum replaces the previous ToD seconds (R24, R26). -/
def recordTod (m : TodMessage) (x : SlotInput) : SlotInput :=
  if m.sound then { x with prevTod := some m.seconds } else x

/-- A whole ToD message at a running SAT slot (R24, R22). -/
def takeTod (k : SlotIx) (beganAfterEdge : Bool) (m : TodMessage) (p : Part) : Part :=
  let x := p.input k
  let q := withInput k (recordTod m) p
  match x.pendingEdge with
  | none => q
  | some e =>
    if !beganAfterEdge then q
    else
      let q := withInput k (fun y => { y with pendingEdge := none }) q
      if x.completed then q else completeTod k m e x.prevTod q

/-- A message that has reached its length is taken at a SAT slot (R24, R201). -/
def completeTodMessage (k : SlotIx) (m : OpenMessage) (p : Part) : Part :=
  match decodeTod m.bytes with
  | none => p
  | some fields => takeTod k m.afterEdge fields p

/-- TOD_MESSAGE: characters at a SAT slot's serial input; each message they make whole is taken, and one that they leave
incomplete stays open (R24, R201). A slot that is not running ignores them (R21; log entry 37). -/
def todMessage (k : SlotIx) (characters : List SerialChar) : Part → Part :=
  unlessHeld (fun p =>
    if p.running k then
      let r := receiveCharacters 14 characters (p.input k).message
      forEach r.2 (completeTodMessage k) (withInput k (fun x => { x with message := r.1 }) p)
    else p)

/-! ## The packet slot (R27, R28, R35) -/

/-- Whether a PKT message with a good checksum gives an INVALID sample (R28). -/
def pktInvalid (m : PktMessage) : Bool := !m.valid || decide (toQ 500000000 < magnitude m.offset)

/-- The sample of a PKT message that is no repeat (R27, R28). -/
def completePkt (m : PktMessage) (p : Part) : Part :=
  completeRead pktSlot (pktInvalid m) m.offset (some (m.bound + (p.slot pktSlot).allowance)) none p.tb.second p

/-- A whole PKT sample message at the running slot (R27, R22, R35). -/
def takePkt (m : PktMessage) (p : Part) : Part :=
  let x := p.input pktSlot
  if x.discardMessages then p
  else if !m.sound then (if x.completed then p else completeUnread pktSlot p)
  else if x.lastSeq = some m.sequence then p
  else
    let q := withInput pktSlot (fun y => { y with lastSeq := some m.sequence }) p
    if x.completed then q else completePkt m q

/-- A message that has reached its length is taken at the packet slot (R27, R201). -/
def completePktMessage (m : OpenMessage) (p : Part) : Part :=
  match decodePkt m.bytes with
  | none => p
  | some fields => takePkt fields p

/-- PKT_MESSAGE: characters at the packet slot's serial input; each message they make whole is taken, and one that they
leave incomplete stays open (R27, R201). A slot that is not running ignores them (R21; log entry 37). -/
def pktMessage (characters : List SerialChar) : Part → Part :=
  unlessHeld (fun p =>
    if p.running pktSlot then
      let r := receiveCharacters 15 characters (p.input pktSlot).message
      forEach r.2 completePktMessage (withInput pktSlot (fun x => { x with message := r.1 }) p)
    else p)

/-! ## The line slot (R29, R30) -/

/-- The line clock's edges of a hub second are counted, and the latest of them is placed on the raw oscillator's count,
which is `raw` at the boundary (R29; log entry 45). -/
def LineClock.count (c : LineClock) (raw : Nat) (e : LineEdges) : LineClock :=
  if e.cycles = 0 then c else { c with cycles := c.cycles + e.cycles, edge := raw - e.since }

/-- The line clock's phase where the raw oscillator's count is `raw`: its cycles at the nominal period of 100 ns, and the
raw time since its latest edge (R29; log entry 45). -/
def LineClock.phase (c : LineClock) (raw : Nat) : Int := toQ (c.cycles * 100) + (raw - c.edge)

/-- What the LINE slot reads at a boundary (R29). -/
def Part.lineReading (p : Part) : LineReading := { phase := p.lineClock.phase p.tb.rawCount, raw := p.tb.rawCount }

/-- The edges that have come at the line clock's input by a boundary; a slot that is not running ignores them (R29,
R21). -/
def countEdges (e : LineEdges) (p : Part) : Part :=
  if p.running lineSlot then { p with lineClock := p.lineClock.count p.tb.rawCount e } else p

/-- r of a measurement: (Lt − Rt) × 65,536 × 10^9 / Rt, rounded (R29). Over an Rt of 0 the value is free (log entry 6). -/
def lineValue (start finish : LineReading) : Int :=
  let lt := finish.phase - start.phase
  let rt := finish.raw - start.raw
  if rt ≤ 0 then Config.offsetOverNoRawTime lt rt else roundDiv ((lt - rt) * (65536 * 1000000000)) rt

/-- A measured sample above 4,600 ppb is INVALID (R30). -/
def lineInvalid (r : Int) : Bool := decide (toQ 4600 < magnitude r)

/-- The LINE slot's first act at a boundary: the sample of the measurement that ends there (R29). -/
def completeLine (ended : Nat) (p : Part) : Part :=
  match (p.input lineSlot).lineStart with
  | none => p
  | some start =>
    if p.running lineSlot && p.lineClock.present then
      let r := lineValue start p.lineReading
      completeRead lineSlot (lineInvalid r) r none none ended p
    else p

/-- A boundary at which the clock is present begins the next measurement of the running slot (R29). -/
def beginLine (p : Part) : Part :=
  withInput lineSlot
    (fun x => { x with lineStart := if p.running lineSlot && p.lineClock.present then some p.lineReading else none }) p

/-- LINE_CLOCK_LOST: the second has no measurement (R30). The presence of the clock is a fact of the input, followed
whatever the slot does. -/
def loseLineClock (p : Part) : Part :=
  withInput lineSlot (fun x => { x with lineStart := none }) { p with lineClock := { p.lineClock with present := false } }

/-- LINE_CLOCK_RETURN (R30). -/
def returnLineClock (p : Part) : Part := { p with lineClock := { p.lineClock with present := true } }

/-! ## Return slots (R31, R32) -/

/-- The sample of a long echo of a bound record (R32). -/
def completeReturn (k : SlotIx) (r : ReturnFields) (asymmetry : Int) (filterHeld : Bool) (p : Part) : Part :=
  completeRead k (!ReturnFields.valid r || !filterHeld) (toQ (ReturnFields.offsetNs r))
    (some ((r.accuracy.toNat : Int) + asymmetry + (p.slot k).allowance)) none p.tb.second p

/-- An accepted echo is offered to a running return slot that is bound to its record's index and generation (R31). -/
def offerEcho (k : SlotIx) (i : RecordIx) (g : Generation) (fields : EchoFields) (filterHeld : Bool) (p : Part) : Part :=
  match fields.ret with
  | none => p
  | some r =>
    if (p.slot k).binding = some (i, g) ∧ p.running k ∧ ¬ (p.input k).completed then
      completeReturn k r (p.record i).asymmetry filterHeld p
    else p

/-! ## The boundary (R22, R29, R35) -/

/-- The MISSING sample of a slot that has run the whole second and completed nothing (R22). -/
def completeMissing (ended : Nat) (k : SlotIx) (p : Part) : Part :=
  if p.running k && (p.input k).wholeSecond && !(p.input k).completed then
    completeSample k { outcome := .missing, second := ended } p
  else p

/-- What a running slot forgets at a step-marked boundary (R35). -/
def forgetAtStep (k : SlotIx) (x : SlotInput) : SlotInput :=
  { x with
    jumpReference := none, jumpRun := 0
    pendingEdge := if k.val ≤ 1 then none else x.pendingEdge
    prevEdge := if k.val ≤ 1 then none else x.prevEdge }

/-- The new hub second at one slot: the step exemption and the marks of R22 and R35. -/
def newSecond (k : SlotIx) (p : Part) : Part :=
  let stepped := p.tb.stepMark && p.running k
  withInput k (fun x =>
    { (if stepped then forgetAtStep k x else x) with
      completed := false, wholeSecond := p.running k, discardMessages := stepped && k == pktSlot }) p

/-- The samples of a boundary: LINE's sample first, as R29 says, then the MISSING samples of the slots in ascending order
of index, each applied by the Selector with a choice of its own before the next (R22, R29, R60). The order among the slots
is the model's choice (log entry 40). -/
def boundarySamples (ended : Nat) (p : Part) : Part := forEach allSlots (completeMissing ended) (completeLine ended p)

/-- The inputs' work at a boundary: the samples, then the new second (R22, R29, R35). -/
def inputsBoundary (ended : Nat) (p : Part) : Part := forEach allSlots newSecond (beginLine (boundarySamples ended p))

/-! ## Commands -/

/-- PPS_EDGE (R23). -/
def execPpsEdge (dt : Nat) (k : SatIx) (s : State) : Host.Outcome State Fault Refusal :=
  commandDone (fun p => ppsEdge k.slot (passRaw dt p)) s

/-- TOD_MESSAGE (R24). -/
def execTodMessage (k : SatIx) (characters : List SerialChar) (s : State) : Host.Outcome State Fault Refusal :=
  commandDone (todMessage k.slot characters) s

/-- PKT_MESSAGE (R27). -/
def execPktMessage (characters : List SerialChar) (s : State) : Host.Outcome State Fault Refusal :=
  commandDone (pktMessage characters) s

/-- LINE_CLOCK_LOST (R30). -/
def execLineClockLost (s : State) : Host.Outcome State Fault Refusal := commandDone loseLineClock s

/-- LINE_CLOCK_RETURN (R30). -/
def execLineClockReturn (s : State) : Host.Outcome State Fault Refusal := commandDone returnLineClock s

end Sys2Proof.Machine
end

