-- ==== Sys2Proof/Machine/Delay.lean ====
section
/-! DEFINITION. The Delay Unit (Chapter 7): round trip, delay filter, compensation, statistics window and delivered time
error of one service record. -/

namespace Sys2Proof.Machine

/-- A service record changes. -/
def withRecord (i : RecordIx) (f : ServiceRecord → ServiceRecord) (p : Part) : Part := p.setRecord i (f (p.record i))

/-- A report for a record: its generation as it stands, and the cause number as it stands (R115, R169). -/
def recordReport (c : Condition) (isRaise : Bool) (i : RecordIx) (p : Part) : Report :=
  { owner := .record i, condition := c, isRaise := isRaise, cause := p.hub.causeNumber,
    generation := some (p.record i).generation }

/-- The same report with the one port it carries. A clear carries the fields of its condition as a raise does (R169; log
entry 15). -/
def recordPortReport (c : Condition) (isRaise : Bool) (q : PortIx) (i : RecordIx) (p : Part) : Report :=
  { recordReport c isRaise i p with ports := some (portMask q) }

def raiseRecord (c : Condition) (q : PortIx) (i : RecordIx) (p : Part) : Part := report (recordPortReport c true q i p) p
def clearRecord (c : Condition) (q : PortIx) (i : RecordIx) (p : Part) : Part := report (recordPortReport c false q i p) p

/-- A clear of a time error condition, which carries the TE value too (R152). -/
def clearTe (c : Condition) (te : Option Int) (q : PortIx) (i : RecordIx) (p : Part) : Part :=
  report { recordPortReport c false q i p with te := te } p

/-! ## Compensation (R146) -/

/-- The greatest C: 2,000,000 ns in q-ns. -/
def compensationLimit : Int := 131072000000

/-- C of a filter and a static offset in ns (R146). -/
def compensationOf (filter : Option Int) (staticOffset : Int) : Int :=
  match filter with
  | none => 0
  | some d => clampTo 0 compensationLimit (d + toQ staticOffset)

/-- C is formed afresh (R146). -/
def ServiceRecord.formCompensation (r : ServiceRecord) : ServiceRecord :=
  { r with compensation := compensationOf r.filter r.staticOffset }

/-! ## The statistics window (R148 to R150) -/

/-- What one DELAY slot counts for in the window (R148). -/
inductive SlotCount where
  | measured (rtd : Int)
  | unmeasured
  | missed
  deriving DecidableEq, Repr

/-- One slot added to the window, before it is compared with 64 (R148). -/
def StatWindow.add (w : StatWindow) : SlotCount → StatWindow
  | .measured v =>
    { count := w.count + 1, minRtd := some (min v (w.minRtd.getD v)), maxRtd := some (max v (w.maxRtd.getD v)),
      good := w.good + 1, missed := w.missed }
  | .unmeasured => { w with count := w.count + 1 }
  | .missed => { w with count := w.count + 1, missed := w.missed + 1 }

/-- The half-spread latched at a close: rounded up to the whole q (R149). -/
def StatWindow.spread (w : StatWindow) : Int := ceilDiv (w.maxRtd.getD 0 - w.minRtd.getD 0) 2

/-- The window closes: it latches or goes stale, and restarts (R149). -/
def closeWindow (w : StatWindow) (r : ServiceRecord) : ServiceRecord :=
  if 2 ≤ w.good then { r with halfSpread := some w.spread, stale := false, window := {} }
  else { r with stale := true, window := {} }

/-- A slot is counted while the statistics are enabled; the 64th closes the window (R148, R149). -/
def countSlot (c : SlotCount) (r : ServiceRecord) : ServiceRecord :=
  if r.statistics then
    if 64 ≤ (r.window.add c).count then closeWindow (r.window.add c) r else { r with window := r.window.add c }
  else r

/-- The statistics are turned off: the window is emptied, and a held half-spread goes stale (R141, R150). -/
def stopStatistics (r : ServiceRecord) : ServiceRecord :=
  { r with statistics := false, window := {}, stale := r.stale || r.halfSpread.isSome }

/-- A write of the statistics enabled flag by the host (R99, R150). -/
def writeStatistics (on : Bool) (r : ServiceRecord) : ServiceRecord :=
  if on then { r with statistics := true, window := {} } else stopStatistics r

/-! ## The delay filter (R142 to R145) -/

/-- The one-way delay of a round trip (R142). -/
def oneWayDelay (rtd share : Int) : Int := roundDiv (rtd * share) 65536

/-- The gate: 200 ns in q-ns (R144). -/
def gateLimit : Int := 13107200

/-- What the filter makes of a one-way delay. -/
inductive FilterAction where
  | initialised | accepted | rejected | reinitialised
  deriving DecidableEq, Repr

def filterAction (r : ServiceRecord) (d : Int) : FilterAction :=
  match r.filter with
  | none => .initialised
  | some f =>
    if magnitude (d - f) ≤ gateLimit then .accepted
    else if 5 ≤ r.outlierRun + 1 then .reinitialised
    else .rejected

/-- The filter and the outlier run after a one-way delay (R143 to R145). -/
def filterDelay (d : Int) (r : ServiceRecord) : ServiceRecord :=
  match filterAction r d with
  | .initialised => { r with filter := some d, outlierRun := 0 }
  | .accepted => { r with filter := r.filter.map (fun f => f + roundDiv (d - f) 8), outlierRun := 0 }
  | .rejected => { r with outlierRun := r.outlierRun + 1 }
  | .reinitialised => { r with filter := some d, outlierRun := 0 }

/-- The protect offset shifts a held filter at a move (R147, R158, R165). -/
def reseed (shift : Int) (r : ServiceRecord) : ServiceRecord :=
  ServiceRecord.formCompensation { r with filter := r.filter.map (fun f => f + shift), outlierRun := 0, window := {} }

/-- The delay state that a DISTRESS discards (R110, R150, R152). A record without a filter has no TE (R151; log entry
16). -/
def discardDelay (r : ServiceRecord) : ServiceRecord :=
  { r with filter := none, outlierRun := 0, compensation := 0, window := {}, halfSpread := none, stale := false,
           te := none, teState := .unmeasured, prevLink := none }

/-! ## Delivered time error (R151 to R153) -/

/-- The link term L (R151). -/
def ServiceRecord.linkTerm (r : ServiceRecord) : Int := toQ r.asymmetry + r.halfSpread.getD 0

/-- The verdict of a TE against a budget in ns (R152). -/
def verdictOf (te budget : Int) : TeState :=
  if 4 * te ≤ 3 * toQ budget then .within
  else if te ≤ toQ budget then .marginal
  else .exceeded

/-- Whether a raise at a judgement with link term `l` is ancillary (R153). -/
def ancillaryRaise (prevLink : Option Int) (l : Int) (cause : Nat) : Bool :=
  match prevLink with
  | none => false
  | some before => decide (l ≤ before) && cause != 0

/-- The reports of a judgement that moves the TE state from `before` to `verdict`, in the order in which the table of R152
lists them (log entry 17). -/
def reportVerdict (before verdict : TeState) (te : Int) (ancillary : Bool) (q : PortIx) (i : RecordIx) (p : Part) :
    Part :=
  let raised (c : Condition) : Report :=
    { recordPortReport c true q i p with te := some te, ancillary := ancillary }
  let cleared (c : Condition) : Report := { recordPortReport c false q i p with te := some te }
  match before, verdict with
  | .unmeasured, .marginal => report (raised .teMarginal) p
  | .within, .marginal => report (raised .teMarginal) p
  | .unmeasured, .exceeded => report (raised .teExceeded) p
  | .within, .exceeded => report (raised .teExceeded) p
  | .marginal, .within => report (cleared .teMarginal) p
  | .marginal, .exceeded => reportPair false (raised .teExceeded) (cleared .teMarginal) p
  | .exceeded, .marginal => reportPair true (raised .teMarginal) (cleared .teExceeded) p
  | .exceeded, .within => report (cleared .teExceeded) p
  | .unmeasured, .within => p
  | .unmeasured, .unmeasured => p
  | .within, .within => p
  | .within, .unmeasured => p
  | .marginal, .marginal => p
  | .marginal, .unmeasured => p
  | .exceeded, .exceeded => p
  | .exceeded, .unmeasured => p

/-- The time error judgement at a slot that port `q` carried (R151 to R153). -/
def judgeTe (q : PortIx) (i : RecordIx) (p : Part) : Part :=
  let r := p.record i
  match r.filter with
  | none => p
  | some _ =>
    let l := r.linkTerm
    let te := p.hub.bound + l
    let verdict := verdictOf te r.budget
    reportVerdict r.teState verdict te (ancillaryRaise r.prevLink l p.hub.causeNumber) q i
      (withRecord i (fun r => { r with te := some te, teState := verdict, prevLink := some l }) p)

/-! ## One DELAY slot outcome (R139 to R141) -/

/-- The round trip of an echo, or none when it is unmeasured (R140, R127). -/
def roundTrip (t1 t4 : Option Stamp) (turnaround : Nat) : Option Int :=
  match t1, t4 with
  | some a, some b => if a.inHold || b.inHold then none else some (b.time.toQ - a.time.toQ - toQ turnaround)
  | _, _ => none

/-- An RTD that the measurement check discards (R141). -/
def rtdWrong (rtd : Int) : Bool := decide (rtd ≤ 0 ∨ 65536000000 < rtd)

/-- A measurement check (R141). -/
def measurementCheck (q : PortIx) (i : RecordIx) (p : Part) : Part :=
  withRecord i stopStatistics (raiseRecord .measCheck q i p)

/-- A round trip that passes the check: filter, compensation, DELAY_STEP and statistics (R142 to R149). -/
def takeDelay (rtd : Int) (q : PortIx) (i : RecordIx) (p : Part) : Part :=
  let d := oneWayDelay rtd (p.record i).share
  let step := filterAction (p.record i) d
  let p := withRecord i (fun r => (filterDelay d r).formCompensation) p
  let p := match step with
    | .reinitialised => raiseRecord .delayStep q i p
    | .initialised => p
    | .accepted => p
    | .rejected => p
  withRecord i (countSlot (.measured rtd)) p

/-- The Delay Unit's work for an accepted echo (R139). -/
def measureEcho (rtd : Option Int) (q : PortIx) (i : RecordIx) (p : Part) : Part :=
  judgeTe q i
    (match rtd with
     | none => withRecord i (countSlot .unmeasured) p
     | some v => if rtdWrong v then measurementCheck q i p else takeDelay v q i p)

/-- The Delay Unit's work for a missing outcome (R139). -/
def measureMissing (q : PortIx) (i : RecordIx) (p : Part) : Part :=
  judgeTe q i (withRecord i (countSlot .missed) p)

end Sys2Proof.Machine
end

