-- ==== Sys2Proof/Machine/Records.lean ====
section
/-! DEFINITION. The Record Table (Chapter 5): requests on records, staged changes, enrolment, slot outcomes, and the four
ways a record ends. -/

namespace Sys2Proof.Machine

/-! ## Ports that become bound (R134) -/

/-- A port becomes bound: a PARKED port starts running, and a running port's idle count becomes 0 (R134). -/
def PortRecord.bind (r : PortRecord) : PortRecord :=
  match r.state with
  | .parked => { r with state := .running, idleCount := 0 }
  | .running => { r with idleCount := 0 }
  | .disabled => r

def bindPort (q : PortIx) (p : Part) : Part := p.setPort q (p.port q).bind

/-! ## A record becomes VACANT (R112) -/

/-- What a record keeps when it becomes VACANT: its generation (R112); its other fields take the defaults of creation (log
entry 46). -/
def ServiceRecord.vacated (r : ServiceRecord) : ServiceRecord := { generation := r.generation }

/-- The clears of the standing conditions a record holds (R112). -/
def clearStandings (i : RecordIx) (p : Part) : Part :=
  let r := p.record i
  let q := r.currentPort
  clearRecord .lineFault q i (clearTe .teExceeded r.te q i (clearTe .teMarginal r.te q i (clearRecord .silent q i p)))

/-- A record becomes VACANT: the Selector is told of a bound record, the standing conditions are cleared, and the fields
are discarded (R112, R116; log entry 32). -/
def vacate (i : RecordIx) (p : Part) : Part :=
  let p := if (p.record i).returnBinding.isSome then recordLost i (p.record i).generation p else p
  withRecord i ServiceRecord.vacated (clearStandings i p)

/-- A record ends with LEFT, which carries its identity and the port of the LEAVE (R111). -/
def endLeft (q : PortIx) (i : RecordIx) (p : Part) : Part :=
  let x := (p.record i).identity
  let p := vacate i p
  report { recordPortReport .left true q i p with identity := x } p

/-- A record ends with RETIRED, which carries its identity and the detail (R109, R113, R114). -/
def endRetired (detail : Detail) (i : RecordIx) (p : Part) : Part :=
  let x := (p.record i).identity
  let p := vacate i p
  report { recordReport .retired true i p with identity := x, detail := some detail } p

/-! ## Creation (R92, R97, R104) -/

/-- The record that a creation makes at an index, with the defaults of R91; the generation is lengthened first (R92). -/
def created (old : ServiceRecord) (q : PortIx) (a : Address) (identity : Option Identity) (budget : Int) :
    ServiceRecord :=
  { state := .reserved, generation := nextGeneration old.generation, homePort := q, currentPort := q, address := a,
    identity := identity, budget := budget }

/-- The host-written fields that are written at once, identity apart (R91, R99). -/
def writeImmediate (items : List Item) (r : ServiceRecord) : ServiceRecord :=
  let r :=
    { r with
      budget := (numberWritten items 2).getD r.budget
      asymmetry := (numberWritten items 3).getD r.asymmetry
      protectOffset := (numberWritten items 6).getD r.protectOffset
      eligible := (flagWritten items 7).getD r.eligible
      silentLimit := (numberWritten items 8).getD r.silentLimit
      autoRetire := (numberWritten items 9).getD r.autoRetire }
  match flagWritten items 10 with
  | some on => writeStatistics on r
  | none => r

/-- CREATE writes the share and the static offset live (R97). -/
def writeLive (items : List Item) (r : ServiceRecord) : ServiceRecord :=
  { r with share := (numberWritten items 4).getD r.share, staticOffset := (numberWritten items 5).getD r.staticOffset }

/-- CREATE that passes every check (R97). -/
def createAt (i : RecordIx) (q : PortIx) (a : Address) (items : List Item) (p : Part) : Part :=
  bindPort q
    (withRecord i (fun old =>
      writeLive items (writeImmediate items (created old q a ((identityWritten items).getD none) 1500))) p)

/-- The DONE body of CREATE: the index and the new generation (R199). -/
def createBody (i : RecordIx) (p : Part) : List Byte := [byte i.val, byte (p.record i).generation.val]

/-- Whether an identity, when given, is held by a non-VACANT record (R94, R97). -/
def Part.identityTaken (p : Part) (x : Option Identity) : Bool :=
  match x with
  | none => false
  | some v => (p.identityHolder v).isSome

/-- CREATE (R97): the first check that fails gives the reply. -/
def createRequest (port address : Byte) (body : List Byte) (p : Part) : Part × Reply :=
  match readItems recordFields body, indexOf 4 address with
  | some items, some a =>
    match indexOf 12 port with
    | none => (p, .refused .noSuch)
    | some q =>
      if !p.addressFree q a then (p, .refused .conflict)
      else if p.identityTaken ((identityWritten items).getD none) then (p, .refused .conflict)
      else match p.usableRecord with
        | none => (p, .refused .full)
        | some i =>
          (createAt i q a items p,
           { code := .done, clamped := anyClamped items, body := createBody i (createAt i q a items p) })
  | _, _ => (p, .refused .badRequest)

/-! ## LOOK, SET and FIND (R95 to R101) -/

/-- A staged value under its live field's identifier plus 128; an absent one is left out (R95, R199; log entry 11). -/
def stagedItem (field : Nat) (staged : Option Int) : List Byte :=
  match staged with
  | none => []
  | some v => item4 (field + 128) v

/-- The items of a record that is not VACANT: every field of R91 (R95). -/
def recordItems (r : ServiceRecord) (standing : BitVec 16) : List Byte :=
  item1 32 r.state.code ++ item1 33 r.generation.val ++ item1 34 r.homePort.val ++ item1 35 r.currentPort.val ++
    item1 36 r.address.val ++ itemIdentity 1 r.identity ++ item4 2 r.budget ++ item4 3 r.asymmetry ++ item4 4 r.share ++
    stagedItem 4 r.stagedShare ++ item4 5 r.staticOffset ++ stagedItem 5 r.stagedOffset ++ item4 6 r.protectOffset ++
    itemFlag 7 r.eligible ++ item4 8 r.silentLimit ++ item4 37 r.silentCount ++ item4 9 r.autoRetire ++
    item4 38 r.silentSeconds ++ itemFlag 10 r.statistics ++ item8? 39 r.filter ++ item4 40 r.outlierRun ++
    item8 41 r.compensation ++ item4 42 r.window.count ++ item8? 43 r.window.minRtd ++ item8? 44 r.window.maxRtd ++
    item4 45 r.window.good ++ item4 46 r.window.missed ++ item8? 47 r.halfSpread ++ itemFlag 48 r.stale ++
    item8? 49 r.te ++ item1 50 r.teState.code ++ item8? 51 r.prevLink ++ item 52 (bytesOf 2 standing.toNat) ++
    item1 53 (codeOrNone r.returnBinding) ++ itemFlag 54 r.resetRequest ++
    item 55 (match r.lastPort with
      | none => []
      | some q => [byte q.val]) ++
    itemFlag 56 r.blocked ++ item4 57 r.dismissAttempts

/-- The body of LOOK on table 0 (R95). -/
def lookRecordBody (i : RecordIx) (p : Part) : List Byte :=
  let r := p.record i
  if r.state = .vacant then item1 32 r.state.code ++ item1 33 r.generation.val ++ itemFlag 96 (p.recordHeld i)
  else recordItems r (p.standingOfRecord i)

/-- LOOK on table 0 (R95). -/
def lookRecord (index : Byte) (p : Part) : Reply :=
  match indexOf 48 index with
  | none => .refused .noSuch
  | some i => .doneWith (lookRecordBody i p)

/-- A SET's named fields: the immediate ones and the identity are written, the others staged (R98 to R100). -/
def writeRecord (items : List Item) (r : ServiceRecord) : ServiceRecord :=
  { writeImmediate items r with
    identity := (identityWritten items).getD r.identity
    stagedShare := newer (numberWritten items 4) r.stagedShare
    stagedOffset := newer (numberWritten items 5) r.stagedOffset }

/-- An identity named is held by another non-VACANT record (R98). -/
def Part.identityElsewhere (p : Part) (i : RecordIx) (x : Option Identity) : Bool :=
  match x with
  | none => false
  | some v => allRecords.any (fun j => j != i && (p.record j).state != .vacant && (p.record j).identity == some v)

/-- Whether a SET stages a field (R98). -/
def anyStaged (items : List Item) : Bool := (numberWritten items 4).isSome || (numberWritten items 5).isSome

/-- SET on table 0 (R98). -/
def setRecordRequest (index : Byte) (body : List Byte) (p : Part) : Part × Reply :=
  match readItems recordFields body with
  | none => (p, .refused .badRequest)
  | some items =>
    match indexOf 48 index with
    | none => (p, .refused .noSuch)
    | some i =>
      if (p.record i).state = .vacant then (p, .refused .vacant)
      else if (p.record i).state = .retiring then (p, .refused .state)
      else if (identityWritten items).isSome ∧ (p.record i).state ≠ .reserved then (p, .refused .state)
      else if p.identityElsewhere i ((identityWritten items).getD none) then (p, .refused .conflict)
      else
        (withRecord i (writeRecord items) p,
         { code := .done, clamped := anyClamped items, staged := anyStaged items })

/-- The DONE body of FIND (R199). -/
def findBody (i : RecordIx) (matched : Nat) (p : Part) : List Byte :=
  let r := p.record i
  [byte i.val, byte r.generation.val, byte r.state.code, byte matched, byte r.currentPort.val]

/-- FIND by port and address (R96). -/
def findByPort (port address : Byte) (p : Part) : Reply :=
  match indexOf 4 address with
  | none => .refused .badRequest
  | some a =>
    match indexOf 12 port with
    | none => .refused .noSuch
    | some q =>
      match allRecords.find? (fun i => (p.record i).counts q && (p.record i).address == a) with
      | none => .refused .noSuch
      | some i =>
        .doneWith (findBody i (flagCode ((p.record i).homePort == q) + 2 * flagCode ((p.record i).currentPort == q)) p)

/-- FIND by identity (R96). -/
def findByIdentity (x : Identity) (p : Part) : Reply :=
  match p.identityHolder x with
  | none => .refused .noSuch
  | some i => .doneWith (findBody i 0 p)

/-! ## RETIRE (R113) -/

/-- An ACTIVE record enters RETIRING: the staged change is removed and a return slot is unbound (R113, R116). -/
def enterRetiring (i : RecordIx) (p : Part) : Part :=
  let g := (p.record i).generation
  recordLost i g
    (withRecord i (fun r =>
      { r with state := .retiring, stagedOffset := none, stagedShare := none, dismissAttempts := 0 }) p)

/-- RETIRE of a record that passes the checks (R113). -/
def retireRecord (i : RecordIx) (p : Part) : Part :=
  if (p.record i).state = .active then enterRetiring i p else endRetired .immediate i p

/-- The DONE body of RETIRE (R199). -/
def retireBody (i : RecordIx) (p : Part) : List Byte :=
  [byte i.val, byte (p.record i).generation.val, byte (p.record i).state.code]

/-- RETIRE (R113). -/
def retireRequest (index : Byte) (p : Part) : Part × Reply :=
  match indexOf 48 index with
  | none => (p, .refused .noSuch)
  | some i =>
    if (p.record i).state = .vacant then (p, .refused .vacant)
    else if (p.record i).state = .retiring then (p, .refused .state)
    else if (p.record i).returnBinding.isSome ∧ (p.record i).returnBinding = p.selected then (p, .refused .bound)
    else (retireRecord i p, .doneWith (retireBody i (retireRecord i p)))

/-! ## The boundary (R101, R109) -/

/-- A staged change becomes live (R101), and a new static offset enters C (R147). -/
def applyStaged (r : ServiceRecord) : ServiceRecord :=
  let s :=
    { r with
      share := r.stagedShare.getD r.share, staticOffset := r.stagedOffset.getD r.staticOffset
      stagedShare := none, stagedOffset := none }
  if r.stagedOffset.isSome then s.formCompensation else s

/-- The silent seconds after a boundary (R109). -/
def nextSilentSeconds (n : Nat) : Nat := min (n + 1) 65535

/-- A SILENT record whose auto-retire time has come at this boundary (R109). -/
def retiresNow (r : ServiceRecord) : Bool :=
  r.state == .silent && r.autoRetire != 0 && decide (r.autoRetire ≤ nextSilentSeconds r.silentSeconds)

/-- One record at a boundary (R101, R109). -/
def recordBoundary (i : RecordIx) (p : Part) : Part :=
  let retires := retiresNow (p.record i)
  let p := withRecord i (fun r =>
    let s := applyStaged r
    if s.state = .silent then { s with silentSeconds := nextSilentSeconds s.silentSeconds } else s) p
  if retires then endRetired .auto i p else p

/-- The Record Table at a boundary, in ascending order of index; the order of several auto-retirements at one boundary,
which orders their entries in the list, is the model's choice (R109; log entry 42). -/
def recordsBoundary (p : Part) : Part := forEach allRecords recordBoundary p

/-! ## Enrolment (R102 to R106) -/

/-- A RESERVED record on a port. -/
def ServiceRecord.reservedOn (r : ServiceRecord) (q : PortIx) : Bool := r.state == .reserved && r.currentPort == q

/-- The holder of an identity that clashes with an ENROL on a port (R102). -/
def Part.clashing (p : Part) (q : PortIx) (x : Identity) : Option RecordIx :=
  allRecords.find? (fun i =>
    (p.record i).state != .vacant && (p.record i).identity == some x && !(p.record i).reservedOn q)

/-- The RESERVED record that an ENROL is bound to: the one that holds the identity, else one that holds none (R103). -/
def Part.reservedFor (p : Part) (q : PortIx) (x : Identity) (wish : Option Address) : Option RecordIx :=
  match allRecords.find? (fun i => (p.record i).reservedOn q && (p.record i).identity == some x) with
  | some i => some i
  | none =>
    allRecords.find? (fun i =>
      (p.record i).reservedOn q && (p.record i).identity == none &&
        match wish with
        | none => true
        | some a => (p.record i).address == a)

/-- The address that an enrolment in OPEN mode takes: the wish when it is free, else the lowest free one (R104). -/
def Part.enrolAddress (p : Part) (q : PortIx) (wish : Option Address) : Option Address :=
  match wish with
  | some a => if p.addressFree q a then some a else (p.freeAddresses q).head?
  | none => (p.freeAddresses q).head?

/-- A record enters PENDING by an ENROL and raises ENROLLED (R105). -/
def enrolRecord (q : PortIx) (x : Identity) (i : RecordIx) (p : Part) : Part :=
  let p := withRecord i (fun r =>
    { r with state := .pending, identity := some x, silentCount := 0, silentSeconds := 0, dismissAttempts := 0,
             resetRequest := false }) p
  report { recordPortReport .enrolled true q i p with identity := some x } p

/-- A refusal under R106. -/
def refuseEnrol (q : PortIx) (x : Identity) (detail : Detail) (p : Part) : Part :=
  let p := withHub (fun h => { h with lastRefused := some x }) p
  report { p.hubReport .enrolRefused true with
    identity := some x, ports := some (portMask q), detail := some detail } p

/-- The Record Table decides an ENROL: the table as it leaves it, and the content of the VERDICT (R102 to R106). -/
def decideEnrol (q : PortIx) (x : Identity) (wish : Option Address) (p : Part) : Part × VerdictResult :=
  match p.clashing q x with
  | some i => (report { recordPortReport .identityClash true q i p with identity := some x } p, .refuse .duplicate)
  | none =>
    match p.reservedFor q x wish with
    | some i => (enrolRecord q x i p, .admitted (p.record i).address)
    | none =>
      match (p.port q).mode with
      | .closed => (refuseEnrol q x .closed p, .refuse .closed)
      | .open =>
        match p.enrolAddress q wish, p.usableRecord with
        | some a, some i =>
          (enrolRecord q x i
            (bindPort q (withRecord i (fun old => created old q a (some x) (p.port q).defaultBudget) p)),
           .admitted a)
        | _, _ => (refuseEnrol q x .full p, .refuse .full)

/-! ## Slot outcomes (R107, R108, R110, R111, R114) -/

/-- The outcome of a record's slot (R125). -/
inductive SlotOutcome where
  | echo (fields : EchoFields)
  | distress
  | leave
  | missing
  deriving DecidableEq, Repr

/-- The state after an accepted echo, judged on whether a filter is held (R107). -/
def stateAfterEcho (state : RecordState) (filterHeld : Bool) : RecordState :=
  match state with
  | .pending => if filterHeld then .active else .pending
  | .silent => if filterHeld then .active else .pending
  | .active => .active
  | .vacant => .vacant
  | .reserved => .reserved
  | .retiring => .retiring

/-- An accepted echo applied to the record (R107). -/
def recordEcho (q : PortIx) (i : RecordIx) (p : Part) : Part :=
  let wasSilent := (p.record i).state == .silent
  let p := withRecord i (fun r =>
    { r with lastPort := some q, silentCount := 0, silentSeconds := 0,
             state := stateAfterEcho r.state r.filter.isSome }) p
  if wasSilent then clearRecord .silent q i p else p

/-- An accepted echo of a record in PENDING, ACTIVE or SILENT: the Delay Unit, the record, and a bound return slot
(R107, R127, R31). The return slot is offered the echo after both, so that the time error judgement of this echo reads U
and the cause number before any selection change that the sample brings: the model's choice (log entry 41). -/
def takeEcho (q : PortIx) (t : SlotTarget) (t1 t4 : Option Stamp) (fields : EchoFields) (p : Part) : Part :=
  let p := recordEcho q t.record (measureEcho (roundTrip t1 t4 fields.turnaround.toNat) q t.record p)
  offerEcho 5 t.record t.generation fields t.filterHeld (offerEcho 4 t.record t.generation fields t.filterHeld p)

/-- A missing outcome lengthens the silent count of a PENDING or ACTIVE record (R108). SILENT carries the port of the slot
that ended, also where the record has been moved during the slot (R115): the model's choice (log entry 15). -/
def countMissing (q : PortIx) (i : RecordIx) (p : Part) : Part :=
  let r := p.record i
  if r.state = .pending ∨ r.state = .active then
    if r.silentLimit ≤ r.silentCount + 1 then
      raiseRecord .silent q i
        (withRecord i (fun r => { r with silentCount := r.silentCount + 1, state := .silent, silentSeconds := 0 }) p)
    else withRecord i (fun r => { r with silentCount := r.silentCount + 1 }) p
  else p

/-- A DISTRESS (R110). Its raise carries the port of the slot in which it came, also where the record has been moved
during the slot (R115): the model's choice (log entry 15). -/
def takeDistress (q : PortIx) (i : RecordIx) (p : Part) : Part :=
  let te := (p.record i).te
  let p := raiseRecord .distress q i p
  let p := clearRecord .silent q i (clearTe .teExceeded te q i (clearTe .teMarginal te q i p))
  withRecord i (fun r =>
    { discardDelay r with state := .pending, silentCount := 0, silentSeconds := 0, resetRequest := true }) p

/-- An outcome for a record in PENDING, ACTIVE or SILENT (R107, R108, R110, R111, R139). -/
def liveOutcome (q : PortIx) (t : SlotTarget) (t1 t4 : Option Stamp) (o : SlotOutcome) (p : Part) : Part :=
  match o with
  | .echo fields => takeEcho q t t1 t4 fields p
  | .distress => takeDistress q t.record p
  | .leave => endLeft q t.record p
  | .missing => countMissing q t.record (measureMissing q t.record p)

/-- An outcome for a record in RETIRING: any outcome but LEAVE of a slot that began before is discarded, and a third
dismiss attempt ends the record (R114). -/
def retiringOutcome (t : SlotTarget) (o : SlotOutcome) (p : Part) : Part :=
  if o = .leave then endRetired .acknowledged t.record p
  else if t.dismiss ∧ 3 ≤ (p.record t.record).dismissAttempts then endRetired .unacknowledged t.record p
  else p

/-- A slot's outcome reaches its record, unless the record has become VACANT or has a new occupant (R112, R118). -/
def recordOutcome (q : PortIx) (t : SlotTarget) (t1 t4 : Option Stamp) (o : SlotOutcome) (p : Part) : Part :=
  if (p.record t.record).generation = t.generation then
    match (p.record t.record).state with
    | .vacant => p
    | .reserved => p
    | .pending => liveOutcome q t t1 t4 o p
    | .active => liveOutcome q t t1 t4 o p
    | .silent => liveOutcome q t t1 t4 o p
    | .retiring => retiringOutcome t o p
  else p

/-- The port reports a DELAY frame sent whole: the reset-request flag is cleared (R110, R124), in RETIRING too (log entry
18). -/
def delaySent (t : SlotTarget) (p : Part) : Part :=
  if (p.record t.record).generation = t.generation ∧ (p.record t.record).state ≠ .vacant then
    withRecord t.record (fun r => { r with resetRequest := false }) p
  else p

end Sys2Proof.Machine
end

