-- ==== Sys2Proof/Machine/Protection.lean ====
section
/-! DEFINITION. The Protection Unit (Chapter 8): switch passes, returns, wait-to-restore, sweeps, and the LINE_FAULT and
blocked marks of records. -/

namespace Sys2Proof.Machine

/-- A pair record changes. -/
def withPair (k : PairIx) (f : PairRecord → PairRecord) (p : Part) : Part := p.setPair k (f (p.pair k))

/-- A protect port is usable when it is enabled and CLEAN (R155). -/
def Part.usablePort (p : Part) (q : PortIx) : Bool := (p.port q).enabled && (p.port q).line == .clean

/-- A port stands in line state FAULT. -/
def Part.faulted (p : Part) (q : PortIx) : Bool := (p.port q).line == .fault

/-! ## Switching over (R157, R158) -/

/-- A candidate of a switch pass (R157). -/
def ServiceRecord.candidate (r : ServiceRecord) (k : PairIx) : Bool :=
  r.state != .vacant && r.homePort == workingPort k && r.currentPort == workingPort k && r.eligible && r.state != .retiring

/-- A switched record of a pair (R155). -/
def ServiceRecord.switched (r : ServiceRecord) (k : PairIx) : Bool :=
  r.state != .vacant && r.homePort == workingPort k && r.currentPort == protectPort k

/-- The three checks of a move (R157). -/
def Part.movable (p : Part) (k : PairIx) (i : RecordIx) : Bool :=
  p.usablePort (protectPort k) && decide (p.portCount (protectPort k) < 4) &&
    p.addressFree (protectPort k) (p.record i).address

/-- A record is moved from the working port to the protect port (R158). -/
def moveRecord (k : PairIx) (i : RecordIx) (p : Part) : Part :=
  let p := withRecord i (fun r =>
    { reseed (toQ r.protectOffset) r with currentPort := protectPort k, blocked := false }) p
  bindPort (protectPort k)
    (raiseRecord .switched (protectPort k) i (clearRecord .lineFault (workingPort k) i p))

/-- One record considered by a switch pass: moved, or blocked (R157). -/
def considerRecord (k : PairIx) (i : RecordIx) (p : Part) : Part :=
  if (p.record i).candidate k then
    if p.movable k i then moveRecord k i p else withRecord i (fun r => { r with blocked := true }) p
  else p

/-- A switch pass, in ascending order of index (R157). -/
def switchPass (k : PairIx) (p : Part) : Part := forEach allRecords (considerRecord k) p

/-! ## Returning (R163, R165) -/

/-- A switched record after its return: a RETIRING record's delay state stays frozen (R165). -/
def returned (k : PairIx) (r : ServiceRecord) : ServiceRecord :=
  { (if r.state = .retiring then r else reseed (-toQ r.protectOffset) r) with
    currentPort := workingPort k, blocked := false }

/-- One record at a return (R165). -/
def returnRecord (k : PairIx) (i : RecordIx) (p : Part) : Part :=
  if (p.record i).switched k then
    raiseRecord .switched (workingPort k) i (clearRecord .lineFault (protectPort k) i (withRecord i (returned k) p))
  else p

/-- The blocked flag of every record of the pair is cleared (R159, R163, R165). -/
def clearBlocked (k : PairIx) (p : Part) : Part :=
  forEach allRecords (fun i p =>
    if pairOf (p.record i).homePort = k then withRecord i (fun r => { r with blocked := false }) p else p) p

/-- A return of a pair: every switched record, then NORMAL (R165). -/
def returnPair (k : PairIx) (p : Part) : Part :=
  clearBlocked k (withPair k (fun r => { r with state := .normal, waitCount := 0 })
    (forEach allRecords (returnRecord k) p))

/-- Entry to RESTORE_WAIT, or the return at once of a WTR of 0 (R163). -/
def enterWait (k : PairIx) (p : Part) : Part :=
  let p := clearBlocked k (withPair k (fun r => { r with state := .restoreWait, waitCount := 0 }) p)
  if (p.pair k).wtr ≤ 0 then returnPair k p else p

/-! ## LINE_FAULT (R159) -/

/-- Every record on a port in FAULT that does not hold LINE_FAULT raises it, in ascending order of index, which is the
model's choice (R159; log entry 42). -/
def markFaulted (q : PortIx) (p : Part) : Part :=
  forEach allRecords (fun i p =>
    if (p.record i).on q && !hasCondition (p.standingOfRecord i) .lineFault then raiseRecord .lineFault q i p else p) p

/-- LINE_FAULT is cleared on every record on a port that leaves FAULT, in ascending order of index, which is the model's
choice (R159, R163, R167; log entry 42). -/
def clearFaulted (q : PortIx) (p : Part) : Part :=
  forEach allRecords (fun i p => if (p.record i).on q then clearRecord .lineFault q i p else p) p

/-! ## Port reports (R160, R163, R167) -/

/-- A working port has entered FAULT (R160). -/
def workingFault (k : PairIx) (p : Part) : Part :=
  match (p.pair k).state with
  | .normal => withPair k (fun r => { r with state := .switchedAuto }) (switchPass k p)
  | .switchedAuto => switchPass k p
  | .switchedManual => switchPass k p
  | .restoreWait => withPair k (fun r => { r with state := .switchedAuto, waitCount := 0 }) (switchPass k p)

/-- A protect port has entered FAULT (R167). -/
def protectFault (k : PairIx) (p : Part) : Part :=
  match (p.pair k).state with
  | .normal => p
  | .switchedAuto => if p.faulted (workingPort k) then p else returnPair k p
  | .switchedManual => if p.faulted (workingPort k) then p else returnPair k p
  | .restoreWait => if p.faulted (workingPort k) then p else returnPair k p

/-- A port is the working port of its pair. -/
def isWorking (q : PortIx) : Bool := q == workingPort (pairOf q)

/-- The Port Engines report a port's entry into FAULT (R160, R167, R159). -/
def portEntersFault (q : PortIx) (p : Part) : Part :=
  markFaulted q (if isWorking q then workingFault (pairOf q) p else protectFault (pairOf q) p)

/-- A working port has left FAULT (R163). -/
def workingClean (k : PairIx) (p : Part) : Part :=
  match (p.pair k).state with
  | .switchedAuto =>
    if p.faulted (protectPort k) then returnPair k p
    else if (p.pair k).revertive then enterWait k p
    else p
  | .switchedManual => p
  | .normal => p
  | .restoreWait => p

/-- The Port Engines report a port's departure from FAULT (R163, R167). -/
def portLeavesFault (q : PortIx) (p : Part) : Part :=
  let p := clearFaulted q p
  if isWorking q then workingClean (pairOf q) p else p

/-! ## The boundary (R159, R162, R164) -/

/-- A pair in RESTORE_WAIT lengthens its wait count and compares it with its WTR (R164). -/
def pairWaitStep (k : PairIx) (p : Part) : Part :=
  if (p.pair k).state = .restoreWait then
    let p := withPair k (fun r => { r with waitCount := r.waitCount + 1 }) p
    if (p.pair k).wtr ≤ (p.pair k).waitCount then returnPair k p else p
  else p

/-- The wait counts at a boundary, of the pairs that stood in RESTORE_WAIT when it came, one pair after another (R164; log
entry 42). -/
def pairWaits (waiting : List PairIx) (p : Part) : Part := forEach waiting pairWaitStep p

/-- A sweep clears the blocked flag of a record that is no longer a candidate, but for its entering RETIRING (R162). -/
def clearStale (k : PairIx) (p : Part) : Part :=
  forEach allRecords (fun i p =>
    let r := p.record i
    if pairOf r.homePort = k && r.blocked && !r.candidate k && r.state != .retiring then
      withRecord i (fun r => { r with blocked := false }) p
    else p) p

/-- The sweep of one pair (R162). -/
def sweepPair (k : PairIx) (p : Part) : Part :=
  match (p.pair k).state with
  | .switchedAuto => switchPass k (clearStale k p)
  | .switchedManual => switchPass k (clearStale k p)
  | .normal => p
  | .restoreWait => p

/-- The sweeps at a boundary, in ascending order of pair, then LINE_FAULT on the records left on ports in FAULT, in ascending
order of port; both orders are the model's choice (R162, R159; log entry 42). -/
def sweepBoundary (p : Part) : Part :=
  forEach allPorts (fun q p => if p.faulted q then markFaulted q p else p) (forEach allPairs sweepPair p)

/-! ## Requests (R155, R156, R161, R166) -/

/-- A set of records as a mask. -/
def Part.recordSet (p : Part) (has : ServiceRecord → Bool) : BitVec 48 :=
  allRecords.foldl (fun m i => if has (p.record i) then m ||| recordMask i else m) 0

/-- The body of LOOK on table 3 (R155; log entry 12). -/
def lookPairBody (k : PairIx) (p : Part) : List Byte :=
  let r := p.pair k
  itemFlag 1 r.revertive ++ item4 2 r.wtr ++ item1 32 r.state.code ++ item4 33 r.waitCount ++
    item1 96 (workingPort k).val ++ item1 97 (protectPort k).val ++
    item 98 [byte (p.port (workingPort k)).line.code, byte (p.port (protectPort k)).line.code] ++
    item 99 (recordSetBytes (p.recordSet (fun r => r.switched k))) ++
    item 100 (recordSetBytes (p.recordSet (fun r => r.state != .vacant && r.blocked && r.homePort == workingPort k)))

/-- LOOK on table 3 (R155). -/
def lookPair (index : Byte) (p : Part) : Reply :=
  match indexOf 6 index with
  | none => .refused .noSuch
  | some k => .doneWith (lookPairBody k p)

/-- A SET's written fields of a pair that exists, and what a change of revertive does (R156). -/
def setPairFields (k : PairIx) (items : List Item) (p : Part) : Part :=
  let old := p.pair k
  let on := (flagWritten items 1).getD old.revertive
  let p := withPair k (fun r => { r with revertive := on, wtr := (numberWritten items 2).getD r.wtr }) p
  if on = old.revertive then p
  else
    match old.state with
    | .restoreWait => if on then p else withPair k (fun r => { r with state := .switchedAuto, waitCount := 0 }) p
    | .switchedAuto => if on && !p.faulted (workingPort k) then enterWait k p else p
    | .switchedManual => p
    | .normal => p

/-- SET on table 3 (R156). -/
def setPairRequest (index : Byte) (body : List Byte) (p : Part) : Part × Reply :=
  match readItems pairFields body with
  | none => (p, .refused .badRequest)
  | some items =>
    match indexOf 6 index with
    | none => (p, .refused .noSuch)
    | some k => (setPairFields k items p, { code := .done, clamped := anyClamped items })

/-- The DONE body of SWITCH and RESTORE (R199). -/
def pairBody (k : PairIx) (p : Part) : List Byte := [byte k.val, byte (p.pair k).state.code]

/-- SWITCH on a pair whose protect port is usable (R161). -/
def switchPair (k : PairIx) (p : Part) : Part :=
  match (p.pair k).state with
  | .normal => withPair k (fun r => { r with state := .switchedManual }) (switchPass k p)
  | .switchedAuto => withPair k (fun r => { r with state := .switchedManual }) (switchPass k p)
  | .restoreWait => withPair k (fun r => { r with state := .switchedManual, waitCount := 0 }) (switchPass k p)
  | .switchedManual => p

/-- SWITCH (R161). -/
def switchRequest (pair : Byte) (p : Part) : Part × Reply :=
  match indexOf 6 pair with
  | none => (p, .refused .noSuch)
  | some k =>
    if p.usablePort (protectPort k) then (switchPair k p, .doneWith (pairBody k (switchPair k p)))
    else (p, .refused .state)

/-- RESTORE on a pair whose working port is CLEAN (R166). -/
def restorePair (k : PairIx) (p : Part) : Part := if (p.pair k).state = .normal then p else returnPair k p

/-- RESTORE (R166). -/
def restoreRequest (pair : Byte) (p : Part) : Part × Reply :=
  match indexOf 6 pair with
  | none => (p, .refused .noSuch)
  | some k =>
    if p.faulted (workingPort k) then (p, .refused .state)
    else (restorePair k p, .doneWith (pairBody k (restorePair k p)))

end Sys2Proof.Machine
end

