-- ==== Sys2Proof/Machine/Ports.lean ====
section
/-! DEFINITION. The Port Engines (Chapter 6): frames and slots of the port second, responses and their outcomes, line
state, and the states of a port. -/

namespace Sys2Proof.Machine

/-- A port record changes. -/
def withPort (q : PortIx) (f : PortRecord → PortRecord) (p : Part) : Part := p.setPort q (f (p.port q))

/-- A port's engine changes. -/
def withEngine (q : PortIx) (f : Engine → Engine) (p : Part) : Part := p.setEngine q (f (p.engine q))

/-! ## Outcomes (R125, R126) -/

/-- A slot error replaces the port's last slot error (R126). -/
def setSlotError (q : PortIx) (e : SlotError) (p : Part) : Part := withPort q (fun r => { r with lastError := e }) p

/-- The record slot in progress, if there is one, reports an outcome to its record (R125). -/
def reportOutcome (q : PortIx) (o : SlotOutcome) (p : Part) : Part :=
  let e := p.engine q
  let p := withEngine q (fun e => { e with activity := .idle, target := none }) p
  match e.target with
  | none => p
  | some t => recordOutcome q t e.t1 e.t4 o p

/-- A slot's outcome is decided: its error becomes the last slot error, and the outcome is reported (R125, R126). -/
def decideSlot (q : PortIx) (o : SlotOutcome) (error : SlotError) (p : Part) : Part :=
  reportOutcome q o (setSlotError q error p)

/-- The error of a response window that closes with no start bit (R125). -/
def silenceError (slot : PortSlot) : SlotError := if slot = .openSlot then .none else .noResponse

/-- A slot ends at the next slot start or at the boundary: what has not been decided is decided now (R125; log entry
19). -/
def endSlot (q : PortIx) (p : Part) : Part :=
  let e := p.engine q
  match e.activity with
  | .idle => p
  | .window => decideSlot q .missing (silenceError e.slot) p
  | .response => decideSlot q .missing .overrun p
  | .driving f =>
    if f.kind.expectsResponse then decideSlot q .missing .overrun p
    else withEngine q (fun e => { e with activity := .idle }) p

/-- A slot begins: the one before it ends (R122). -/
def beginSlot (q : PortIx) (slot : PortSlot) (p : Part) : Part :=
  withEngine q (fun e => { e with slot := slot, activity := .idle, target := none, t1 := none, t4 := none })
    (endSlot q p)

/-- A port begins to drive a frame (R121). -/
def drive (q : PortIx) (f : LineFrame) (p : Part) : Part := withEngine q (fun e => { e with activity := .driving f }) p

/-! ## Address slots (R124) -/

/-- The start of an address slot, in ms after the boundary (R122). -/
def addressMs (a : Address) : Nat := 100 + 100 * a.val

/-- The frame of a record's slot: DELAY, or DISMISS in RETIRING (R124). -/
def recordFrame (r : ServiceRecord) : LineFrame :=
  if r.state = .retiring then dismissFrame r.address else delayFrame r.address r.compensation r.resetRequest

/-- The slot of a record that is not RESERVED begins: with a frame on a RUNNING and CLEAN port, and with the outcome
missing at once on a port in FAULT or DISABLED. A slot of a RETIRING record is a dismiss attempt (R114, R124, R132). -/
def beginRecordSlot (q : PortIx) (t1 : Stamp) (i : RecordIx) (p : Part) : Part :=
  let r := p.record i
  let t : SlotTarget :=
    { record := i, generation := r.generation, dismiss := r.state == .retiring, filterHeld := r.filter.isSome }
  let p :=
    if r.state = .retiring then withRecord i (fun r => { r with dismissAttempts := r.dismissAttempts + 1 }) p else p
  if (p.port q).line = .fault ∨ (p.port q).state = .disabled then recordOutcome q t none none .missing p
  else if (p.port q).state = .running then
    drive q (recordFrame r) (withEngine q (fun e => { e with target := some t, t1 := some t1 }) p)
  else p

/-- DELAY_SLOT_START on a port (R124). -/
def delaySlotStart (q : PortIx) (a : Address) (p : Part) : Part :=
  unlessHeld (fun p =>
    let t1 := p.tb.stampAt (addressMs a * qPerMs)
    let p := beginSlot q (.address a) p
    match p.recordAt q a with
    | none => p
    | some i => if (p.record i).state = .reserved then p else beginRecordSlot q t1 i p) (elapseToMs (addressMs a) p)

/-! ## The OPEN, VERDICT and quiet slots (R122, R128, R129) -/

/-- The port second is long enough for the OPEN and VERDICT slots (R122). -/
def TimeBase.holdsOpen (tb : TimeBase) : Bool := decide (800000000 ≤ tb.lengthNs)

/-- A port may send OPEN, DELAY, DISMISS and VERDICT: it is RUNNING and CLEAN (R128, R132). -/
def PortRecord.serving (r : PortRecord) : Bool := r.state == .running && r.line == .clean

/-- A RESERVED record is on the port, or the port is in OPEN mode with an address and a record free (R128). -/
def Part.offersOpen (p : Part) (q : PortIx) : Bool :=
  allRecords.any (fun i => (p.record i).reservedOn q) ||
    ((p.port q).mode == .open && !(p.freeAddresses q).isEmpty && p.usableRecord.isSome)

/-- OPEN_SLOT_START on a port (R128). -/
def openSlotStart (q : PortIx) (p : Part) : Part :=
  unlessHeld (fun p =>
    if p.tb.holdsOpen then
      let p := withEngine q (fun e => { e with verdict := none }) (beginSlot q .openSlot p)
      if (p.port q).serving && p.offersOpen q then drive q (openFrame (p.freeAddresses q)) p else p
    else p) (if p.tb.holdsOpen then elapseToMs 600 p else p)

/-- VERDICT_SLOT_START on a port (R129). -/
def verdictSlotStart (q : PortIx) (p : Part) : Part :=
  unlessHeld (fun p =>
    if p.tb.holdsOpen then
      let p := beginSlot q .verdictSlot p
      match (p.engine q).verdict with
      | none => p
      | some v =>
        let p := withEngine q (fun e => { e with verdict := none }) p
        if (p.port q).serving then drive q (verdictFrame v) p else p
    else p) (if p.tb.holdsOpen then elapseToMs 700 p else p)

/-- The start of the quiet interval that follows a slot, in ms: 500 after the address slots, 800 after the VERDICT slot
(R122). -/
def quietMs : PortSlot → Nat
  | .quiet => 0
  | .epoch => 500
  | .address _ => 500
  | .openSlot => 800
  | .verdictSlot => 800

/-- QUIET_SLOT_START on a port (R122, R125). -/
def quietSlotStart (q : PortIx) (p : Part) : Part :=
  unlessHeld (beginSlot q .quiet) (elapseToMs (quietMs (p.engine q).slot) p)

/-! ## Frames and responses (R124 to R130) -/

/-- FRAME_SENT_WHOLE: the response window opens, or the slot's error is NONE (R124 to R126). -/
def frameSent (q : PortIx) : Part → Part :=
  unlessHeld (fun p =>
    match (p.engine q).activity with
    | .driving f =>
      let t := (p.engine q).target
      let p := withEngine q (fun e =>
        { e with sent := true, activity := if f.kind.expectsResponse then .window else .idle }) p
      match f.kind, t with
      | .delay, some t => delaySent t p
      | .delay, none => p
      | .dismiss, _ => p
      | .openFrame, _ => p
      | .epoch, _ => setSlotError q .none p
      | .verdict, _ => setSlotError q .none p
    | .idle => p
    | .window => p
    | .response => p)

/-- READBACK_MISMATCH: at a bit that is read back at another level than the one driven, the frame is aborted and the slot's
outcome is missing (R130, R126). A level that does not differ aborts nothing. -/
def frameAborted (q : PortIx) (bit : Nat) (level : LineLevel) : Part → Part :=
  unlessHeld (fun p =>
    match (p.engine q).activity with
    | .driving f =>
      if f.differs bit level then
        decideSlot q .missing .readback (withEngine q (fun e => { e with aborted := true }) p)
      else p
    | .idle => p
    | .window => p
    | .response => p)

/-- RESPONSE_WINDOW_CLOSE (R125). -/
def windowClosed (q : PortIx) : Part → Part :=
  unlessHeld (fun p =>
    match (p.engine q).activity with
    | .window => decideSlot q .missing (silenceError (p.engine q).slot) p
    | .idle => p
    | .driving _ => p
    | .response => p)

/-- RESPONSE_START: t4 is taken, and the response is received (R125, R127). -/
def responseStarted (q : PortIx) : Part → Part :=
  unlessHeld (fun p =>
    match (p.engine q).activity with
    | .window => withEngine q (fun e => { e with activity := .response, t4 := some (p.tb.stampAt p.tb.elapsed) }) p
    | .idle => p
    | .driving _ => p
    | .response => p)

/-- RESPONSE_ERROR: the characters received so far end the response as missing (R125, R200). Characters that show no
error end nothing. -/
def responseFailed (q : PortIx) (characters : List LineChar) : Part → Part :=
  unlessHeld (fun p =>
    match (p.engine q).activity with
    | .response =>
      match responseError ((p.engine q).slot == .openSlot) characters with
      | none => p
      | some e => decideSlot q .missing e p
    | .idle => p
    | .driving _ => p
    | .window => p)

/-- Whether a slot is an address slot, whose responses are ECHO, LEAVE and DISTRESS (R122). -/
def PortSlot.isAddress : PortSlot → Bool
  | .address _ => true
  | .quiet => false
  | .epoch => false
  | .openSlot => false
  | .verdictSlot => false

/-- An accepted response of an address slot (R125). With no response open there it is no event (log entry 31). -/
def responseAccepted (q : PortIx) (o : SlotOutcome) : Part → Part :=
  unlessHeld (fun p =>
    if (p.engine q).activity = .response ∧ (p.engine q).slot.isAddress then decideSlot q o .none p else p)

/-- ECHO: the characters make an accepted ECHO (R125, R200). Others are not this command's (log entry 31). -/
def echoReceived (q : PortIx) (characters : List LineChar) (p : Part) : Part :=
  match acceptedEcho characters with
  | some fields => responseAccepted q (.echo fields) p
  | none => p

/-- LEAVE: the characters make an accepted LEAVE (R125, R200). -/
def leaveReceived (q : PortIx) (characters : List LineChar) (p : Part) : Part :=
  if acceptedResponse false characters = some .leave then responseAccepted q .leave p else p

/-- DISTRESS: the characters make an accepted DISTRESS (R125, R200). -/
def distressReceived (q : PortIx) (characters : List LineChar) (p : Part) : Part :=
  if acceptedResponse false characters = some .distress then responseAccepted q .distress p else p

/-- An accepted ENROL is taken in the OPEN slot, and decided at once (R125, R129). -/
def enrolAccepted (q : PortIx) (x : Identity) (wish : Option Address) : Part → Part :=
  unlessHeld (fun p =>
    if (p.engine q).activity = .response ∧ (p.engine q).slot = .openSlot then
      let d := decideEnrol q x wish (setSlotError q .none (withEngine q (fun e => { e with activity := .idle }) p))
      withEngine q (fun e => { e with verdict := some { identity := x, result := d.2 } }) d.1
    else p)

/-- ENROL: the characters make an accepted ENROL (R125, R200). -/
def enrolReceived (q : PortIx) (characters : List LineChar) (p : Part) : Part :=
  match acceptedResponse true characters with
  | some (.enrol x wish) => enrolAccepted q x wish p
  | _ => p

/-! ## Port states (R133 to R136) -/

/-- A wake pulse at the port record: a PARKED port starts running, and the wake window is 64 (R134, R135). -/
def PortRecord.wake (r : PortRecord) : PortRecord :=
  match r.state with
  | .parked => { r with state := .running, idleCount := 0, wakeWindow := 64 }
  | .running => { r with wakeWindow := 64 }
  | .disabled => r

/-- WAKE_PULSE: a RUNNING port takes one only in a quiet interval (R135). -/
def wakePulse (q : PortIx) : Part → Part :=
  unlessHeld (fun p =>
    if (p.port q).state = .running ∧ (p.engine q).activity ≠ .idle then p else withPort q PortRecord.wake p)

/-- A port is turned off; its last slot error stays, whatever slot is in progress (R126, R133; log entry 47). -/
def disablePort (q : PortIx) (p : Part) : Part :=
  reportOutcome q .missing
    (withEngine q (fun e => { e with verdict := none })
      (withPort q (fun r => { r with enabled := false, state := .disabled, idleCount := 0, wakeWindow := 0 }) p))

/-- A port is turned on (R133). -/
def enablePort (q : PortIx) (p : Part) : Part :=
  withPort q (fun r =>
    { r with
      enabled := true, idleCount := 0
      state := if p.portBound q ∨ r.line = .fault then .running else .parked }) p

/-- A SET's written fields of a port that exists (R120, R133). -/
def setPortFields (q : PortIx) (items : List Item) (p : Part) : Part :=
  let p := withPort q (fun r =>
    { r with
      mode := ((codeWritten items 2).map (fun n => if n = 0 then .closed else .open)).getD r.mode
      defaultBudget := (numberWritten items 3).getD r.defaultBudget }) p
  match flagWritten items 1 with
  | some true => if (p.port q).state = .disabled then enablePort q p else p
  | some false => if (p.port q).state = .disabled then p else disablePort q p
  | none => p

/-- SET on table 2: BAD_REQUEST, then NO_SUCH (R120). -/
def setPortRequest (index : Byte) (body : List Byte) (p : Part) : Part × Reply :=
  match readItems portFields body with
  | none => (p, .refused .badRequest)
  | some items =>
    match indexOf 12 index with
    | none => (p, .refused .noSuch)
    | some q => (setPortFields q items p, { code := .done, clamped := anyClamped items })

/-- The body of LOOK on table 2 (R119). -/
def lookPortBody (q : PortIx) (p : Part) : List Byte :=
  let r := p.port q
  itemFlag 1 r.enabled ++ item1 32 r.state.code ++ item1 2 r.mode.code ++ item4 3 r.defaultBudget ++
    item1 33 r.line.code ++ item4 34 r.failRun ++ item4 35 r.cleanRun ++ item4 36 r.idleCount ++
    item4 37 r.wakeWindow ++ item1 38 r.lastError.code ++ itemFlag 96 (p.portBound q) ++
    item 97 [addressSetByte (p.freeAddresses q)]

/-- LOOK on table 2 (R119). -/
def lookPort (index : Byte) (p : Part) : Reply :=
  match indexOf 12 index with
  | none => .refused .noSuch
  | some q => .doneWith (lookPortBody q p)

/-! ## The boundary (R123, R131, R135, R136) -/

/-- The judgement of a port second (R131). -/
inductive Judgement where
  | failing | clean | neither
  deriving DecidableEq, Repr

/-- The judgement of the port second just ended: a DISABLED port's is neither (R131, R133). A port that was DISABLED for a
part of the port second is judged by its state at the boundary and the marks of the whole second, and a frame that the SET
stopped left no mark (log entry 43). -/
def judgementOf (r : PortRecord) (e : Engine) : Judgement :=
  if r.state = .disabled then .neither
  else if e.aborted then .failing
  else if e.sent then .clean
  else .neither

/-- The line state and its runs after a judgement (R131). -/
def PortRecord.judged (r : PortRecord) (j : Judgement) : PortRecord :=
  match j, r.line with
  | .neither, _ => r
  | .failing, .clean =>
    if 3 ≤ r.failRun + 1 then { r with line := .fault, failRun := 0, cleanRun := 0 }
    else { r with failRun := r.failRun + 1 }
  | .clean, .clean => { r with failRun := 0 }
  | .failing, .fault => { r with cleanRun := 0 }
  | .clean, .fault =>
    if 10 ≤ r.cleanRun + 1 then { r with line := .clean, failRun := 0, cleanRun := 0 }
    else { r with cleanRun := r.cleanRun + 1 }

/-- The set of ports in FAULT (R131). -/
def Part.faultMask (p : Part) : BitVec 12 :=
  allPorts.foldl (fun m q => if p.faulted q then m ||| portMask q else m) 0

/-- PORT_FAULT at a change of line state: a raise while any port is in FAULT, else a clear (R131). -/
def reportPortFault (p : Part) : Part :=
  report { p.hubReport .portFault (p.faultMask != 0) with ports := some p.faultMask } p

/-- A port judges the port second just ended, and reports a change of line state (R131; log entry 20 on the order of the
two reports). -/
def judgePort (q : PortIx) (p : Part) : Part :=
  let before := (p.port q).line
  let p := withPort q (fun r => r.judged (judgementOf r (p.engine q))) p
  match before, (p.port q).line with
  | .clean, .fault => portEntersFault q (reportPortFault p)
  | .fault, .clean => portLeavesFault q (reportPortFault p)
  | .clean, .clean => p
  | .fault, .fault => p

/-- The idle count and the wake window after a boundary, and parking (R135, R136). -/
def PortRecord.counted (r : PortRecord) (bound : Bool) : PortRecord :=
  let wake := r.wakeWindow - 1
  if r.state = .running then
    let idle := if bound then 0 else min (r.idleCount + 1) 65535
    { r with
      idleCount := idle, wakeWindow := wake
      state := if 64 ≤ idle ∧ wake = 0 ∧ r.line = .clean then .parked else .running }
  else { r with wakeWindow := wake }

/-- A port counts its idle second. A port that lost its last record at this same boundary by a move counts its first
idle second at the next one (R136, R165; log entry 21). -/
def countPort (boundBefore : List PortIx) (q : PortIx) (p : Part) : Part :=
  withPort q (fun r => r.counted (p.portBound q || decide (q ∈ boundBefore))) p

/-- The EPOCH frame of the port second that begins (R123). -/
def Part.epoch (p : Part) : LineFrame :=
  epochFrame p.tb.second p.hub.grade p.hub.state p.hub.bound p.hub.scaleOffset p.tb.stepMark

/-- A port begins its port second, and a RUNNING port sends EPOCH (R122, R123). -/
def beginPortSecond (q : PortIx) (p : Part) : Part :=
  p.setEngine q
    { slot := .epoch, activity := if (p.port q).state = .running then .driving p.epoch else .idle }

/-- One port at a boundary: it ends its last slot, judges the port second, counts, and begins the next (R122, R131,
R136). The judgement comes before the parking test, which is the model's choice (log entry 44). -/
def portBoundary (boundBefore : List PortIx) (q : PortIx) (p : Part) : Part :=
  beginPortSecond q (countPort boundBefore q (judgePort q (endSlot q p)))

/-- The ports at a boundary, in the order in which they take it. -/
def portsBoundary (boundBefore order : List PortIx) (p : Part) : Part := forEach order (portBoundary boundBefore) p

/-! ## Commands -/

/-- DELAY_SLOT_START (R124). -/
def execDelaySlotStart (q : PortIx) (a : Address) (s : State) : Host.Outcome State Fault Refusal :=
  commandDone (delaySlotStart q a) s

/-- OPEN_SLOT_START (R128). -/
def execOpenSlotStart (q : PortIx) (s : State) : Host.Outcome State Fault Refusal := commandDone (openSlotStart q) s

/-- VERDICT_SLOT_START (R129). -/
def execVerdictSlotStart (q : PortIx) (s : State) : Host.Outcome State Fault Refusal := commandDone (verdictSlotStart q) s

/-- QUIET_SLOT_START (R125). -/
def execQuietSlotStart (q : PortIx) (s : State) : Host.Outcome State Fault Refusal := commandDone (quietSlotStart q) s

/-- FRAME_SENT_WHOLE (R124 to R126). -/
def execFrameSentWhole (q : PortIx) (s : State) : Host.Outcome State Fault Refusal := commandDone (frameSent q) s

/-- READBACK_MISMATCH (R130). -/
def execReadbackMismatch (q : PortIx) (bit : Nat) (level : LineLevel) (s : State) : Host.Outcome State Fault Refusal :=
  commandDone (frameAborted q bit level) s

/-- RESPONSE_WINDOW_CLOSE (R125). -/
def execResponseWindowClose (q : PortIx) (s : State) : Host.Outcome State Fault Refusal := commandDone (windowClosed q) s

/-- RESPONSE_START (R125, R127). -/
def execResponseStart (dt : Nat) (q : PortIx) (s : State) : Host.Outcome State Fault Refusal :=
  commandDone (fun p => responseStarted q (passRaw dt p)) s

/-- RESPONSE_ERROR (R125). -/
def execResponseError (q : PortIx) (characters : List LineChar) (s : State) : Host.Outcome State Fault Refusal :=
  commandDone (responseFailed q characters) s

/-- ECHO (R107). -/
def execEcho (q : PortIx) (characters : List LineChar) (s : State) : Host.Outcome State Fault Refusal :=
  commandDone (echoReceived q characters) s

/-- LEAVE (R111). -/
def execLeave (q : PortIx) (characters : List LineChar) (s : State) : Host.Outcome State Fault Refusal :=
  commandDone (leaveReceived q characters) s

/-- DISTRESS (R110). -/
def execDistress (q : PortIx) (characters : List LineChar) (s : State) : Host.Outcome State Fault Refusal :=
  commandDone (distressReceived q characters) s

/-- ENROL (R102 to R106, R129). -/
def execEnrol (q : PortIx) (characters : List LineChar) (s : State) : Host.Outcome State Fault Refusal :=
  commandDone (enrolReceived q characters) s

/-- WAKE_PULSE (R135). -/
def execWakePulse (q : PortIx) (s : State) : Host.Outcome State Fault Refusal := commandDone (wakePulse q) s

end Sys2Proof.Machine
end

