-- ==== Sys2Proof/Machine/Boundary.lean ====
section
/-! DEFINITION. The hub second boundary (R8): the Time Base applies the pending step and the next correction, and the
boundary event reaches every block, in the order that the command gives. -/

namespace Sys2Proof.Machine

/-- What a boundary event's work needs of the instant before it: the label of the second that ended, the ports that were
bound (records that auto-retire here apart, R109), and the pairs that stood in RESTORE_WAIT (R164). -/
structure BoundaryContext where
  ended   : Nat
  bound   : List PortIx
  waiting : List PairIx
  deriving DecidableEq, Repr

/-- The ports bound by a record that does not auto-retire at this boundary (R109, R136). -/
def Part.boundBefore (p : Part) : List PortIx :=
  allPorts.filter (fun q => allRecords.any (fun i => (p.record i).counts q && !retiresNow (p.record i)))

/-- The pairs in RESTORE_WAIT, in ascending order of index: which of them counts and returns first is the model's choice
(R164; log entry 42). -/
def Part.waitingPairs (p : Part) : List PairIx := allPairs.filter (fun k => (p.pair k).state == .restoreWait)

def Part.boundaryContext (p : Part) : BoundaryContext :=
  { ended := p.tb.second, bound := p.boundBefore, waiting := p.waitingPairs }

/-! ## The order of the work (R8; log entry 4) -/

/-- The order taken when the command's own order is not one the rules allow. -/
def defaultOrder : List BoundaryWork := [.inputs, .discipline, .records, .ports, .pairWait, .sweep]

/-- One work stands before another in an order. -/
def standsBefore (order : List BoundaryWork) (a b : BoundaryWork) : Bool :=
  decide (order.idxOf a < order.idxOf b)

/-- An order the rules allow: every work once; samples before the hub second event (R22, R29, R36), and auto-retirement
before the ports judge whether they are bound and before the sweeps (R109). -/
def legalOrder (order : List BoundaryWork) : Bool :=
  order.length == 6 && defaultOrder.all (fun w => decide (w ∈ order)) && standsBefore order .inputs .discipline &&
    standsBefore order .records .ports && standsBefore order .records .sweep

/-- The order of the blocks' work. -/
def worksOf (b : BoundaryArgs) : List BoundaryWork := if legalOrder b.order then b.order else defaultOrder

/-- The order of the ports: those the command names, first mention first, then the others in index order. -/
def portsOf (b : BoundaryArgs) : List PortIx :=
  (b.portOrder ++ allPorts).foldl (fun seen q => if q ∈ seen then seen else seen ++ [q]) []

/-- One block's work at a boundary. -/
def boundaryWork (c : BoundaryContext) (b : BoundaryArgs) : BoundaryWork → Part → Part
  | .inputs => inputsBoundary c.ended
  | .discipline => hubSecondEvent
  | .records => recordsBoundary
  | .ports => portsBoundary c.bound (portsOf b)
  | .pairWait => pairWaits c.waiting
  | .sweep => sweepBoundary

/-- The boundary event reaches every block (R8). -/
def boundaryEvent (c : BoundaryContext) (b : BoundaryArgs) (p : Part) : Part := forEach (worksOf b) (boundaryWork c b) p

/-- A hub second boundary: none falls while PORn is asserted, and while WRSTn is asserted only the Time Base acts (R4,
R8, R19). The line clock's edges have come before the blocks take the event (R29). -/
def hubBoundary (b : BoundaryArgs) (p : Part) : Part :=
  if p.porn then p
  else
    unlessHeld (fun q => boundaryEvent p.boundaryContext b (countEdges b.line q)) { p with tb := p.tb.boundary }

/-- HUB_SECOND_BOUNDARY (R8). -/
def execHubSecondBoundary (b : BoundaryArgs) (s : State) : Host.Outcome State Fault Refusal :=
  commandDone (hubBoundary b) s

end Sys2Proof.Machine
end

