-- ==== Sys2Proof/Machine/Reset.lean ====
section
/-! DEFINITION. The two resets: PORn, and the warm reset of WRSTn and RESTART (R18, R19, R38, R62, R89, R90, R117, R137,
R154, R168, R184, R196). -/

namespace Sys2Proof.Machine

/-- The RESTART report of a reset, with the cause number as it stands (R184). -/
def Part.restartReport (p : Part) (detail : Detail) : Report :=
  { p.hubReport .restart true with detail := some detail }

/-- The buffers and lines of the Management Port after a reset. A transaction in progress goes on, and places and frees
nothing (R196, R197; log entry 50). A pulse of the MGT line ends with no width of rest after it (log entry 49). -/
def MgmtPort.reset (m : MgmtPort) : MgmtPort :=
  { m with
    inbound := none, reply := none, resetSeen := true, mgt := {}
    transaction := m.transaction.map (fun t => { t with intact := false }) }

/-- What either reset does to the blocks whose values are the same after both: inputs, Reference Table, Record Table,
ports, pairs, and the Alarm Unit without its RESTART entry (R38, R62, R117, R137, R168, R184). A pulse of the ALM line ends with no width
of rest after it: the model's choice (log entry 49). -/
def resetTables (p : Part) : Part :=
  { p with
    inputs := Vector.replicate 6 {}, slots := resetSlots, selected := none
    records := Vector.replicate 48 {}, ports := Vector.replicate 12 {}, engines := Vector.replicate 12 {}
    pairs := Vector.replicate 6 {}, alarm := {}, mgmt := p.mgmt.reset }

/-! ## Power-on reset -/

/-- The assertion of PORn: the power-on values are held until the release (R18, R89). -/
def assertPorn (p : Part) : Part :=
  { resetTables p with tb := {}, osc := {}, hub := {}, porn := true }

/-- The input of a slot at the release of PORn: slots 0 to 3 run from there (R38). -/
def releasedInput (k : SlotIx) (x : SlotInput) : SlotInput := if k.val ≤ 3 then { x with wholeSecond := true } else x

/-- The inputs take the release as the first boundary event, unless WRSTn still holds them (R8, R38, R29). -/
def releaseInputs (p : Part) : Part := beginLine (forEach allSlots (fun k => withInput k (releasedInput k)) p)

/-- The line clock at the release of PORn, where the raw oscillator's count is `raw`: present or not, its cycles counted
anew, and its latest edge as long before the release as the command says (log entries 10 and 45). -/
def releasedClock (raw : Nat) (sinceEdge : Option Nat) : LineClock :=
  { present := sinceEdge.isSome, cycles := 0, edge := raw - sinceEdge.getD 0 }

/-- The release of PORn: the first hub second boundary, at which the RESTART entry is formed with FREE_RUN and loaded (R8,
R9, R89, R184, R194, R196). Ports are PARKED and send nothing, and the hub second event takes nothing. The last reset is
set at the release (log entry 35). -/
def releasePorn (sinceEdge : Option Nat) (p : Part) : Part :=
  if p.porn then
    let p :=
      { p with
        porn := false, lineClock := releasedClock p.tb.rawCount sinceEdge, tb := { p.tb with hso := true }
        mgmt := { p.mgmt with lastReset := .powerOn } }
    loadIfDue (unlessHeld releaseInputs (raiseHub .freeRun (report (p.restartReport .powerOn) p)))
  else p

/-! ## Warm reset -/

/-- The fields of the hub record that a warm reset sets whatever was-locked is (R90, R117). -/
def warmFields (h : HubRecord) : HubRecord :=
  { h with
    selected := none, inWindow := 0, outOfWindow := 0, stepPermission := false, lineCount := none, lastRefused := none
    settings := {} }

/-- A once-locked hub enters HOLDOVER at a warm reset: U is at least Uw, and a prediction starts (R90). -/
def warmHoldover (p : Part) : Part :=
  let p := withHub (fun h => { h with state := .holdover, grade := .c, bound := max h.bound (toQ p.osc.restart) }) p
  compareBound false (predictCorrection (raiseHub .holdover (advanceCause (startPrediction p))))

/-- The hub record at a warm reset (R90). -/
def warmHub (p : Part) : Part :=
  let p := withHub warmFields p
  if p.hub.wasLocked then warmHoldover p else enterFreeRun p

/-- A warm reset, of the kind given (R19, R38, R62, R90, R117, R137, R168, R184, R196). -/
def warmReset (kind : ResetKind) (p : Part) : Part :=
  let p := resetTables p
  let p :=
    { p with tb := { p.tb with pendingStep := none }, mgmt := { p.mgmt with lastReset := kind } }
  warmHub (report (p.restartReport .warm) p)

/-- The assertion of WRSTn. While PORn is asserted it holds the blocks after the release and resets nothing more (log
entry 22). -/
def assertWrst (p : Part) : Part :=
  if p.wrst then p
  else if p.porn then { p with wrst := true }
  else { warmReset .warmPin p with wrst := true }

/-- The release of WRSTn: the RESTART entry is loaded at once (R184). -/
def releaseWrst (p : Part) : Part := if p.wrst then loadIfDue { p with wrst := false } else p

/-! ## Commands -/

/-- PORN_ASSERT (R18). -/
def execPornAssert (s : State) : Host.Outcome State Fault Refusal := commandDone assertPorn s

/-- PORN_RELEASE (R8, R18). -/
def execPornRelease (sinceEdge : Option Nat) (s : State) : Host.Outcome State Fault Refusal :=
  commandDone (releasePorn sinceEdge) s

/-- WRSTN_ASSERT (R19). -/
def execWrstnAssert (s : State) : Host.Outcome State Fault Refusal := commandDone assertWrst s

/-- WRSTN_RELEASE (R19, R184). -/
def execWrstnRelease (s : State) : Host.Outcome State Fault Refusal := commandDone releaseWrst s

end Sys2Proof.Machine
end

