-- ==== Sys2Proof/Machine/Management.lean ====
section
/-! DEFINITION. The Management Port (Chapter 10): transactions, channel M, the MGT line, and the requests that the host
makes. A request frame is held as the bytes after its length byte, which states their number (R199). -/

namespace Sys2Proof.Machine

/-! ## Requests (R190, Figure 11-3) -/

/-- Whether a request code allows a frame of `n` bytes after its length byte; none for an unknown code (R190, Figure
11-3). -/
def lengthAllowed (code n : Nat) : Option Bool :=
  match code with
  | 0x01 => some (n == 2)
  | 0x02 => some (n == 2)
  | 0x10 => some (n == 4)
  | 0x11 => some (decide (6 ≤ n))
  | 0x20 => some (n == 5 || n == 9)
  | 0x21 => some (n == 4 || decide (6 ≤ n))
  | 0x22 => some (n == 3)
  | 0x30 => some (n == 4)
  | 0x31 => some (n == 3)
  | 0x32 => some (n == 3)
  | 0x33 => some (n == 3)
  | 0x34 => some (n == 3)
  | 0x35 => some (n == 3)
  | 0x40 => some (n == 3)
  | 0x41 => some (n == 3)
  | 0x50 => some (n == 2)
  | 0x51 => some (n == 2)
  | _ => none

/-- The DONE body of IDENT (R194, R199). -/
def identBody (p : Part) : List Byte :=
  bytesOf 2 Config.partNumber ++ [byte Config.revisionCode, byte 48, byte 12, byte 6, byte 6, byte p.mgmt.lastReset.code]

/-- LOOK on a table; the index is ignored for tables 4 to 6 (Figure 11-3). -/
def handleLook (table index : Byte) (p : Part) : Reply :=
  match table.toNat with
  | 0 => lookRecord index p
  | 1 => lookReference index p
  | 2 => lookPort index p
  | 3 => lookPair index p
  | 4 => .doneWith (lookHubBody p)
  | 5 => .doneWith (lookOscillatorBody p)
  | 6 => .doneWith (lookAlarmBody p)
  | _ => .refused .badRequest

/-- SET on a table; the index is ignored for tables 4 to 6, which have one entry (log entry 23). -/
def handleSet (table index : Byte) (body : List Byte) (p : Part) : Part × Reply :=
  match table.toNat with
  | 0 => setRecordRequest index body p
  | 1 => setReference index body p
  | 2 => setPortRequest index body p
  | 3 => setPairRequest index body p
  | 4 => setHub body p
  | 5 => setOscillator body p
  | 6 => setAlarm body p
  | _ => (p, .refused .badRequest)

/-- FIND: 0 then port and address, or 1 then identity (Figure 11-3); another first byte, or a form of the other's length,
has a wrong length (R191). -/
def handleFind (body : List Byte) (p : Part) : Reply :=
  match body with
  | [form, port, address] => if form = 0 then findByPort port address p else .refused .badRequest
  | form :: identity =>
    if form = 1 ∧ identity.length = 6 then findByIdentity (BitVec.ofNat 48 (numberOf identity)) p
    else .refused .badRequest
  | [] => .refused .badRequest

/-- RESTART: a warm reset at the instant of taking, with the RESTART notice loaded (R195, R184). -/
def restartPart (p : Part) : Part := loadIfDue (warmReset .warmRequest p)

/-- A request whose code and length have passed steps 1 and 2 reaches its owner (R190, Figure 10-2). -/
def handleRequest (code : Nat) (body : List Byte) (p : Part) : Part × Reply :=
  let first := body.getD 0 0
  let second := body.getD 1 0
  match code with
  | 0x01 => (p, .doneWith (identBody p))
  | 0x02 => (restartPart p, { code := .done })
  | 0x10 => (p, handleLook first second p)
  | 0x11 => handleSet first second (body.drop 2) p
  | 0x20 => (p, handleFind body p)
  | 0x21 => createRequest first second (body.drop 2) p
  | 0x22 => retireRequest first p
  | 0x30 => bindRequest first second p
  | 0x31 => unbindRequest first p
  | 0x32 => forceFail first p
  | 0x33 => lockout first p
  | 0x34 => release first p
  | 0x35 => prefer first p
  | 0x40 => switchRequest first p
  | 0x41 => restoreRequest first p
  | 0x50 => allowStep p
  | 0x51 => lockOscillator p
  | _ => (p, .refused .badRequest)

/-- The request code of a frame; a frame with no bytes has none (log entry 7). -/
def requestCode (frame : List Byte) : Byte := frame.getD 0 (Config.byteNotInFrame false)

/-- The tag of a frame; a frame of fewer than two bytes has none (log entry 7). -/
def requestTag (frame : List Byte) : Byte := frame.getD 1 (Config.byteNotInFrame true)

/-- A frame passes steps 1 and 2: a known code of an allowed length (R190). -/
def knownRequest (frame : List Byte) : Bool :=
  match frame with
  | [] => false
  | code :: _ => lengthAllowed code.toNat frame.length == some true

/-- A request taken is dealt with in the four steps of R190; step 3 is the answer of `handleLook` and `handleSet` to a
table identifier outside 0 to 6. -/
def dealWith (frame : List Byte) (p : Part) : Part × Reply :=
  if knownRequest frame then handleRequest (requestCode frame).toNat (frame.drop 2) p else (p, .refused .badRequest)

/-! ## Channel M (R189, R190, R193) -/

/-- The reply is loaded, and MGT is driven for it (R190, R193). -/
def loadReply (frame : List Byte) (r : Reply) (p : Part) : Part :=
  { p with
    mgmt := { p.mgmt with
      reply := some (replyFrame (requestCode frame) (requestTag frame) r)
      mgt := p.mgmt.mgt.load p.alarm.settings.mgtMode p.alarm.settings.pulseWidth } }

/-- The request of a frame is taken: the owner acts, and the reply is loaded at that instant (R190). -/
def takeRequest (frame : List Byte) (p : Part) : Part :=
  let d := dealWith frame p
  loadReply frame d.2 d.1

/-- The waiting request is taken when the reply buffer is empty and no reset input is asserted (R190, R196). -/
def takeWaiting (p : Part) : Part :=
  match p.mgmt.inbound, p.mgmt.reply with
  | some frame, none => if p.held then p else takeRequest frame { p with mgmt := { p.mgmt with inbound := none } }
  | _, _ => p

/-- A request frame whose last byte is clocked is placed in an empty inbound buffer, and taken when the reply buffer is
empty; with the inbound buffer full it is discarded (R189, R190). A length byte states at most 255 bytes. -/
def placeRequest (frame : List Byte) (p : Part) : Part :=
  if p.held then p
  else match p.mgmt.inbound with
    | some _ => p
    | none => takeWaiting { p with mgmt := { p.mgmt with inbound := some (frame.take 255) } }

/-! ## Transactions (R186 to R189, R192, R179) -/

/-- The operation that a header names (R186, Figure 11-1). -/
def operationOf (header : Byte) : Operation :=
  match header.toNat with
  | 2 => .writeM
  | 3 => .readM
  | 4 => .readA
  | _ => .status

/-- The status byte; while a reset input is asserted it shows RESET_SEEN alone (R187, R196). -/
def Part.statusByte (p : Part) : Byte :=
  if p.held then 0x08#8
  else
    byte (flagCode p.mgmt.inbound.isSome + 2 * flagCode p.mgmt.reply.isSome + 4 * flagCode p.alarm.buffer.isSome +
      8 * flagCode p.mgmt.resetSeen + 16 * flagCode (!p.alarm.list.isEmpty) + 32 * flagCode p.almActive +
      64 * flagCode p.mgtActive)

/-- The judgement of an operation at its header (R189, R192, R179). -/
def Part.judges (p : Part) : Operation → Bool
  | .status => true
  | .writeM => p.mgmt.inbound.isNone
  | .readM => p.mgmt.reply.isSome
  | .readA => p.alarm.buffer.isSome

/-- The frame that an operation clocks out: a reply, a notice or NONE; filler alone while a reset input is asserted
(R186, R196). -/
def Part.outFrame (p : Part) (op : Operation) : List Byte :=
  if p.held then []
  else match op with
    | .status => []
    | .writeM => []
    | .readM => p.mgmt.reply.getD noneFrame
    | .readA => (p.alarm.buffer.map noticeFrame).getD noneFrame

/-- A transaction begins: its status byte is formed, and its operation is judged (R187). One that begins while a reset
input is asserted counts as one that a reset stands in (R188, R197; log entry 48). -/
def openTransaction (header : Byte) (p : Part) : Part :=
  let op := operationOf header
  { p with
    mgmt := { p.mgmt with
      transaction := some { op := op, judgedOk := p.judges op, frame := p.outFrame op, intact := !p.held }
      spiOut := [p.statusByte] } }

/-- TRANSACTION_BEGIN: transactions do not overlap (R186). -/
def beginTransaction (header : Byte) (p : Part) : Part :=
  if p.mgmt.transaction.isSome then p else openTransaction header p

/-- The end of a complete transaction: what was clocked out stands in `spiOut`, and RESET_SEEN is cleared when no reset
came or stood since it began (R188; log entry 33). A READ in which a reset fell has clocked out the whole frame of its
header: the model's choice (R196, R197; log entry 50). -/
def closeTransaction (frame : List Byte) (p : Part) : Part :=
  let intact := (p.mgmt.transaction.map (·.intact)).getD false
  { p with
    mgmt := { p.mgmt with
      resetSeen := p.mgmt.resetSeen && !intact, transaction := none, spiOut := p.mgmt.spiOut ++ frame } }

/-- A transaction completes; its effect is made only when it was judged good and no reset has come or stood since it
began (R189, R192, R179, R197; log entry 48). -/
def finishTransaction (effect : Part → Part) (t : Transaction) (p : Part) : Part :=
  closeTransaction t.frame (if t.judgedOk && t.intact then effect p else p)

/-- The open transaction of an operation completes; with none open, one begins and completes (log entry 24). -/
def completeTransaction (op : Operation) (header : Byte) (effect : Part → Part) (p : Part) : Part :=
  let q := beginTransaction header p
  match q.mgmt.transaction with
  | some t => if t.op = op then finishTransaction effect t q else p
  | none => p

/-- STATUS completes with its header byte (R186). -/
def statusTransaction (header : Byte) (p : Part) : Part :=
  if operationOf header = .status then completeTransaction .status header id p else p

/-- A READ-M that clocks a reply out whole empties the reply buffer, and a waiting request is taken (R192). -/
def emptyReply (p : Part) : Part := takeWaiting { p with mgmt := { p.mgmt with reply := none } }

/-- A READ-A that clocks a notice out whole frees the buffer, and the next head is loaded at once (R179, R177). -/
def freeBuffer (p : Part) : Part := loadIfDue { p with alarm := { p.alarm with buffer := none } }

/-- A transaction cut short does nothing more (R186, R189, R192, R179, R188). -/
def cutShort (p : Part) : Part := { p with mgmt := { p.mgmt with transaction := none } }

/-! ## Commands: transactions and lines -/

/-- STATUS (R186). -/
def execStatus (header : Byte) (s : State) : Host.Outcome State Fault Refusal := commandDone (statusTransaction header) s

/-- WRITE_M (R189). -/
def execWriteM (dt : Nat) (frame : List Byte) (s : State) : Host.Outcome State Fault Refusal :=
  commandDone (fun p => completeTransaction .writeM 2 (placeRequest frame) (passRaw dt p)) s

/-- READ_M (R192). -/
def execReadM (dt : Nat) (s : State) : Host.Outcome State Fault Refusal :=
  commandDone (fun p => completeTransaction .readM 3 emptyReply (passRaw dt p)) s

/-- READ_A (R179). -/
def execReadA (s : State) : Host.Outcome State Fault Refusal := commandDone (completeTransaction .readA 4 freeBuffer) s

/-- TRANSACTION_CUT_SHORT (R186). -/
def execTransactionCutShort (s : State) : Host.Outcome State Fault Refusal := commandDone cutShort s

/-- TRANSACTION_BEGIN (R187). -/
def execTransactionBegin (header : Byte) (s : State) : Host.Outcome State Fault Refusal :=
  commandDone (beginTransaction header) s

/-- ALARM_BUFFER_LOAD (R177). -/
def execAlarmBufferLoad (s : State) : Host.Outcome State Fault Refusal := commandDone loadIfDue s

/-- ALM_PULSE_END (R181). -/
def execAlmPulseEnd (s : State) : Host.Outcome State Fault Refusal :=
  commandDone (fun p => { p with alarm := { p.alarm with alm := p.alarm.alm.endPulse } }) s

/-- MGT_PULSE_END (R193). -/
def execMgtPulseEnd (s : State) : Host.Outcome State Fault Refusal :=
  commandDone (fun p => { p with mgmt := { p.mgmt with mgt := p.mgmt.mgt.endPulse } }) s

/-- ALM_OWED_PULSE (R181). -/
def execAlmOwedPulse (s : State) : Host.Outcome State Fault Refusal :=
  commandDone (fun p => { p with alarm := { p.alarm with alm := p.alarm.alm.endGap p.alarm.settings.pulseWidth } }) s

/-- MGT_OWED_PULSE (R193). -/
def execMgtOwedPulse (s : State) : Host.Outcome State Fault Refusal :=
  commandDone (fun p => { p with mgmt := { p.mgmt with mgt := p.mgmt.mgt.endGap p.alarm.settings.pulseWidth } }) s

/-! ## Commands: requests (log entry 25) -/

/-- A request command: its frame is placed, and taken as soon as the reply buffer is empty (R189, R190). -/
def request (code tag : Byte) (body : List Byte) (s : State) : Host.Outcome State Fault Refusal :=
  commandDone (placeRequest (code :: tag :: body)) s

/-- UNKNOWN_REQUEST: a frame that is refused at steps 1 to 3 of R190; another frame is another command's. -/
def unknownFrame (frame : List Byte) : Bool :=
  !knownRequest frame ||
    (((requestCode frame).toNat == 0x10 || (requestCode frame).toNat == 0x11) && decide (7 ≤ (frame.getD 2 0).toNat))

/-- UNKNOWN_REQUEST (R190). -/
def execUnknownRequest (frame : List Byte) (s : State) : Host.Outcome State Fault Refusal :=
  commandDone (fun p => if unknownFrame frame then placeRequest frame p else p) s

/-- IDENT (R194). -/
def execIdent (tag : Byte) (s : State) : Host.Outcome State Fault Refusal := request 0x01#8 tag [] s

/-- RESTART (R195). -/
def execRestart (tag : Byte) (s : State) : Host.Outcome State Fault Refusal := request 0x02#8 tag [] s

/-- LOOK on table 0 (R95). -/
def execLookServiceRecord (tag index : Byte) (s : State) : Host.Outcome State Fault Refusal :=
  request 0x10#8 tag [0, index] s

/-- LOOK on table 1 (R40). -/
def execLookReferenceSlot (tag index : Byte) (s : State) : Host.Outcome State Fault Refusal :=
  request 0x10#8 tag [1, index] s

/-- LOOK on table 2 (R119). -/
def execLookPort (tag index : Byte) (s : State) : Host.Outcome State Fault Refusal := request 0x10#8 tag [2, index] s

/-- LOOK on table 3 (R155). -/
def execLookPair (tag index : Byte) (s : State) : Host.Outcome State Fault Refusal := request 0x10#8 tag [3, index] s

/-- LOOK on table 4 (R66). -/
def execLookHubRecord (tag index : Byte) (s : State) : Host.Outcome State Fault Refusal :=
  request 0x10#8 tag [4, index] s

/-- LOOK on table 5 (R14). -/
def execLookOscillatorRecord (dt : Nat) (tag index : Byte) (s : State) : Host.Outcome State Fault Refusal :=
  commandDone (fun p => placeRequest [0x10#8, tag, 5, index] (passRaw dt p)) s

/-- LOOK on table 6 (R182). -/
def execLookAlarmSettings (tag index : Byte) (s : State) : Host.Outcome State Fault Refusal :=
  request 0x10#8 tag [6, index] s

/-- SET on table 0 (R98). -/
def execSetServiceRecord (tag index : Byte) (items : List RawItem) (s : State) : Host.Outcome State Fault Refusal :=
  request 0x11#8 tag (0 :: index :: joinItems items) s

/-- SET on table 1 (R52). -/
def execSetReferenceSlot (tag index : Byte) (items : List RawItem) (s : State) : Host.Outcome State Fault Refusal :=
  request 0x11#8 tag (1 :: index :: joinItems items) s

/-- SET on table 2 (R120). -/
def execSetPort (tag index : Byte) (items : List RawItem) (s : State) : Host.Outcome State Fault Refusal :=
  request 0x11#8 tag (2 :: index :: joinItems items) s

/-- SET on table 3 (R156). -/
def execSetPair (tag index : Byte) (items : List RawItem) (s : State) : Host.Outcome State Fault Refusal :=
  request 0x11#8 tag (3 :: index :: joinItems items) s

/-- SET on table 4 (R65). -/
def execSetHubRecord (tag index : Byte) (items : List RawItem) (s : State) : Host.Outcome State Fault Refusal :=
  request 0x11#8 tag (4 :: index :: joinItems items) s

/-- SET on table 5 (R15). -/
def execSetOscillatorRecord (tag index : Byte) (items : List RawItem) (s : State) : Host.Outcome State Fault Refusal :=
  request 0x11#8 tag (5 :: index :: joinItems items) s

/-- SET on table 6 (R183). -/
def execSetAlarmSettings (tag index : Byte) (items : List RawItem) (s : State) : Host.Outcome State Fault Refusal :=
  request 0x11#8 tag (6 :: index :: joinItems items) s

/-- FIND by port and address (R96). -/
def execFindByPortAddress (tag port address : Byte) (s : State) : Host.Outcome State Fault Refusal :=
  request 0x20#8 tag [0, port, address] s

/-- FIND by identity (R96). -/
def execFindByIdentity (tag : Byte) (identity : Identity) (s : State) : Host.Outcome State Fault Refusal :=
  request 0x20#8 tag (1 :: bytesOf 6 identity.toNat) s

/-- CREATE (R97). -/
def execCreate (tag port address : Byte) (items : List RawItem) (s : State) : Host.Outcome State Fault Refusal :=
  request 0x21#8 tag (port :: address :: joinItems items) s

/-- RETIRE (R113). -/
def execRetire (tag index : Byte) (s : State) : Host.Outcome State Fault Refusal := request 0x22#8 tag [index] s

/-- BIND (R54). -/
def execBind (tag slot index : Byte) (s : State) : Host.Outcome State Fault Refusal := request 0x30#8 tag [slot, index] s

/-- UNBIND (R55). -/
def execUnbind (tag slot : Byte) (s : State) : Host.Outcome State Fault Refusal := request 0x31#8 tag [slot] s

/-- FORCE-FAIL (R48). -/
def execForceFail (tag slot : Byte) (s : State) : Host.Outcome State Fault Refusal := request 0x32#8 tag [slot] s

/-- LOCKOUT (R49). -/
def execLockout (tag slot : Byte) (s : State) : Host.Outcome State Fault Refusal := request 0x33#8 tag [slot] s

/-- RELEASE (R50). -/
def execRelease (tag slot : Byte) (s : State) : Host.Outcome State Fault Refusal := request 0x34#8 tag [slot] s

/-- PREFER (R51). -/
def execPrefer (tag slot : Byte) (s : State) : Host.Outcome State Fault Refusal := request 0x35#8 tag [slot] s

/-- SWITCH (R161). -/
def execSwitchPair (tag pair : Byte) (s : State) : Host.Outcome State Fault Refusal := request 0x40#8 tag [pair] s

/-- RESTORE (R166). -/
def execRestorePair (tag pair : Byte) (s : State) : Host.Outcome State Fault Refusal := request 0x41#8 tag [pair] s

/-- STEP-ALLOW (R79). -/
def execStepAllow (tag : Byte) (s : State) : Host.Outcome State Fault Refusal := request 0x50#8 tag [] s

/-- LOCK-OSC (R17). -/
def execLockOsc (tag : Byte) (s : State) : Host.Outcome State Fault Refusal := request 0x51#8 tag [] s

end Sys2Proof.Machine
end

