-- ==== Sys2Proof/Machine/Thresholds.lean ====
section
/-! DEFINITION. The commands that name what a count brings about when it reaches its limit (log entry 3). Such a thing is
part of an occurrence that brings it about: a boundary, an event on a line, a reference message or a request. The command
carries that occurrence. It does the occurrence whole when the occurrence brings the named thing about, and nothing
otherwise. -/

namespace Sys2Proof.Machine

/-! ## The occurrences -/

/-- An event on a port's line. -/
def lineEvent (q : PortIx) : LineEvent → Part → Part
  | .delaySlotStart a => delaySlotStart q a
  | .openSlotStart => openSlotStart q
  | .verdictSlotStart => verdictSlotStart q
  | .quietSlotStart => quietSlotStart q
  | .readbackMismatch bit level => frameAborted q bit level
  | .windowClose => windowClosed q
  | .responseError characters => responseFailed q characters
  | .echo characters => echoReceived q characters
  | .leave characters => leaveReceived q characters
  | .distress characters => distressReceived q characters

/-- An occurrence, done whole. -/
def runCause : Cause → Part → Part
  | .boundary b => hubBoundary b
  | .line q e => lineEvent q e
  | .tod k characters => todMessage k.slot characters
  | .pkt characters => pktMessage characters
  | .request frame => placeRequest frame

/-- An occurrence done whole when it brings the named thing about. -/
def whenReached (reached : Bool) (f : Part → Part) (p : Part) : Part := if reached then f p else p

/-! ## Things brought about in one block's work at a boundary -/

/-- The part as it stands before the named work at a boundary. -/
def beforeWork (b : BoundaryArgs) (w : BoundaryWork) (p : Part) : Part :=
  forEach ((worksOf b).takeWhile (fun v => v != w)) (boundaryWork p.boundaryContext b)
    (countEdges b.line { p with tb := p.tb.boundary })

/-- Whether a boundary's named work moves the part as a test of the part before and after it says. -/
def workReaches (b : BoundaryArgs) (w : BoundaryWork) (test : Part → Part → Bool) (p : Part) : Bool :=
  !p.held && test (beforeWork b w p) (boundaryWork p.boundaryContext b w (beforeWork b w p))

/-- Whether the samples of a boundary move the part as a test says. What the later blocks do at that boundary plays no part:
a slot that a MISSING sample fails may be DISABLED there when its record auto-retires (R22, R44, R109). -/
def samplesReach (b : BoundaryArgs) (test : Part → Part → Bool) (p : Part) : Bool :=
  !p.held && test (beforeWork b .inputs p) (boundarySamples p.tb.second (beforeWork b .inputs p))

/-- Whether an occurrence moves the part as a test says, where a boundary has a test of its own. -/
def causeReaches (c : Cause) (atBoundary : BoundaryArgs → Bool) (test : Part → Part → Bool) (p : Part) : Bool :=
  match c with
  | .boundary b => atBoundary b
  | _ => test p (runCause c p)

/-- Whether an occurrence completes a sample that moves the part as a test says. -/
def sampleReaches (c : Cause) (test : Part → Part → Bool) (p : Part) : Bool :=
  causeReaches c (fun b => samplesReach b test p) test p

/-- Whether an occurrence ends a slot of the line with an outcome that moves the part as a test says; at a boundary the
ports' work does that. -/
def outcomeReaches (c : Cause) (test : Part → Part → Bool) (p : Part) : Bool :=
  causeReaches c (fun b => workReaches b .ports test p) test p

/-- The sixteenth in-window sample locks the hub (R73). -/
def locks (before after : Part) : Bool := before.hub.state == .acquire && after.hub.state == .locked

/-- The 64th out-of-window sample sends the hub back to ACQUIRE (R73). -/
def reacquires (before after : Part) : Bool := before.hub.state == .locked && after.hub.state == .acquire

/-- A record's silent seconds reach its auto-retire time (R109). -/
def autoRetires (i : RecordIx) (before after : Part) : Bool :=
  (before.record i).state == .silent && (after.record i).state == .vacant

/-- A port's line state moves (R131). -/
def lineMoves (start finish : LineState) (q : PortIx) (before after : Part) : Bool :=
  (before.port q).line == start && (after.port q).line == finish

/-- A port parks (R136). -/
def parks (q : PortIx) (before after : Part) : Bool :=
  (before.port q).state == .running && (after.port q).state == .parked

/-- A pair's wait count reaches its WTR (R164). -/
def waitExpires (k : PairIx) (before after : Part) : Bool :=
  (before.pair k).state == .restoreWait && (after.pair k).state == .normal

/-! ## Things brought about by a sample, a slot outcome or a request -/

/-- The third outlier of a run becomes the jump reference: the slot completes a sample, an OUTLIER, that ends the run
(R34). -/
def retakes (k : SlotIx) (before after : Part) : Bool :=
  decide (2 ≤ (before.input k).jumpRun) && (after.input k).jumpRun == 0 && !(before.input k).completed &&
    (after.input k).completed && ((after.input k).last.map (·.outcome)) == some .outlier

/-- A slot enters QUALIFIED (R43). -/
def qualifies (k : SlotIx) (before after : Part) : Bool :=
  (before.slot k).state != .qualified && (after.slot k).state == .qualified

/-- A QUALIFIED slot enters FAILED on a sample of one of the outcomes given (R44, R45). -/
def failsOn (outcomes : List SampleOutcome) (k : SlotIx) (before after : Part) : Bool :=
  (before.slot k).state == .qualified && (after.slot k).state == .failed && !(after.slot k).forced &&
    match (after.input k).last with
    | some s => decide (s.outcome ∈ outcomes)
    | none => false

/-- A record enters SILENT (R108). -/
def fallsSilent (i : RecordIx) (before after : Part) : Bool :=
  ((before.record i).state == .pending || (before.record i).state == .active) && (after.record i).state == .silent

/-- A request that can end a slot in progress: a SET on table 2, which may turn the port off (R133). -/
def setsPort (frame : List Byte) : Bool := (requestCode frame).toNat == 0x11 && (frame.getD 2 0).toNat == 2

/-- Whether an occurrence can end a DISMISS slot without a LEAVE, which would complete the retirement as acknowledged
(R114). -/
def endsDismiss : Cause → Bool
  | .line _ (.leave _) => false
  | .line _ _ => true
  | .boundary _ => true
  | .request frame => setsPort frame
  | .tod _ _ => false
  | .pkt _ => false

/-- The third dismiss attempt ends a record (R114). -/
def endsUnacknowledged (i : RecordIx) (c : Cause) (before after : Part) : Bool :=
  endsDismiss c && (before.record i).state == .retiring && (after.record i).state == .vacant

/-- A record is in PENDING, ACTIVE or SILENT, so that its slots are DELAY slots (R124). -/
def ServiceRecord.live (r : ServiceRecord) : Bool := r.state == .pending || r.state == .active || r.state == .silent

/-- A slot of a record's present occupant is in progress on some port. -/
def Part.slotInProgress (p : Part) (i : RecordIx) : Bool :=
  allPorts.any (fun q => (p.engine q).target.any (fun t => t.record == i && t.generation == (p.record i).generation))

/-- Whether an occurrence can end a DELAY slot of a record with an outcome that the window counts (R148). -/
def countsSlot (i : RecordIx) (before : Part) : Cause → Bool
  | .line _ (.leave _) => false
  | .line _ (.distress _) => false
  | .line _ _ => true
  | .boundary _ => before.slotInProgress i
  | .request frame => setsPort frame
  | .tod _ _ => false
  | .pkt _ => false

/-- The 64th slot closes a record's statistics window (R149). -/
def closesWindow (i : RecordIx) (c : Cause) (before after : Part) : Bool :=
  countsSlot i before c && (before.record i).live && (after.record i).state != .vacant &&
    (before.record i).statistics && (after.record i).statistics && decide (63 ≤ (before.record i).window.count) &&
    (after.record i).window == {}

/-- The record whose echo a port is receiving. -/
def Part.targetOf (p : Part) (q : PortIx) : Option RecordIx := (p.engine q).target.map (·.record)

/-- The round trip of the accepted ECHO that the characters make, when it is measured (R140). -/
def Part.measuredRoundTrip (p : Part) (q : PortIx) (characters : List LineChar) : Option Int :=
  (acceptedEcho characters).bind (fun f => roundTrip (p.engine q).t1 (p.engine q).t4 f.turnaround.toNat)

/-- The fifth outlier of a run re-initialises the filter (R145). -/
def stepsDelay (q : PortIx) (characters : List LineChar) (before after : Part) : Bool :=
  match before.targetOf q, before.measuredRoundTrip q characters with
  | some i, some rtd =>
    !rtdWrong rtd &&
      filterAction (before.record i) (oneWayDelay rtd (before.record i).share) == .reinitialised &&
      decide (1 ≤ (before.record i).outlierRun) && (after.record i).outlierRun == 0
  | _, _ => false

/-! ## Commands -/

/-- LOCK_ENTRY (R73). -/
def execLockEntry (b : BoundaryArgs) (s : State) : Host.Outcome State Fault Refusal :=
  commandDone (fun p => whenReached (workReaches b .discipline locks p) (hubBoundary b) p) s

/-- OUT_OF_WINDOW_REACQUIRE (R73). -/
def execOutOfWindowReacquire (b : BoundaryArgs) (s : State) : Host.Outcome State Fault Refusal :=
  commandDone (fun p => whenReached (workReaches b .discipline reacquires p) (hubBoundary b) p) s

/-- AUTO_RETIRE (R109). -/
def execAutoRetire (i : RecordIx) (b : BoundaryArgs) (s : State) : Host.Outcome State Fault Refusal :=
  commandDone (fun p => whenReached (workReaches b .records (autoRetires i) p) (hubBoundary b) p) s

/-- LINE_FAULT_ENTRY (R131). -/
def execLineFaultEntry (q : PortIx) (b : BoundaryArgs) (s : State) : Host.Outcome State Fault Refusal :=
  commandDone (fun p => whenReached (workReaches b .ports (lineMoves .clean .fault q) p) (hubBoundary b) p) s

/-- LINE_CLEAN_ENTRY (R131). -/
def execLineCleanEntry (q : PortIx) (b : BoundaryArgs) (s : State) : Host.Outcome State Fault Refusal :=
  commandDone (fun p => whenReached (workReaches b .ports (lineMoves .fault .clean q) p) (hubBoundary b) p) s

/-- PORT_PARK (R136). -/
def execPortPark (q : PortIx) (b : BoundaryArgs) (s : State) : Host.Outcome State Fault Refusal :=
  commandDone (fun p => whenReached (workReaches b .ports (parks q) p) (hubBoundary b) p) s

/-- PAIR_WTR_EXPIRY (R164). -/
def execPairWtrExpiry (k : PairIx) (b : BoundaryArgs) (s : State) : Host.Outcome State Fault Refusal :=
  commandDone (fun p => whenReached (workReaches b .pairWait (waitExpires k) p) (hubBoundary b) p) s

/-- DELAY_STEP (R145). -/
def execDelayStep (q : PortIx) (characters : List LineChar) (s : State) : Host.Outcome State Fault Refusal :=
  commandDone (fun p =>
    whenReached (stepsDelay q characters p (echoReceived q characters p)) (echoReceived q characters) p) s

/-- STATISTICS_WINDOW_CLOSE (R149). -/
def execStatisticsWindowClose (i : RecordIx) (c : Cause) (s : State) : Host.Outcome State Fault Refusal :=
  commandDone (fun p => whenReached (outcomeReaches c (closesWindow i c) p) (runCause c) p) s

/-- SILENT_ENTRY (R108). -/
def execSilentEntry (i : RecordIx) (c : Cause) (s : State) : Host.Outcome State Fault Refusal :=
  commandDone (fun p => whenReached (outcomeReaches c (fallsSilent i) p) (runCause c) p) s

/-- RETIRE_UNACKNOWLEDGED (R114). -/
def execRetireUnacknowledged (i : RecordIx) (c : Cause) (s : State) : Host.Outcome State Fault Refusal :=
  commandDone (fun p => whenReached (outcomeReaches c (endsUnacknowledged i c) p) (runCause c) p) s

/-- JUMP_REFERENCE_RETAKE (R34). -/
def execJumpReferenceRetake (k : SlotIx) (c : Cause) (s : State) : Host.Outcome State Fault Refusal :=
  commandDone (fun p => whenReached (sampleReaches c (retakes k) p) (runCause c) p) s

/-- SLOT_QUALIFY (R43). -/
def execSlotQualify (k : SlotIx) (c : Cause) (s : State) : Host.Outcome State Fault Refusal :=
  commandDone (fun p => whenReached (sampleReaches c (qualifies k) p) (runCause c) p) s

/-- SLOT_HOLD_OFF_FAIL (R44). -/
def execSlotHoldOffFail (k : SlotIx) (c : Cause) (s : State) : Host.Outcome State Fault Refusal :=
  commandDone (fun p => whenReached (sampleReaches c (failsOn [.missing, .invalid] k) p) (runCause c) p) s

/-- SLOT_OUTLIER_FAIL (R45). -/
def execSlotOutlierFail (k : SlotIx) (c : Cause) (s : State) : Host.Outcome State Fault Refusal :=
  commandDone (fun p => whenReached (sampleReaches c (failsOn [.outlier] k) p) (runCause c) p) s

end Sys2Proof.Machine
end

