-- ==== Sys2Proof/Machine/Dispatch.lean ====
section
/-! DEFINITION. One arm per command: the call of its meaning. -/

namespace Sys2Proof.Machine

def exec (i : Instr) (s : State) : Host.Outcome State Fault Refusal :=
  match i with
  | .status header => Sys2Proof.Machine.execStatus header s
  | .writeM dt frame => Sys2Proof.Machine.execWriteM dt frame s
  | .readM dt => Sys2Proof.Machine.execReadM dt s
  | .readA => Sys2Proof.Machine.execReadA s
  | .transactionCutShort => Sys2Proof.Machine.execTransactionCutShort s
  | .unknownRequest frame => Sys2Proof.Machine.execUnknownRequest frame s
  | .ident tag => Sys2Proof.Machine.execIdent tag s
  | .restart tag => Sys2Proof.Machine.execRestart tag s
  | .lookServiceRecord tag index => Sys2Proof.Machine.execLookServiceRecord tag index s
  | .lookReferenceSlot tag index => Sys2Proof.Machine.execLookReferenceSlot tag index s
  | .lookPort tag index => Sys2Proof.Machine.execLookPort tag index s
  | .lookPair tag index => Sys2Proof.Machine.execLookPair tag index s
  | .lookHubRecord tag index => Sys2Proof.Machine.execLookHubRecord tag index s
  | .lookOscillatorRecord dt tag index => Sys2Proof.Machine.execLookOscillatorRecord dt tag index s
  | .lookAlarmSettings tag index => Sys2Proof.Machine.execLookAlarmSettings tag index s
  | .setServiceRecord tag index items => Sys2Proof.Machine.execSetServiceRecord tag index items s
  | .setReferenceSlot tag index items => Sys2Proof.Machine.execSetReferenceSlot tag index items s
  | .setPort tag index items => Sys2Proof.Machine.execSetPort tag index items s
  | .setPair tag index items => Sys2Proof.Machine.execSetPair tag index items s
  | .setHubRecord tag index items => Sys2Proof.Machine.execSetHubRecord tag index items s
  | .setOscillatorRecord tag index items => Sys2Proof.Machine.execSetOscillatorRecord tag index items s
  | .setAlarmSettings tag index items => Sys2Proof.Machine.execSetAlarmSettings tag index items s
  | .findByPortAddress tag port address => Sys2Proof.Machine.execFindByPortAddress tag port address s
  | .findByIdentity tag identity => Sys2Proof.Machine.execFindByIdentity tag identity s
  | .create tag port address items => Sys2Proof.Machine.execCreate tag port address items s
  | .retire tag index => Sys2Proof.Machine.execRetire tag index s
  | .bind tag slot index => Sys2Proof.Machine.execBind tag slot index s
  | .unbind tag slot => Sys2Proof.Machine.execUnbind tag slot s
  | .forceFail tag slot => Sys2Proof.Machine.execForceFail tag slot s
  | .lockout tag slot => Sys2Proof.Machine.execLockout tag slot s
  | .release tag slot => Sys2Proof.Machine.execRelease tag slot s
  | .prefer tag slot => Sys2Proof.Machine.execPrefer tag slot s
  | .switchPair tag pair => Sys2Proof.Machine.execSwitchPair tag pair s
  | .restorePair tag pair => Sys2Proof.Machine.execRestorePair tag pair s
  | .stepAllow tag => Sys2Proof.Machine.execStepAllow tag s
  | .lockOsc tag => Sys2Proof.Machine.execLockOsc tag s
  | .alarmBufferLoad => Sys2Proof.Machine.execAlarmBufferLoad s
  | .pornAssert => Sys2Proof.Machine.execPornAssert s
  | .pornRelease sinceEdge => Sys2Proof.Machine.execPornRelease sinceEdge s
  | .wrstnAssert => Sys2Proof.Machine.execWrstnAssert s
  | .wrstnRelease => Sys2Proof.Machine.execWrstnRelease s
  | .hubSecondBoundary b => Sys2Proof.Machine.execHubSecondBoundary b s
  | .stepHoldEnd => Sys2Proof.Machine.execStepHoldEnd s
  | .hsoFall => Sys2Proof.Machine.execHsoFall s
  | .lockEntry b => Sys2Proof.Machine.execLockEntry b s
  | .outOfWindowReacquire b => Sys2Proof.Machine.execOutOfWindowReacquire b s
  | .autoRetire record b => Sys2Proof.Machine.execAutoRetire record b s
  | .lineFaultEntry port b => Sys2Proof.Machine.execLineFaultEntry port b s
  | .lineCleanEntry port b => Sys2Proof.Machine.execLineCleanEntry port b s
  | .portPark port b => Sys2Proof.Machine.execPortPark port b s
  | .pairWtrExpiry pair b => Sys2Proof.Machine.execPairWtrExpiry pair b s
  | .delaySlotStart port address => Sys2Proof.Machine.execDelaySlotStart port address s
  | .openSlotStart port => Sys2Proof.Machine.execOpenSlotStart port s
  | .verdictSlotStart port => Sys2Proof.Machine.execVerdictSlotStart port s
  | .frameSentWhole port => Sys2Proof.Machine.execFrameSentWhole port s
  | .readbackMismatch port bit level => Sys2Proof.Machine.execReadbackMismatch port bit level s
  | .responseWindowClose port => Sys2Proof.Machine.execResponseWindowClose port s
  | .responseStart dt port => Sys2Proof.Machine.execResponseStart dt port s
  | .responseError port characters => Sys2Proof.Machine.execResponseError port characters s
  | .echo port characters => Sys2Proof.Machine.execEcho port characters s
  | .delayStep port characters => Sys2Proof.Machine.execDelayStep port characters s
  | .statisticsWindowClose record cause => Sys2Proof.Machine.execStatisticsWindowClose record cause s
  | .leave port characters => Sys2Proof.Machine.execLeave port characters s
  | .distress port characters => Sys2Proof.Machine.execDistress port characters s
  | .enrol port characters => Sys2Proof.Machine.execEnrol port characters s
  | .silentEntry record cause => Sys2Proof.Machine.execSilentEntry record cause s
  | .retireUnacknowledged record cause => Sys2Proof.Machine.execRetireUnacknowledged record cause s
  | .wakePulse port => Sys2Proof.Machine.execWakePulse port s
  | .ppsEdge dt sat => Sys2Proof.Machine.execPpsEdge dt sat s
  | .todMessage sat characters => Sys2Proof.Machine.execTodMessage sat characters s
  | .pktMessage characters => Sys2Proof.Machine.execPktMessage characters s
  | .lineClockLost => Sys2Proof.Machine.execLineClockLost s
  | .jumpReferenceRetake slot cause => Sys2Proof.Machine.execJumpReferenceRetake slot cause s
  | .slotQualify slot cause => Sys2Proof.Machine.execSlotQualify slot cause s
  | .slotHoldOffFail slot cause => Sys2Proof.Machine.execSlotHoldOffFail slot cause s
  | .slotOutlierFail slot cause => Sys2Proof.Machine.execSlotOutlierFail slot cause s
  | .almPulseEnd => Sys2Proof.Machine.execAlmPulseEnd s
  | .mgtPulseEnd => Sys2Proof.Machine.execMgtPulseEnd s
  | .lineClockReturn => Sys2Proof.Machine.execLineClockReturn s
  | .transactionBegin header => Sys2Proof.Machine.execTransactionBegin header s
  | .quietSlotStart port => Sys2Proof.Machine.execQuietSlotStart port s
  | .almOwedPulse => Sys2Proof.Machine.execAlmOwedPulse s
  | .mgtOwedPulse => Sys2Proof.Machine.execMgtOwedPulse s

end Sys2Proof.Machine
end

