-- ==== Sys2Proof/Safety.lean ====
section
/-! DEFINITION. What claims are stated in: the outcome of a command, a part ready for a request, the news of an owner, and
the invariants that every step keeps. -/

namespace Sys2Proof.Machine

/-! ## Outcomes -/

/-- A command completes and leaves the part as given: the loading that its reports make due follows, and the queue stays
as it is (R177; log entry 5). -/
def Completes (c : Instr) (s : State) (p : Part) : Prop :=
  exec c s = .next { s with part := settle s.pending p }

/-- A request is taken as soon as it is placed: no reset input is asserted, and both buffers of channel M are empty
(R189, R190). -/
def Part.Ready (p : Part) : Prop := p.held = false ∧ p.mgmt.inbound = none ∧ p.mgmt.reply = none

/-- The part with a reply loaded to a request of the code and tag given (R190, R191, R193). -/
def Part.answer (p : Part) (code tag : Byte) (r : Reply) : Part :=
  { p with
    mgmt := { p.mgmt with
      reply := some (replyFrame code tag r)
      mgt := p.mgmt.mgt.load p.alarm.settings.mgtMode p.alarm.settings.pulseWidth } }

/-- A condition has been raised on an owner, and the host has not read the news of it yet: it stands in the owner's entry
of the list or in its notice in the buffer, and what that entry shows is as said. -/
def Part.Reported (p : Part) (o : Owner) (c : Condition) (shows : Entry → Prop) : Prop :=
  (∃ e ∈ p.alarm.list, e.owner = o ∧ hasCondition e.raised c = true ∧ shows e) ∨
    ∃ n, p.alarm.buffer = some n ∧ n.entry.owner = o ∧ hasCondition n.entry.raised c = true ∧ shows n.entry

/-- A condition of an owner has been cleared, and the host has not read the news of it yet. -/
def Part.ReportedClear (p : Part) (o : Owner) (c : Condition) (shows : Entry → Prop) : Prop :=
  (∃ e ∈ p.alarm.list, e.owner = o ∧ hasCondition e.cleared c = true ∧ shows e) ∨
    ∃ n, p.alarm.buffer = some n ∧ n.entry.owner = o ∧ hasCondition n.entry.cleared c = true ∧ shows n.entry

/-! ## Frames -/

/-- The Record Table, the ports and the pairs are as they were. -/
def KeepsTables (p q : Part) : Prop :=
  q.records = p.records ∧ q.ports = p.ports ∧ q.engines = p.engines ∧ q.pairs = p.pairs

/-- The oscillator record, the line clock, the reset inputs and the Time Base are as they were, but for the correction that
waits for the next boundary. -/
def KeepsBase (p q : Part) : Prop :=
  q.osc = p.osc ∧ q.lineClock = p.lineClock ∧ q.porn = p.porn ∧ q.wrst = p.wrst ∧
    q.tb = { p.tb with next := q.tb.next }

/-- Every slot but one, and its input, are as they were. -/
def KeepsOtherSlots (k : SlotIx) (p q : Part) : Prop := ∀ j, j ≠ k → q.slot j = p.slot j ∧ q.input j = p.input j

/-- Every service record but one is as it was. -/
def KeepsOtherRecords (i : RecordIx) (p q : Part) : Prop := ∀ j, j ≠ i → q.record j = p.record j

/-- Every port but one, and its engine, are as they were. -/
def KeepsOtherPorts (x : PortIx) (p q : Part) : Prop := ∀ j, j ≠ x → q.port j = p.port j ∧ q.engine j = p.engine j

/-! ## What several commands ask of the part before them -/

/-- Message bytes as their characters (R201). -/
def byteCharacters (bytes : List Byte) : List SerialChar := bytes.map (fun b => 0#1 ++ b)

/-- A message whole as its characters: a start character with any data bits, and the message's bytes (R201). -/
def messageCharacters (start : Byte) (bytes : List Byte) : List SerialChar :=
  (1#1 ++ start) :: byteCharacters bytes

/-- The characters of a response with a good checksum (R200). -/
def responseCharacters (payload : List Byte) : List LineChar := (payload ++ [-(byteSum payload)]).map characterOf

/-- A sound PKT message that is no repeat reaches the running slot, which has no sample in this second yet (R27, R22,
R35). -/
def Part.TakesPkt (p : Part) (bytes : List Byte) (m : PktMessage) : Prop :=
  p.held = false ∧ decodePkt bytes = some m ∧ m.sound = true ∧ p.running pktSlot = true ∧
    (p.input pktSlot).completed = false ∧ (p.input pktSlot).discardMessages = false ∧
    (p.input pktSlot).lastSeq ≠ some m.sequence

/-- The slot in progress on a port is the DELAY slot of a record in PENDING, ACTIVE or SILENT (R124). -/
def Part.LiveSlot (p : Part) (q : PortIx) (t : SlotTarget) : Prop :=
  p.held = false ∧ (p.engine q).slot.isAddress = true ∧ (p.engine q).target = some t ∧
    (p.record t.record).generation = t.generation ∧
    ((p.record t.record).state = .pending ∨ (p.record t.record).state = .active ∨ (p.record t.record).state = .silent)

/-- A command that ends the slot in progress on a port as missing, with the event that names it as a cause, and the slot
error that it leaves: the window closes unanswered, the response shows an error, it is incomplete at the next slot start,
or a bit of the frame is read back at the other level (R125, R126, R130). -/
def Part.MissesSlot (p : Part) (q : PortIx) (c : Instr) (cause : LineEvent) (error : SlotError) : Prop :=
  (c = .responseWindowClose q ∧ cause = .windowClose ∧ error = .noResponse ∧ (p.engine q).activity = .window) ∨
    (∃ characters, c = .responseError q characters ∧ cause = .responseError characters ∧
      responseError false characters = some error ∧ (p.engine q).activity = .response) ∨
    (c = .quietSlotStart q ∧ cause = .quietSlotStart ∧ error = .overrun ∧ (p.engine q).activity = .response) ∨
    ∃ f bit level driven, c = .readbackMismatch q bit level ∧ cause = .readbackMismatch bit level ∧ error = .readback ∧
      (p.engine q).activity = .driving f ∧ f.levels[bit]? = some driven ∧ driven ≠ level

/-- What ends a slot still in progress on a port: the next slot start there, or the boundary. OPEN_SLOT_START and
VERDICT_SLOT_START start a slot in a second of at least 800 ms alone (R122, R125). -/
def Part.StartsSlot (p : Part) (q : PortIx) (c : Instr) (cause : Cause) : Prop :=
  (c = .quietSlotStart q ∧ cause = .line q .quietSlotStart) ∨
    (∃ a, c = .delaySlotStart q a ∧ cause = .line q (.delaySlotStart a)) ∨
    (c = .openSlotStart q ∧ cause = .line q .openSlotStart ∧ 800000000 ≤ p.tb.lengthNs) ∨
    (c = .verdictSlotStart q ∧ cause = .line q .verdictSlotStart ∧ 800000000 ≤ p.tb.lengthNs) ∨
    ∃ b, c = .hubSecondBoundary b ∧ cause = .boundary b

/-- A command that ends a record slot without a LEAVE, with the cause that names it, and the slot error that it leaves: it
ends as missing, an ECHO or a DISTRESS is accepted, or it is still in progress at the next slot start or the boundary
(R114, R125, R126, R130). That a window still open there closes unanswered is the model's choice (log entry 19). -/
def Part.EndsWithoutLeave (p : Part) (q : PortIx) (c : Instr) (cause : Cause) (error : SlotError) : Prop :=
  (∃ e, p.MissesSlot q c e error ∧ cause = .line q e) ∨
    (∃ characters, (c = .echo q characters ∧ cause = .line q (.echo characters) ∧ (acceptedEcho characters).isSome ∨
        c = .distress q characters ∧ cause = .line q (.distress characters) ∧
          acceptedResponse false characters = some .distress) ∧
      error = .none ∧ (p.engine q).activity = .response) ∨
    p.StartsSlot q c cause ∧
      ((p.engine q).activity = .window ∧ error = .noResponse ∨ (p.engine q).activity = .response ∧ error = .overrun ∨
        ∃ f, (p.engine q).activity = .driving f ∧ f.kind.expectsResponse = true ∧ error = .overrun)

/-- What the close of a window does to its record, for the good count and the least and greatest RTD that the window has
with its 64th slot, and the U that the time error judgement of that slot reads (R149, R151). -/
def WindowLatched (good : Nat) (least greatest bound : Int) (r after : ServiceRecord) : Prop :=
  after.halfSpread = (if 2 ≤ good then some (-((-(greatest - least)) / 2)) else r.halfSpread) ∧
    after.stale = (if 2 ≤ good then false else true) ∧
    after.window = { count := 0, minRtd := none, maxRtd := none, good := 0, missed := 0 } ∧
    (after.filter ≠ none →
      after.te = some (bound + (r.asymmetry * 65536 + after.halfSpread.getD 0)) ∧
        after.prevLink = some (r.asymmetry * 65536 + after.halfSpread.getD 0))

/-- What a time error judgement at a slot on record `i` leaves, for the link term and the TE that it forms and the verdict
that the TE has: the TE, the TE state and the previous link term, and the two conditions moved when the verdict differs
from the TE state before (R151, R152). -/
def TeJudged (i : RecordIx) (before : TeState) (l te : Int) (verdict : TeState) (p q : Part) : Prop :=
  (q.record i).te = some te ∧ (q.record i).teState = verdict ∧ (q.record i).prevLink = some l ∧
    hasCondition (q.alarm.standingOf (.record i)) .teMarginal =
      (if verdict = before then hasCondition (p.alarm.standingOf (.record i)) .teMarginal
      else if verdict = .marginal then true
      else if before = .marginal then false
      else hasCondition (p.alarm.standingOf (.record i)) .teMarginal) ∧
    hasCondition (q.alarm.standingOf (.record i)) .teExceeded =
      (if verdict = before then hasCondition (p.alarm.standingOf (.record i)) .teExceeded
      else if verdict = .exceeded then true
      else if before = .exceeded then false
      else hasCondition (p.alarm.standingOf (.record i)) .teExceeded)

/-- How the reports of a time error judgement at a slot that port `x` carried reach the notices, with every report of the
record let in and no entry of it in the list: a raise and a clear carry the TE and the port, and a raise the cause number
and the ancillary mark, which stays only when no other report of the record came before it (R152, R153, R169, R175); an
ancillary raise that is coalesced goes to the hub's entry, its clear with it (R176). `first` says that the judgement's
reports are the command's first of the record, and `alone` that they are its only ones. -/
def TeReported (x : PortIx) (i : RecordIx) (r : ServiceRecord) (te : Int) (verdict : TeState)
    (ancillary first alone : Bool) (p q : Part) : Prop :=
  p.alarm.settings.recordThreshold = some .note → (∀ e ∈ p.alarm.list, e.owner ≠ .record i) →
    (p.alarm.settings.coalescing = false ∨ ancillary = false ∨ first = false →
      (verdict ≠ r.teState → verdict = .marginal →
        q.Reported (.record i) .teMarginal (fun e =>
          e.te = some te ∧ e.ports = some (portMask x) ∧ e.cause = p.hub.causeNumber ∧ e.generation = some r.generation ∧
            e.ancillary =
              (ancillary && first &&
                !(r.teState == .exceeded && hasCondition (p.alarm.standingOf (.record i)) .teExceeded)))) ∧
      (verdict ≠ r.teState → verdict = .exceeded →
        q.Reported (.record i) .teExceeded (fun e =>
          e.te = some te ∧ e.ports = some (portMask x) ∧ e.cause = p.hub.causeNumber ∧ e.generation = some r.generation ∧
            e.ancillary = (ancillary && first))) ∧
      (r.teState = .marginal → verdict ≠ .marginal →
        hasCondition (p.alarm.standingOf (.record i)) .teMarginal = true →
        q.ReportedClear (.record i) .teMarginal (fun e => e.te = some te ∧ e.ports = some (portMask x))) ∧
      (r.teState = .exceeded → verdict ≠ .exceeded →
        hasCondition (p.alarm.standingOf (.record i)) .teExceeded = true →
        q.ReportedClear (.record i) .teExceeded (fun e => e.te = some te ∧ e.ports = some (portMask x)))) ∧
    (p.alarm.settings.coalescing = true → ancillary = true → first = true → verdict ≠ r.teState → verdict ≠ .within →
      ((∃ e ∈ q.alarm.list, e.owner = .hub ∧ (e.affected.getD 0).getLsbD i.val = true) ∨
        ∃ n, q.alarm.buffer = some n ∧ n.entry.owner = .hub ∧ (n.entry.affected.getD 0).getLsbD i.val = true) ∧
      (alone = true → ∀ e ∈ q.alarm.list, e.owner ≠ .record i))

/-- A record that has become VACANT: it keeps its generation, and what R112 names as discarded is absent, zero or clear.
What its host-written fields hold then is the model's choice (log entry 46) and is not said here. -/
def EndedRecord (before after : ServiceRecord) : Prop :=
  after.state = .vacant ∧ after.generation = before.generation ∧ after.identity = none ∧ after.stagedOffset = none ∧
    after.stagedShare = none ∧ after.filter = none ∧ after.window = {} ∧ after.halfSpread = none ∧ after.te = none ∧
    after.resetRequest = false ∧ after.blocked = false ∧ after.lastPort = none ∧ after.silentCount = 0 ∧
    after.silentSeconds = 0 ∧ after.dismissAttempts = 0 ∧ after.returnBinding = none

/-- A record after its move to the protect port of its pair: the filter shifted by the protect offset, C formed afresh,
the window emptied (R147, R158). -/
def movedRecord (k : PairIx) (r : ServiceRecord) : ServiceRecord :=
  { r with
    currentPort := protectPort k, blocked := false, outlierRun := 0, window := {}
    filter := r.filter.map (fun f => f + r.protectOffset * 65536)
    compensation := match r.filter with
      | none => 0
      | some f => max 0 (min 131072000000 (f + r.protectOffset * 65536 + r.staticOffset * 65536)) }

/-- A port whose line enters FAULT at the boundary that comes: it is not DISABLED, its line is CLEAN, and the port second
that ends is its third failing one in a run (R131). -/
def Part.Faulting (p : Part) (q : PortIx) : Prop :=
  (p.port q).state ≠ .disabled ∧ (p.port q).line = .clean ∧ 3 ≤ (p.port q).failRun + 1 ∧ (p.engine q).aborted = true

/-- A port whose line becomes CLEAN at the boundary that comes: the port second that ends is its tenth clean one in a run
(R131). -/
def Part.Clearing (p : Part) (q : PortIx) : Prop :=
  (p.port q).state ≠ .disabled ∧ (p.port q).line = .fault ∧ 10 ≤ (p.port q).cleanRun + 1 ∧
    (p.engine q).aborted = false ∧ (p.engine q).sent = true

/-- A port whose line is CLEAN and stays so at the boundary that comes, since no frame has been aborted (R131). -/
def Part.StaysClean (p : Part) (q : PortIx) : Prop := (p.port q).line = .clean ∧ (p.engine q).aborted = false

/-- A port whose line is in FAULT and stays so at the boundary that comes, since a frame has been aborted (R131). -/
def Part.StaysFaulted (p : Part) (q : PortIx) : Prop := (p.port q).line = .fault ∧ (p.engine q).aborted = true

/-- No slot in progress has an outcome still to report. -/
def Part.NoSlotOpen (p : Part) : Prop := ∀ q : PortIx, (p.engine q).target = none

/-- No record auto-retires at the boundary that comes (R109). -/
def Part.NoneRetires (p : Part) : Prop := ∀ i : RecordIx, retiresNow (p.record i) = false

/-! ## What the items of a request write (Figure 11-3) -/

/-- The least and the greatest value of each numeric field. -/
abbrev Ranges := List (Byte × Int × Int)

/-- The ranges of table 0 (R91). -/
def recordRanges : Ranges :=
  [(2, 20, 1000000), (3, 0, 100000), (4, 1, 65535), (5, -100000, 100000), (6, -100000, 100000), (8, 1, 60),
    (9, 0, 65535)]

/-- The ranges of table 1, for the fields that each kind of slot has (R39). -/
def slotRanges (k : SlotIx) : Ranges :=
  [(2, 0, 8), (3, 0, 3600), (4, 0, 30), if k.val = 3 then (5, 1, 1000) else (5, 20, 100000), (8, 0, 10000)] ++
    (if k.val ≤ 1 then [(6, 10, 10000), (7, 0, 100000)] else []) ++ if k.val = 3 then [(9, 0, 655360)] else []

/-- The range of table 2 (R119). -/
def portRanges : Ranges := [(3, 20, 1000000)]

/-- The range of table 3 (R155). -/
def pairRanges : Ranges := [(2, 0, 3600)]

/-- The ranges of table 4 (R65). -/
def hubRanges : Ranges := [(2, 10, 1000), (3, 100, 100000), (4, 100, 1000000)]

/-- The ranges of table 5 (R13). -/
def oscillatorRanges : Ranges :=
  [(1, 0, 655360), (2, 0, 655360), (3, -655360, 655360), (4, 8, 16), (5, 0, 1000000)]

/-- The value bytes that a request gives a field, when it names it. -/
def valueOf (items : List RawItem) (field : Byte) : Option (List Byte) :=
  (items.find? (fun it => it.field == field)).map RawItem.value

/-- Whether a request names a field. -/
def named (items : List RawItem) (field : Byte) : Bool := (valueOf items field).isSome

/-- A number as a request leaves it: the written one, moved to the nearer end of its range when it is outside, or else the
one held (R198). -/
def heldNumber (ranges : Ranges) (items : List RawItem) (field : Byte) (old : Int) : Int :=
  match valueOf items field, ranges.lookup field with
  | some bytes, some (least, greatest) => max least (min greatest (signedNumberOf bytes))
  | _, _ => old

/-- What the code in a one-byte field stands for after a request: the written one, or else the one held (R198). -/
def heldCode {α : Type} (items : List RawItem) (field : Byte) (meaning : Byte → α) (old : α) : α :=
  match valueOf items field with
  | some [code] => meaning code
  | _ => old

/-- A flag after a request (R198). -/
def heldFlag (items : List RawItem) (field : Byte) (old : Bool) : Bool := heldCode items field (fun c => c == 1) old

/-- An identity after a request, which a value of no bytes makes absent (R99). -/
def heldIdentity (items : List RawItem) (old : Option Identity) : Option Identity :=
  match valueOf items 1 with
  | some [] => none
  | some bytes => some (BitVec.ofNat 48 (numberOf bytes))
  | none => old

/-- Whether a request writes a number outside its range, so that the reply has the clamped flag (R191). -/
def clampsAny (ranges : Ranges) (items : List RawItem) : Bool :=
  items.any (fun it => ranges.any (fun r =>
    r.1 == it.field && (decide (signedNumberOf it.value < r.2.1) || decide (r.2.2 < signedNumberOf it.value))))

/-- The items that a table takes: each field named once; four bytes for a number, one listed byte for a flag or an
enumeration, and what else the table allows. -/
def admits (ranges : Ranges) (codes : List (Byte × List Byte)) (others : RawItem → Bool) (items : List RawItem) : Bool :=
  decide (items.map RawItem.field).Nodup && items.all (fun it =>
    (ranges.any (fun r => r.1 == it.field) && it.value.length == 4) ||
      codes.any (fun c => c.1 == it.field && c.2.any (fun n => it.value == [n])) || others it)

/-- No item of another form. -/
def nothingElse (_ : RawItem) : Bool := false

/-- Items that table 0 takes: its numbers, two flags, and an identity of six bytes or none (R91, R99). -/
def recordAdmits (items : List RawItem) : Bool :=
  admits recordRanges [(7, [0, 1]), (10, [0, 1])]
    (fun it => it.field == 1 && (it.value.length == 6 || it.value.length == 0)) items

/-- Items that table 1 takes for a slot: `enabled` is written at slots 0 to 3 (R39). -/
def slotAdmits (k : SlotIx) (items : List RawItem) : Bool :=
  admits (slotRanges k) (if k.val ≤ 3 then [(1, [0, 1])] else []) nothingElse items

/-- Items that table 2 takes (R119). -/
def portAdmits (items : List RawItem) : Bool := admits portRanges [(1, [0, 1]), (2, [0, 1])] nothingElse items

/-- Items that table 3 takes (R155). -/
def pairAdmits (items : List RawItem) : Bool := admits pairRanges [(1, [0, 1])] nothingElse items

/-- Items that table 4 takes, the code of the preferred slot apart (R65). -/
def hubAdmits (items : List RawItem) : Bool :=
  admits hubRanges [(1, [0, 1, 2]), (5, [0, 1])] (fun it => it.field == 6 && it.value.length == 1) items

/-- Items that table 5 takes (R13). -/
def oscillatorAdmits (items : List RawItem) : Bool := admits oscillatorRanges [] nothingElse items

/-- Items that table 6 takes: three thresholds, five flags, modes or polarities, and the pulse width (R182, R183). -/
def alarmAdmits (items : List RawItem) : Bool :=
  admits []
    [(1, [1, 2, 3, 4, 5]), (2, [1, 2, 3, 4, 5]), (3, [1, 2, 3, 4, 5]), (4, [0, 1]), (5, [0, 1]), (6, [0, 1]),
      (7, [0, 1]), (8, [0, 1])] (fun it => it.field == 9 && it.value.length == 4) items

/-- The threshold of a code (Figure 11-4). -/
def thresholdNamed (code : Byte) : Option Severity :=
  if code = 1 then some .note else if code = 2 then some .minor else if code = 3 then some .major
  else if code = 4 then some .critical else none

/-- A line whose mode or polarity changes: a pulse in progress ends, and none stays owed (R181, R193). -/
def lineChanged (l : PulseLine) : PulseLine :=
  { l with phase := if l.phase = .pulse then .gap else l.phase, owed := 0 }

/-! ## Invariants -/

/-- F, y, f_avg and both copies of the correction stay within ±50,000 ppb, and U does not exceed 10^9 ns (R80, R84). The
last clause, a range of R13, is what keeps U there at a warm reset. -/
def WithinLimits (p : Part) : Prop :=
  magnitude p.hub.integrator ≤ correctionLimit ∧ magnitude p.hub.correction ≤ correctionLimit ∧
    magnitude p.hub.average ≤ correctionLimit ∧ magnitude p.tb.applied ≤ correctionLimit ∧
    magnitude p.tb.next ≤ correctionLimit ∧ p.hub.bound ≤ boundCeiling ∧ p.osc.restart ≤ 1000000

/-- The hub state fits the kind of the selected slot, as the table of R68 moves it. -/
def HubStateFits (p : Part) : Prop :=
  match newKind p.selected with
  | .none => p.hub.state = .freeRun ∨ p.hub.state = .holdover ∨ p.hub.state = .holdoverExpired
  | .phase =>
    p.hub.state = .acquire ∨ p.hub.state = .locked ∨ (p.hub.state = .bridging ∧ p.hub.bridgedFrom = .locked)
  | .frequency => p.hub.state = .lockedFreq ∨ (p.hub.state = .bridging ∧ p.hub.bridgedFrom = .lockedFreq)

/-- The selected slot is the one that the rules of choice give, the hub record names it, and the hub state fits it (R58
to R60, R68). -/
def SelectionAgrees (p : Part) : Prop := p.choice = p.selected ∧ p.hub.selected = p.selected ∧ HubStateFits p

/-- The two laws of R94: no two non-VACANT records that have one port as home or current port hold the same address, and
no two non-VACANT records hold the same identity. Since there are four addresses, a port counts at most four records. -/
def RecordLaws (p : Part) : Prop :=
  (∀ (q : PortIx) (i j : RecordIx), (p.record i).counts q = true → (p.record j).counts q = true →
      (p.record i).address = (p.record j).address → i = j) ∧
    ∀ (x : Identity) (i j : RecordIx), (p.record i).state ≠ .vacant → (p.record j).state ≠ .vacant →
      (p.record i).identity = some x → (p.record j).identity = some x → i = j

/-- Every compensation lies between 0 and 2,000,000 ns (R146). -/
def CompensationInRange (p : Part) : Prop :=
  ∀ i : RecordIx, 0 ≤ (p.record i).compensation ∧ (p.record i).compensation ≤ compensationLimit

/-- The two halves of every return binding agree (R54, R116): only slots 4 and 5 are bound, a bound slot names a live
record of its own generation that names the slot, and a record that names a slot is the one bound to it. -/
def BindingsAgree (p : Part) : Prop :=
  (∀ k : SlotIx, k.val < 4 → (p.slot k).binding = none) ∧
    (∀ (k : SlotIx) (i : RecordIx) (g : Generation), (p.slot k).binding = some (i, g) →
      (p.record i).returnBinding = some k ∧ (p.record i).generation = g ∧ (p.record i).state ≠ .vacant ∧
        (p.record i).state ≠ .retiring) ∧
    ∀ (i : RecordIx) (k : SlotIx), (p.record i).returnBinding = some k →
      (p.slot k).binding = some (i, (p.record i).generation)

/-- The pending list holds at most one entry for each owner (R173). -/
def OneEntryPerOwner (p : Part) : Prop := (p.alarm.list.map Entry.owner).Nodup

/-- A property of the part that every step keeps, whatever command waits at the front of the queue. -/
def KeptByEveryStep (inv : Part → Prop) : Prop := ∀ s t : State, inv s.part → step s = .next t → inv t.part

end Sys2Proof.Machine
end

