-- ==== Sys2Proof/WellFormed.lean ====
section
/-! DEFINITION. Which terms of `Instr` stand for something that can cross the part's boundary: frames that a length byte
can state, items whose length byte can state their value, responses no longer than the longest, of characters that begin
with a start bit, and a header that names STATUS.
`exec` gives every term a meaning; a term that is not well formed stands for nothing that can happen. -/

namespace Sys2Proof

/-- A frame whose length one byte can state (R199). -/
def frameFits (bytes : List Byte) : Bool := decide (bytes.length ≤ 255)

/-- Items whose value lengths one byte each can state, in a request body of at most `room` bytes (Figure 11-3). -/
def itemsFit (room : Nat) (items : List RawItem) : Bool :=
  items.all (fun it => decide (it.value.length ≤ 255)) &&
    decide ((items.map (fun it => it.value.length + 2)).sum ≤ room)

/-- The blocks and ports of a boundary are named at most once each (R8). -/
def boundaryFits (b : BoundaryArgs) : Bool := decide b.order.Nodup && decide b.portOrder.Nodup

/-- The characters of a response: at most 12, each with a dominant start bit (R200, Figure 11-7). -/
def responseFits (characters : List LineChar) : Bool :=
  decide (characters.length ≤ 12) && characters.all (fun c => !c.getMsbD 0)

/-- A line event with the characters that a response can have. -/
def lineEventFits : LineEvent → Bool
  | .responseError characters => responseFits characters
  | .echo characters => responseFits characters
  | .leave characters => responseFits characters
  | .distress characters => responseFits characters
  | .delaySlotStart _ => true
  | .openSlotStart => true
  | .verdictSlotStart => true
  | .quietSlotStart => true
  | .readbackMismatch _ _ => true
  | .windowClose => true

/-- An occurrence that is well formed. -/
def causeFits : Cause → Bool
  | .boundary b => boundaryFits b
  | .line _ e => lineEventFits e
  | .tod _ _ => true
  | .pkt _ => true
  | .request frame => frameFits frame

/-- A well-formed command. -/
def wellFormed : Instr → Bool
  | .status header => decide (header.toNat < 2 ∨ 4 < header.toNat)
  | .writeM _ frame => frameFits frame
  | .unknownRequest frame => frameFits frame
  | .setServiceRecord _ _ items => itemsFit 251 items
  | .setReferenceSlot _ _ items => itemsFit 251 items
  | .setPort _ _ items => itemsFit 251 items
  | .setPair _ _ items => itemsFit 251 items
  | .setHubRecord _ _ items => itemsFit 251 items
  | .setOscillatorRecord _ _ items => itemsFit 251 items
  | .setAlarmSettings _ _ items => itemsFit 251 items
  | .create _ _ _ items => itemsFit 251 items
  | .hubSecondBoundary b => boundaryFits b
  | .lockEntry b => boundaryFits b
  | .outOfWindowReacquire b => boundaryFits b
  | .autoRetire _ b => boundaryFits b
  | .lineFaultEntry _ b => boundaryFits b
  | .lineCleanEntry _ b => boundaryFits b
  | .portPark _ b => boundaryFits b
  | .pairWtrExpiry _ b => boundaryFits b
  | .responseError _ characters => responseFits characters
  | .echo _ characters => responseFits characters
  | .delayStep _ characters => responseFits characters
  | .leave _ characters => responseFits characters
  | .distress _ characters => responseFits characters
  | .enrol _ characters => responseFits characters
  | .statisticsWindowClose _ c => causeFits c
  | .silentEntry _ c => causeFits c
  | .retireUnacknowledged _ c => causeFits c
  | .jumpReferenceRetake _ c => causeFits c
  | .slotQualify _ c => causeFits c
  | .slotHoldOffFail _ c => causeFits c
  | .slotOutlierFail _ c => causeFits c
  | .readM _ => true
  | .readA => true
  | .transactionCutShort => true
  | .ident _ => true
  | .restart _ => true
  | .lookServiceRecord _ _ => true
  | .lookReferenceSlot _ _ => true
  | .lookPort _ _ => true
  | .lookPair _ _ => true
  | .lookHubRecord _ _ => true
  | .lookOscillatorRecord _ _ _ => true
  | .lookAlarmSettings _ _ => true
  | .findByPortAddress _ _ _ => true
  | .findByIdentity _ _ => true
  | .retire _ _ => true
  | .bind _ _ _ => true
  | .unbind _ _ => true
  | .forceFail _ _ => true
  | .lockout _ _ => true
  | .release _ _ => true
  | .prefer _ _ => true
  | .switchPair _ _ => true
  | .restorePair _ _ => true
  | .stepAllow _ => true
  | .lockOsc _ => true
  | .alarmBufferLoad => true
  | .pornAssert => true
  | .pornRelease _ => true
  | .wrstnAssert => true
  | .wrstnRelease => true
  | .stepHoldEnd => true
  | .hsoFall => true
  | .delaySlotStart _ _ => true
  | .openSlotStart _ => true
  | .verdictSlotStart _ => true
  | .frameSentWhole _ => true
  | .readbackMismatch _ _ _ => true
  | .responseWindowClose _ => true
  | .responseStart _ _ => true
  | .wakePulse _ => true
  | .ppsEdge _ _ => true
  | .todMessage _ _ => true
  | .pktMessage _ => true
  | .lineClockLost => true
  | .almPulseEnd => true
  | .mgtPulseEnd => true
  | .lineClockReturn => true
  | .transactionBegin _ => true
  | .quietSlotStart _ => true
  | .almOwedPulse => true
  | .mgtOwedPulse => true

end Sys2Proof
end

