-- ==== Sys2Proof/Certificates/Slice0/Obligations.lean ====
section
/-! DEFINITION. The statements: what the commands do, what they leave as it stands, and the invariants that every step
keeps. -/

section Statements

open Sys2Proof Sys2Proof.Machine

/-! ## The machine -/

/-- A step takes the command at the front of the queue and runs it on the rest of the queue; with an empty queue the part
idles, which is the model's choice (log entry 1). -/
def Obligations.StepRunsTheFrontCommand : Prop :=
  (∀ (c : Instr) (rest : List Instr) (p : Part),
    step { part := p, pending := c :: rest } = exec c { part := p, pending := rest }) ∧
  ∀ p : Part, step { part := p, pending := [] } = .next { part := p, pending := [] }

/-- No command faults, is refused, or touches the queue; and after it the alarm buffer is loaded whenever it is empty and
the list is not, unless a reset input is asserted or the loading is the very next command of the queue (R177, R184; log
entry 5). -/
def Obligations.EveryCommandCompletesAndLoadsTheBuffer : Prop :=
  ∀ (c : Instr) (s : State), ∃ t : State, exec c s = .next t ∧ t.pending = s.pending ∧
    (t.part.held = false → s.pending.head? ≠ some .alarmBufferLoad → t.part.alarm.buffer = none → t.part.alarm.list = [])

/-! ## Resets -/

/-- PORN_ASSERT gives every block its power-on values, and PORN_RELEASE then gives the reset state: hub time at zero,
the first boundary with HSO high, slots 0 to 3 running, and the RESTART notice with FREE_RUN in the buffer (R18, R38,
R62, R89, R117, R137, R168, R184, R196). The bridged-from of the reset record, the bytes clocked out that stay, the line
clock and the measurement that the release begins, the raw oscillator's count of 0 there, the cleared fields of the
service records, and the ALM line at rest with no width of rest to pass are the model's choice (log entries 8, 9, 10, 45,
46 and 49). -/
def Obligations.PowerOnResetGivesTheResetState : Prop :=
  ∀ (s : State) (sinceEdge : Option Nat), s.part.wrst = false → s.part.mgmt.transaction = none →
    ∃ t : State, exec .pornAssert s = .next t ∧ t.pending = s.pending ∧ t.part.porn = true ∧ t.part.tb = {} ∧
      t.part.osc = {} ∧ t.part.hub = {} ∧ t.part.selected = none ∧ t.part.slots = resetSlots ∧
      (∀ k, t.part.input k = {}) ∧ (∀ i, t.part.record i = {}) ∧ (∀ q, t.part.port q = {}) ∧
      (∀ q, t.part.engine q = {}) ∧ (∀ k, t.part.pair k = {}) ∧ t.part.alarm = {} ∧ t.part.mgmt.inbound = none ∧
      t.part.mgmt.reply = none ∧ t.part.mgmt.resetSeen = true ∧
      exec (.pornRelease sinceEdge) t =
        .next
          { part :=
              { State.reset.part with
                lineClock := { present := sinceEdge.isSome, cycles := 0, edge := -(sinceEdge.getD 0 : Nat) }
                inputs :=
                  State.reset.part.inputs.set 3
                    { wholeSecond := true
                      lineStart := sinceEdge.map (fun since => { phase := (since : Int), raw := 0 }) }
                mgmt := { State.reset.part.mgmt with spiOut := s.part.mgmt.spiOut } }
            pending := s.pending }

/-- WRSTN_ASSERT resets every table, keeps hub time, the oscillator record and the learned state, and sends a once-locked
hub to HOLDOVER or HOLDOVER_EXPIRED and any other to FREE_RUN; the list holds the RESTART entry alone (R19, R38, R62, R90,
R117, R137, R168, R184, R196). That the line clock's presence and its count of cycles are kept, and the raw oscillator's
count, and the values that the cleared fields of a service record take, are the model's choice (log entries 10, 45 and
46). -/
def Obligations.WarmResetKeepsTheLearnedState : Prop :=
  ∀ s : State, s.part.held = false →
    ∃ t : State, exec .wrstnAssert s = .next t ∧ t.pending = s.pending ∧ t.part.wrst = true ∧ t.part.porn = false ∧
      t.part.tb = { s.part.tb with pendingStep := none, next := t.part.hub.correction } ∧ t.part.osc = s.part.osc ∧
      t.part.lineClock = s.part.lineClock ∧ t.part.selected = none ∧ t.part.slots = resetSlots ∧
      (∀ k, t.part.input k = {}) ∧ (∀ i, t.part.record i = {}) ∧ (∀ q, t.part.port q = {}) ∧
      (∀ q, t.part.engine q = {}) ∧ (∀ k, t.part.pair k = {}) ∧
      t.part.mgmt.inbound = none ∧ t.part.mgmt.reply = none ∧ t.part.mgmt.resetSeen = true ∧
      t.part.mgmt.lastReset = .warmPin ∧ t.part.alarm.settings = {} ∧ t.part.alarm.buffer = none ∧
      (∃ e : Entry, t.part.alarm.list = [e] ∧ e.owner = .hub ∧ hasCondition e.raised .restart = true ∧
        e.detail = some .warm) ∧
      t.part.hub.integrator = s.part.hub.integrator ∧ t.part.hub.average = s.part.hub.average ∧
      t.part.hub.age = s.part.hub.age ∧ t.part.hub.averageValid = s.part.hub.averageValid ∧
      t.part.hub.wasLocked = s.part.hub.wasLocked ∧ t.part.hub.scaleOffset = s.part.hub.scaleOffset ∧
      t.part.hub.selected = none ∧ t.part.hub.inWindow = 0 ∧ t.part.hub.outOfWindow = 0 ∧
      t.part.hub.stepPermission = false ∧ t.part.hub.lineCount = none ∧ t.part.hub.lastRefused = none ∧
      t.part.hub.settings = {} ∧
      (s.part.hub.wasLocked = true →
        t.part.hub.bound = max s.part.hub.bound (toQ s.part.osc.restart) ∧ t.part.hub.t = 0 ∧
        (t.part.hub.prediction.map Prediction.uEntry) = some t.part.hub.bound ∧
        t.part.hub.correction =
          clampCorrection (if s.part.hub.averageValid then s.part.hub.average else s.part.hub.integrator) ∧
        t.part.hub.causeNumber = nextCause s.part.hub.causeNumber ∧
        t.part.hub.state = (if toQ 1100 < t.part.hub.bound then .holdoverExpired else .holdover) ∧
        t.part.hub.grade = (if toQ 1100 < t.part.hub.bound then .d else .c)) ∧
      (s.part.hub.wasLocked = false →
        t.part.hub.state = .freeRun ∧ t.part.hub.grade = .e ∧ t.part.hub.bound = boundCeiling ∧
        t.part.hub.correction = s.part.hub.integrator ∧ t.part.hub.causeNumber = s.part.hub.causeNumber)

/-- WRSTN_RELEASE ends the reset and loads the RESTART entry at once, whatever the queue schedules (R184). RESTART gives
the warm reset that WRSTn gives, loads the RESTART notice at the same instant, and is answered DONE under the reset
settings (R195, R184, R194). -/
def Obligations.WarmResetsEndWithTheRestartNotice : Prop :=
  (∀ (s : State) (e : Entry) (rest : List Entry), s.part.wrst = true → s.part.porn = false → s.part.alarm.buffer = none →
    s.part.alarm.list = e :: rest →
    exec .wrstnRelease s =
      .next { s with
        part := { s.part with
          wrst := false
          alarm := { s.part.alarm with
            buffer := some { entry := e, standing := s.part.alarm.standingOf e.owner }, list := rest
            alm := s.part.alarm.alm.load s.part.alarm.settings.almMode s.part.alarm.settings.pulseWidth } } }) ∧
  ∀ (s : State) (tag : Byte), s.part.Ready →
    ∃ w : State, exec .wrstnAssert s = .next w ∧
      exec (.restart tag) s =
        .next { s with
          part := { w.part with
            wrst := false
            alarm := w.part.alarm.load
            mgmt := { w.part.mgmt with
              lastReset := .warmRequest, reply := some [0x05#8, 0x02#8, 0x02#8, tag, 0x00#8, 0x00#8] } } }

/-! ## Time Base -/

/-- At a boundary with no pending step the seconds advance by one, counting starts again at zero with the carried
remainder kept, the next correction becomes the applied one, and HSO rises; the oscillator record, the line clock's
presence, the Management Port and the reset inputs stay (R4, R6, R8, R9, R12, R19). At a boundary with a pending step of
Δ ns the step is applied and removed: whole seconds k modulo 2^48, and a remainder n of at least −500,000,000 and less
than 500,000,000 ns as a forward jump or a hold; the reading, the length, the step mark and the zero remainder are those
of the table of R11 (R11, R12). At either the raw oscillator has counted the raw time of the second that ends, at the
correction applied in it, rounded to the nearest q (R2, R7); that it counts whole q is the model's choice (log entry 45). -/
def Obligations.BoundaryAdvancesOrStepsHubTime : Prop :=
  (∀ (b : BoundaryArgs) (s : State), s.part.porn = false → s.part.tb.pendingStep = none →
    ∃ t : State, exec (.hubSecondBoundary b) s = .next t ∧ t.pending = s.pending ∧
      t.part.tb =
        { second := (s.part.tb.second + 1) % 2 ^ 48, startNs := 0, holdNs := 0, lengthNs := 1000000000, elapsed := 0,
          remainder := s.part.tb.remainder
          raw :=
            s.part.tb.raw +
              (roundDiv (s.part.tb.lengthNs * 65536 * 65536000000000 : Nat)
                ((65536000000000 : Int) + s.part.tb.applied).toNat).toNat
          applied := s.part.tb.next, next := t.part.tb.next,
          pendingStep := t.part.tb.pendingStep, stepMark := false, hso := true } ∧
      t.part.osc = s.part.osc ∧ t.part.lineClock.present = s.part.lineClock.present ∧ t.part.mgmt = s.part.mgmt ∧
      t.part.porn = s.part.porn ∧ t.part.wrst = s.part.wrst) ∧
  ∀ (b : BoundaryArgs) (s : State) (delta k n : Int), s.part.porn = false → s.part.tb.pendingStep = some delta →
    delta = k * 1000000000 + n → -500000000 ≤ n → n < 500000000 →
    ∃ t : State, exec (.hubSecondBoundary b) s = .next t ∧ t.pending = s.pending ∧
      t.part.tb.pendingStep = none ∧ t.part.tb.stepMark = true ∧ t.part.tb.remainder = 0 ∧
      t.part.tb.applied = s.part.tb.next ∧ t.part.tb.hso = true ∧
      t.part.tb.raw =
        s.part.tb.raw +
          (roundDiv (s.part.tb.lengthNs * 65536 * 65536000000000 : Nat)
            ((65536000000000 : Int) + s.part.tb.applied).toNat).toNat ∧
      (t.part.tb.counter.sec : Int) = (((s.part.tb.second + 1) % 2 ^ 48 : Nat) + k) % (2 ^ 48 : Nat) ∧
      (t.part.tb.counter.ns : Int) = max n 0 ∧ t.part.tb.counter.frac = 0 ∧
      (t.part.tb.lengthNs : Int) = 1000000000 - n ∧ (t.part.tb.holdNs : Int) = max (-n) 0

/-- STEP_HOLD_END ends a hold with the counter still at its held reading; HSO_FALL takes the output low, 100 ms after
the boundary, hold time counted. Neither changes anything else (R9, R11); that the carried remainder stays there is the
model's choice (log entry 2). One raw second advances hub time by 10^9 ns plus y q, with the carried remainder kept,
when no boundary falls within it (R4, R7). -/
def Obligations.HubTimeRunsBetweenBoundaries : Prop :=
  (∀ s : State, s.part.porn = false → s.part.tb.holding = true → s.part.tb.holdNs < s.part.tb.lengthNs →
    ∃ tb : TimeBase, Completes .stepHoldEnd s { s.part with tb := tb } ∧
      tb = { s.part.tb with
        elapsed := s.part.tb.holdNs * 65536, hso := s.part.tb.hso && decide (s.part.tb.holdNs < 100000000) } ∧
      tb.holding = false ∧ tb.counter = s.part.tb.counter) ∧
  (∀ s : State, s.part.porn = false → s.part.tb.hso = true → s.part.tb.elapsed ≤ 100 * qPerMs →
    100000000 < s.part.tb.lengthNs →
    Completes .hsoFall s { s.part with tb := { s.part.tb with hso := false, elapsed := 100 * qPerMs } }) ∧
  ∀ p : Part, p.porn = false → magnitude p.tb.applied ≤ correctionLimit → p.tb.remainder < qPerSecond →
    (p.tb.elapsed : Int) + qPerSecond + p.tb.applied < (p.tb.lengthNs : Int) * 65536 →
    ((passRaw qPerSecond p).tb.elapsed : Int) = p.tb.elapsed + qPerSecond + p.tb.applied ∧
      (passRaw qPerSecond p).tb.remainder = p.tb.remainder

/-- LOCK-OSC sets the lock flag and changes no figure; once it is set, SET of any items on table 5 is refused with
LOCKED and changes nothing, and every step but a power-on reset keeps the record (R15, R17). LOOK on table 5 answers
DONE with the five figures and the lock flag, the applied correction and the hub time reading at the instant of taking,
whether or not the record is locked, and changes nothing but the reply and the time (R14). That the index is ignored,
and the order, identifiers and widths of the items, are the model's reading (log entries 11, 12 and 23). -/
def Obligations.OscillatorRecordIsShownAndLocked : Prop :=
  (∀ (s : State) (tag : Byte), s.part.Ready →
    Completes (.lockOsc tag) s
      ({ s.part with osc := { s.part.osc with locked := true } }.answer 0x51#8 tag { code := .done })) ∧
  (∀ (s : State) (tag index : Byte) (items : List RawItem), s.part.Ready → s.part.osc.locked = true → items ≠ [] →
    itemsFit 251 items = true → oscillatorAdmits items = true →
    Completes (.setOscillatorRecord tag index items) s (s.part.answer 0x11#8 tag { code := .locked })) ∧
  (∀ s t : State, s.part.osc.locked = true → s.pending.head? ≠ some .pornAssert → step s = .next t →
    t.part.osc = s.part.osc) ∧
  ∀ (s : State) (dt : Nat) (tag index : Byte), s.part.Ready →
    Completes (.lookOscillatorRecord dt tag index) s
      ((passRaw dt s.part).answer 0x10#8 tag
        { code := .done,
          body :=
            item8 1 s.part.osc.stability ++ item8 2 s.part.osc.aging ++ item8 3 s.part.osc.prediction ++
              item4 4 s.part.osc.shift ++ item4 5 s.part.osc.restart ++ itemFlag 32 s.part.osc.locked ++
              item8 96 s.part.tb.applied ++ item 97 (hubTimeBytes (passRaw dt s.part).tb.counter) })

/-! ## Reference Inputs -/

/-- A PPS edge at a running SAT slot is stamped with the hub time reading of its instant and becomes the pending edge,
with the interval from the edge before it; the line clock's loss ends the measurement in progress, and its return marks
it present (R5, R23, R30). A message open at the edge began before it (R24). That the interval is the plain difference
of the two readings, also where hub seconds pass from 2^48 − 1 to 0 between them, and that the line clock is followed
while a reset input is asserted too, are the model's choice (log entries 39 and 10). -/
def Obligations.EdgesAndLineClockAreFollowed : Prop :=
  (∀ (s : State) (dt : Nat) (k : SatIx), s.part.held = false → s.part.running k.slot = true →
    Completes (.ppsEdge dt k) s
      ((passRaw dt s.part).setInput k.slot
        { s.part.input k.slot with
          pendingEdge :=
            some
              { reading := (passRaw dt s.part).tb.counter
                interval := (s.part.input k.slot).prevEdge.map (fun t => (passRaw dt s.part).tb.counter.toQ - t.toQ) }
          prevEdge := some (passRaw dt s.part).tb.counter
          message := (s.part.input k.slot).message.map (fun m => { m with afterEdge := false }) })) ∧
  (∀ s : State,
    Completes .lineClockLost s
      ({ s.part with lineClock := { s.part.lineClock with present := false } }.setInput lineSlot
        { s.part.input lineSlot with lineStart := none })) ∧
  ∀ s : State, Completes .lineClockReturn s { s.part with lineClock := { s.part.lineClock with present := true } }

/-- The characters of a whole ToD message that belongs to the pending edge complete the SAT slot's sample: e is the
named second plus the cable delay less the edge's reading, Aref the estimate plus the allowance; the sample is INVALID
by the tests of R26 and otherwise goes on to the jump check. A failed checksum gives INVALID with no value and keeps the
previous seconds (R20, R24 to R26, R33, R201). -/
def Obligations.TodMessageCompletesASatSample : Prop :=
  ∀ (s : State) (k : SatIx) (start : Byte) (bytes : List Byte) (m : TodMessage) (e : PendingEdge),
    s.part.held = false → s.part.running k.slot = true → decodeTod bytes = some m →
    (s.part.input k.slot).pendingEdge = some e → (s.part.input k.slot).completed = false →
    ∃ t : State, exec (.todMessage k (messageCharacters start bytes)) s = .next t ∧ t.pending = s.pending ∧
      KeepsTables s.part t.part ∧ KeepsBase s.part t.part ∧ KeepsOtherSlots k.slot s.part t.part ∧
      t.part.mgmt = s.part.mgmt ∧ (t.part.input k.slot).pendingEdge = none ∧ (t.part.input k.slot).completed = true ∧
      (t.part.input k.slot).message = none ∧
      (m.sound = true →
        (t.part.input k.slot).prevTod = some m.seconds ∧
        ∃ v : Int, v = (m.seconds * 1000000000 + (s.part.slot k.slot).cableDelay) * 65536 - e.reading.toQ ∧
          ∃ o : SampleOutcome,
            (t.part.input k.slot).last =
              some
                { outcome := o, value := some v, accuracy := some (m.estimate + (s.part.slot k.slot).allowance)
                  scale := some m.scale, second := s.part.tb.second, fresh := true } ∧
            ((m.tracking = false ∨ (s.part.slot k.slot).acceptLimit < m.estimate ∨
                (∃ n, (s.part.input k.slot).prevTod = some n ∧ m.seconds ≠ n + 1) ∨
                (∃ x, e.interval = some x ∧ (x < 900000000 * 65536 ∨ 1100000000 * 65536 < x)) ∨
                (1000000 * 65536 < magnitude v ∧ s.part.hub.stepPermission = false)) →
              o = .invalid) ∧
            (¬ (m.tracking = false ∨ (s.part.slot k.slot).acceptLimit < m.estimate ∨
                (∃ n, (s.part.input k.slot).prevTod = some n ∧ m.seconds ≠ n + 1) ∨
                (∃ x, e.interval = some x ∧ (x < 900000000 * 65536 ∨ 1100000000 * 65536 < x)) ∨
                (1000000 * 65536 < magnitude v ∧ s.part.hub.stepPermission = false)) →
              o = (match (s.part.input k.slot).jumpReference with
                | none => .good
                | some r => if (s.part.slot k.slot).jumpLimit * 65536 < magnitude (v - r) then .outlier else .good))) ∧
      (m.sound = false →
        (t.part.input k.slot).prevTod = (s.part.input k.slot).prevTod ∧
        (t.part.input k.slot).last = some { outcome := .invalid, second := s.part.tb.second })

/-- A serial input takes a start character as the start of a message, whatever its data bits and whatever was open;
bytes fill the message up to its length, and bytes with none open are ignored. A ToD message that stays short stays
open, and one that began before the pending edge completes no sample and only replaces the previous ToD seconds; so does
one that comes with no edge pending. The bytes lie as the table of R201 lays them out, and the exclusive-or of all of
them is 0 in a good message (R24, R27, R201). The ninth bit stands on top of the eight, which is the model's choice (log
entry 37). -/
def Obligations.SerialCharactersMakeMessages : Prop :=
  (∀ (length : Nat) (start : Byte) (bytes : List Byte) (current : Option OpenMessage),
    (bytes.length < length →
      receiveCharacters length (messageCharacters start bytes) current = (some { bytes := bytes, afterEdge := true }, [])) ∧
    (0 < length → bytes.length = length → ∀ more : List Byte,
      receiveCharacters length (messageCharacters start bytes ++ byteCharacters more) current =
        (none, [{ bytes := bytes, afterEdge := true }])) ∧
    receiveCharacters length (byteCharacters bytes) none = (none, [])) ∧
  (∀ (length : Nat) (m : OpenMessage) (bytes : List Byte), 0 < bytes.length →
    m.bytes.length + bytes.length = length →
    receiveCharacters length (byteCharacters bytes) (some m) = (none, [{ m with bytes := m.bytes ++ bytes }])) ∧
  (∀ (length : Nat) (first rest : List SerialChar) (current : Option OpenMessage),
    receiveCharacters length (first ++ rest) current =
      ((receiveCharacters length rest (receiveCharacters length first current).1).1,
        (receiveCharacters length first current).2 ++
          (receiveCharacters length rest (receiveCharacters length first current).1).2)) ∧
  (∀ (s : State) (k : SatIx) (start : Byte) (bytes : List Byte), s.part.held = false →
    s.part.running k.slot = true → bytes.length < 14 →
    Completes (.todMessage k (messageCharacters start bytes)) s
      (s.part.setInput k.slot
        { s.part.input k.slot with message := some { bytes := bytes, afterEdge := true } })) ∧
  (∀ (s : State) (start : Byte) (bytes : List Byte), s.part.held = false → s.part.running pktSlot = true →
    bytes.length < 15 →
    Completes (.pktMessage (messageCharacters start bytes)) s
      (s.part.setInput pktSlot
        { s.part.input pktSlot with message := some { bytes := bytes, afterEdge := true } })) ∧
  (∀ (s : State) (k : SatIx) (o : OpenMessage) (bytes : List Byte) (m : TodMessage), s.part.held = false →
    s.part.running k.slot = true → (s.part.input k.slot).message = some o → 0 < bytes.length →
    o.bytes.length + bytes.length = 14 → decodeTod (o.bytes ++ bytes) = some m →
    (o.afterEdge = false ∨ (s.part.input k.slot).pendingEdge = none) →
    Completes (.todMessage k (byteCharacters bytes)) s
      (s.part.setInput k.slot
        { s.part.input k.slot with
          message := none
          prevTod := if m.sound then some m.seconds else (s.part.input k.slot).prevTod })) ∧
  (∀ (seconds estimate : Nat) (scale : Int) (tracking sum : Byte), seconds < 2 ^ 48 → estimate < 2 ^ 32 →
    -32768 ≤ scale → scale < 32768 →
    decodeTod (bytesOf 6 seconds ++ [tracking] ++ bytesOf 4 estimate ++ signedBytesOf 2 scale ++ [sum]) =
      some
        { seconds := seconds, tracking := tracking == 1, estimate := estimate, scale := scale
          sound :=
            byteXor (bytesOf 6 seconds ++ [tracking] ++ bytesOf 4 estimate ++ signedBytesOf 2 scale) == sum }) ∧
  ∀ (sequence valid sum : Byte) (offset : Int) (bound : Nat), -(2 ^ 63) ≤ offset → offset < 2 ^ 63 → bound < 2 ^ 32 →
    decodePkt ([sequence, valid] ++ signedBytesOf 8 offset ++ bytesOf 4 bound ++ [sum]) =
      some
        { sequence := sequence.toNat, valid := valid == 1, offset := offset, bound := bound
          sound := byteXor ([sequence, valid] ++ signedBytesOf 8 offset ++ bytesOf 4 bound) == sum }

/-- The value of a PKT sample is the message's offset and its accuracy the error bound plus the allowance of that instant;
the sample is INVALID, with value and accuracy, when the valid flag is off or the offset's magnitude exceeds 500,000,000
ns, and otherwise has the outcome of the jump check; step permission plays no part (R28). -/
def Obligations.PktMessageCompletesAPktSample : Prop :=
  ∀ (s : State) (start : Byte) (bytes : List Byte) (m : PktMessage), s.part.TakesPkt bytes m →
    ∃ t : State, exec (.pktMessage (messageCharacters start bytes)) s = .next t ∧ t.pending = s.pending ∧
      KeepsTables s.part t.part ∧ KeepsBase s.part t.part ∧ KeepsOtherSlots pktSlot s.part t.part ∧
      t.part.mgmt = s.part.mgmt ∧ (t.part.input pktSlot).lastSeq = some m.sequence ∧
      (t.part.input pktSlot).message = none ∧
      (t.part.input pktSlot).last =
        some
          { outcome :=
              if m.valid = false ∨ 32768000000000 < magnitude m.offset then .invalid
              else match (s.part.input pktSlot).jumpReference with
                | none => .good
                | some r =>
                  if (s.part.slot pktSlot).jumpLimit * 65536 < magnitude (m.offset - r) then .outlier else .good
            value := some m.offset, accuracy := some (m.bound + (s.part.slot pktSlot).allowance), scale := none
            second := s.part.tb.second, fresh := true }

/-- At a boundary the running LINE slot with a measurement in progress and the clock present completes r = (Lt − Rt) ×
65,536 × 10^9 / Rt, INVALID above 4,600 ppb: the clock's phase is its cycles counted at 100 ns and the raw time since its
latest edge, and Rt is the raw time of the second that ends, rounded to the nearest q. A boundary with the clock present begins the next
measurement, and one without it begins none. Every slot completes a MISSING sample when it ran the whole second and
completed none, LINE when it has no measurement to complete. Either sample carries the label of the second that ended,
and the hub second event clears its fresh mark (R2, R7, R22, R29, R30, R33, R36). A return slot is taken with no slot open and no
auto-retirement at that boundary, which may fall either side of its sample. How the clock's edges come with the boundary
and are interpolated, and that the raw count is in whole q, are the model's reading and choice (log entry 45). -/
def Obligations.BoundaryCompletesLineAndMissingSamples : Prop :=
  (∀ (s : State) (b : BoundaryArgs) (start finish : LineReading) (raw : Nat) (clock : LineClock),
    s.part.held = false → s.part.running lineSlot = true →
    s.part.lineClock.present = true → (s.part.input lineSlot).lineStart = some start →
    raw =
      s.part.tb.raw +
        (roundDiv (s.part.tb.lengthNs * 65536 * 65536000000000 : Nat)
          ((65536000000000 : Int) + s.part.tb.applied).toNat).toNat →
    clock =
      (if b.line.cycles = 0 then s.part.lineClock
      else
        { present := true, cycles := s.part.lineClock.cycles + b.line.cycles
          edge := (raw : Int) - (b.line.since : Int) }) →
    finish = { phase := (clock.cycles : Int) * 100 * 65536 + ((raw : Int) - clock.edge), raw := (raw : Int) } →
    start.raw < finish.raw →
    ∃ (t : State) (r : Int), exec (.hubSecondBoundary b) s = .next t ∧ t.pending = s.pending ∧
      t.part.lineClock = clock ∧
      r = roundDiv (((finish.phase - start.phase) - (finish.raw - start.raw)) * (65536 * 1000000000))
        (finish.raw - start.raw) ∧
      (t.part.input lineSlot).last =
        some
          { outcome :=
              if 301465600 < magnitude r then .invalid
              else match (s.part.input lineSlot).jumpReference with
                | none => .good
                | some x => if (s.part.slot lineSlot).jumpLimit * 65536 < magnitude (r - x) then .outlier else .good
            value := some r, accuracy := none, scale := none, second := s.part.tb.second, fresh := false } ∧
      (t.part.input lineSlot).lineStart = some finish) ∧
  ∀ (s : State) (b : BoundaryArgs) (k : SlotIx), s.part.held = false → s.part.running k = true →
    (s.part.input k).wholeSecond = true → (s.part.input k).completed = false →
    (k = lineSlot → (s.part.input k).lineStart = none ∨ s.part.lineClock.present = false) →
    (4 ≤ k.val → s.part.NoSlotOpen ∧ s.part.NoneRetires) →
    ∃ t : State, exec (.hubSecondBoundary b) s = .next t ∧ t.pending = s.pending ∧
      (t.part.input k).last = some { outcome := .missing, second := s.part.tb.second, fresh := false } ∧
      (t.part.input k).completed = false ∧ (t.part.input k).wholeSecond = true ∧
      (k = lineSlot → ((t.part.input k).lineStart ≠ none ↔ s.part.lineClock.present = true))

/-- A completed sample moves the record of any slot by its state (R42 to R46). In CANDIDATE a GOOD sample lengthens the
good run and qualifies the slot at the WTR, and any other zeroes it. In QUALIFIED a GOOD sample zeroes the bad and the
outlier run, a MISSING or INVALID one that takes the bad run over the hold-off fails the slot, and so does the third
OUTLIER. In FAILED a GOOD sample takes the slot to CANDIDATE with a good run of 1, or with a WTR of 0 or 1 to QUALIFIED at
once, FAILED cleared; any other leaves it, as every sample leaves a forced slot. One choice follows a change of state.
At every slot a sample that is read beyond the jump limit is an OUTLIER, and the third of a run becomes the jump
reference (R33, R34). The characters of a PKT message bring each count to its limit, and the threshold command is then
that message, done whole. The MISSING sample of a boundary takes the bad run over the hold-off in the same way, at any
slot, and SLOT_HOLD_OFF_FAIL is then that boundary, also when the slot's record auto-retires there and DISABLED follows
(R22, R56; log entry 3). -/
def Obligations.SlotThresholdsAreReachedByASample : Prop :=
  (∀ (p q : Part) (k : SlotIx) (o : SampleOutcome) (r : SlotRecord), r = p.slot k → q = applySample k o p →
    KeepsTables p q ∧ KeepsBase p q ∧ q.inputs = p.inputs ∧ q.mgmt = p.mgmt ∧ KeepsOtherSlots k p q ∧
      ((q.slot k).state ≠ r.state → q.selected = (p.setSlot k (q.slot k)).choice) ∧
      ((q.slot k).state = r.state → q = p.setSlot k (q.slot k)) ∧
      (r.forced = true ∨ r.state = .disabled → q.slot k = r) ∧
      (r.forced = false → r.state = .candidate → o = .good →
        (r.wtr ≤ min (r.goodRun + 1) 65535 →
          q.slot k = { r with state := .qualified, goodRun := 0, badRun := 0, outlierRun := 0 } ∧
          (p.alarm.settings.slotThreshold = some .note →
            q.Reported (.slot k) .qualified (fun e => e.slot = some (some k)))) ∧
        (min (r.goodRun + 1) 65535 < r.wtr → q.slot k = { r with goodRun := min (r.goodRun + 1) 65535 })) ∧
      (r.forced = false → r.state = .candidate → o ≠ .good → q.slot k = { r with goodRun := 0 }) ∧
      (r.forced = false → r.state = .qualified → o = .good → q.slot k = { r with badRun := 0, outlierRun := 0 }) ∧
      (r.forced = false → r.state = .qualified → o = .missing ∨ o = .invalid →
        (r.badRun + 1 ≤ r.holdOff → q.slot k = { r with badRun := r.badRun + 1 }) ∧
        (r.holdOff < r.badRun + 1 →
          q.slot k = { r with state := .failed, goodRun := 0, badRun := 0, outlierRun := 0 } ∧
          hasCondition (q.alarm.standingOf (.slot k)) .failed = true)) ∧
      (r.forced = false → r.state = .qualified → o = .outlier →
        (r.outlierRun + 1 < 3 → q.slot k = { r with outlierRun := r.outlierRun + 1 }) ∧
        (3 ≤ r.outlierRun + 1 →
          q.slot k = { r with state := .failed, goodRun := 0, badRun := 0, outlierRun := 0 } ∧
          hasCondition (q.alarm.standingOf (.slot k)) .failed = true)) ∧
      (r.forced = false → r.state = .failed → o = .good →
        hasCondition (q.alarm.standingOf (.slot k)) .failed = false ∧
        (1 < r.wtr → q.slot k = { r with state := .candidate, goodRun := 1, badRun := 0, outlierRun := 0 }) ∧
        (r.wtr ≤ 1 →
          q.slot k = { r with state := .qualified, goodRun := 0, badRun := 0, outlierRun := 0 } ∧
          (p.alarm.settings.slotThreshold = some .note →
            q.Reported (.slot k) .qualified (fun e => e.slot = some (some k))))) ∧
      (r.forced = false → r.state = .failed → o ≠ .good → q = p)) ∧
  (∀ (p : Part) (k : SlotIx) (v : Int) (accuracy scale : Option Int) (second : Nat) (beyond : Bool),
    beyond = (match (p.input k).jumpReference with
      | none => false
      | some x => decide ((p.slot k).jumpLimit * 65536 < magnitude (v - x))) →
    completeRead k false v accuracy scale second p =
      applySample k (if beyond then .outlier else .good)
        (p.setInput k
          { p.input k with
            last := some
              { outcome := if beyond then .outlier else .good, value := some v, accuracy := accuracy, scale := scale
                second := second, fresh := true }
            completed := true
            jumpReference := if beyond = true ∧ (p.input k).jumpRun < 2 then (p.input k).jumpReference else some v
            jumpRun := if beyond = true ∧ (p.input k).jumpRun < 2 then (p.input k).jumpRun + 1 else 0 })) ∧
  (∀ (s : State) (start : Byte) (bytes : List Byte) (m : PktMessage), s.part.TakesPkt bytes m → m.valid = true →
    magnitude m.offset ≤ 32768000000000 → (s.part.input pktSlot).jumpReference = none →
    (s.part.slot pktSlot).forced = false → (s.part.slot pktSlot).state = .candidate →
    (s.part.slot pktSlot).wtr ≤ min ((s.part.slot pktSlot).goodRun + 1) 65535 →
    ∃ t : State, exec (.slotQualify pktSlot (.pkt (messageCharacters start bytes))) s = .next t ∧
      exec (.pktMessage (messageCharacters start bytes)) s = .next t ∧
      KeepsTables s.part t.part ∧ KeepsOtherSlots pktSlot s.part t.part ∧
      t.part.slot pktSlot =
        { s.part.slot pktSlot with state := .qualified, goodRun := 0, badRun := 0, outlierRun := 0 } ∧
      (s.part.alarm.settings.slotThreshold = some .note →
        t.part.Reported (.slot pktSlot) .qualified (fun e => e.slot = some (some pktSlot)))) ∧
  (∀ (s : State) (start : Byte) (bytes : List Byte) (m : PktMessage), s.part.TakesPkt bytes m → m.valid = false →
    (s.part.slot pktSlot).forced = false → (s.part.slot pktSlot).state = .qualified →
    (s.part.slot pktSlot).holdOff < (s.part.slot pktSlot).badRun + 1 →
    ∃ t : State, exec (.slotHoldOffFail pktSlot (.pkt (messageCharacters start bytes))) s = .next t ∧
      exec (.pktMessage (messageCharacters start bytes)) s = .next t ∧
      KeepsTables s.part t.part ∧ KeepsOtherSlots pktSlot s.part t.part ∧
      t.part.slot pktSlot =
        { s.part.slot pktSlot with state := .failed, goodRun := 0, badRun := 0, outlierRun := 0 } ∧
      hasCondition (t.part.alarm.standingOf (.slot pktSlot)) .failed = true ∧ t.part.selected ≠ some pktSlot) ∧
  (∀ (s : State) (start : Byte) (bytes : List Byte) (m : PktMessage) (r : Int), s.part.TakesPkt bytes m → m.valid = true →
    magnitude m.offset ≤ 32768000000000 → (s.part.input pktSlot).jumpReference = some r →
    (s.part.slot pktSlot).jumpLimit * 65536 < magnitude (m.offset - r) →
    (s.part.slot pktSlot).forced = false → (s.part.slot pktSlot).state = .qualified →
    3 ≤ (s.part.slot pktSlot).outlierRun + 1 →
    ∃ t : State, exec (.slotOutlierFail pktSlot (.pkt (messageCharacters start bytes))) s = .next t ∧
      exec (.pktMessage (messageCharacters start bytes)) s = .next t ∧
      KeepsTables s.part t.part ∧ KeepsOtherSlots pktSlot s.part t.part ∧
      t.part.slot pktSlot =
        { s.part.slot pktSlot with state := .failed, goodRun := 0, badRun := 0, outlierRun := 0 } ∧
      hasCondition (t.part.alarm.standingOf (.slot pktSlot)) .failed = true ∧ t.part.selected ≠ some pktSlot) ∧
  (∀ (s : State) (start : Byte) (bytes : List Byte) (m : PktMessage) (r : Int), s.part.TakesPkt bytes m → m.valid = true →
    magnitude m.offset ≤ 32768000000000 → (s.part.input pktSlot).jumpReference = some r →
    (s.part.slot pktSlot).jumpLimit * 65536 < magnitude (m.offset - r) → 2 ≤ (s.part.input pktSlot).jumpRun →
    ∃ t : State, exec (.jumpReferenceRetake pktSlot (.pkt (messageCharacters start bytes))) s = .next t ∧
      exec (.pktMessage (messageCharacters start bytes)) s = .next t ∧
      KeepsTables s.part t.part ∧ KeepsOtherSlots pktSlot s.part t.part ∧
      (t.part.input pktSlot).jumpReference = some m.offset ∧ (t.part.input pktSlot).jumpRun = 0 ∧
      (t.part.input pktSlot).last.map Sample.outcome = some .outlier) ∧
  ∀ (s : State) (b : BoundaryArgs) (k : SlotIx), s.part.held = false → s.part.running k = true →
    (s.part.input k).wholeSecond = true → (s.part.input k).completed = false →
    (k = lineSlot → (s.part.input k).lineStart = none ∨ s.part.lineClock.present = false) →
    (4 ≤ k.val → s.part.NoSlotOpen ∧ (s.part.NoneRetires ∨ standsBefore (worksOf b) .inputs .records = true)) →
    (s.part.slot k).forced = false → (s.part.slot k).state = .qualified →
    (s.part.slot k).holdOff < (s.part.slot k).badRun + 1 →
    ∃ t : State, exec (.slotHoldOffFail k (.boundary b)) s = .next t ∧ exec (.hubSecondBoundary b) s = .next t ∧
      t.pending = s.pending ∧ t.part.selected ≠ some k ∧
      (k.val < 4 ∨ s.part.NoneRetires →
        t.part.slot k = { s.part.slot k with state := .failed, goodRun := 0, badRun := 0, outlierRun := 0 } ∧
        hasCondition (t.part.alarm.standingOf (.slot k)) .failed = true) ∧
      ∀ (i : RecordIx) (g : Generation), (s.part.slot k).binding = some (i, g) → retiresNow (s.part.record i) = true →
        BindingsAgree s.part → (t.part.slot k).state = .disabled

/-! ## Reference Selector -/

/-- FORCE-FAIL on an unforced slot that is not DISABLED sets the forced flag, fails the slot, raises FORCED and takes the
slot from selection; RELEASE of a forced slot sends it to CANDIDATE with its runs at zero, clears both conditions and the
lockout. Each is answered DONE with the state reached; a slot outside 0 to 5 is refused with NO_SUCH (R46 to R48, R50). -/
def Obligations.ForceFailAndReleaseActAtOnce : Prop :=
  (∀ (s : State) (tag slot : Byte) (k : SlotIx), s.part.Ready → indexOf 6 slot = some k →
    (s.part.slot k).state ≠ .disabled → (s.part.slot k).forced = false →
    ∃ t : State, exec (.forceFail tag slot) s = .next t ∧ t.pending = s.pending ∧
      t.part.mgmt = (s.part.answer 0x32#8 tag (.doneWith [slot, 3#8])).mgmt ∧
      (t.part.slot k).forced = true ∧ (t.part.slot k).state = .failed ∧ t.part.selected ≠ some k ∧
      hasCondition (t.part.alarm.standingOf (.slot k)) .forced = true ∧
      KeepsTables s.part t.part ∧ KeepsBase s.part t.part ∧ t.part.inputs = s.part.inputs ∧
      KeepsOtherSlots k s.part t.part) ∧
  (∀ (s : State) (tag slot : Byte) (k : SlotIx), s.part.Ready → indexOf 6 slot = some k →
    (s.part.slot k).forced = true →
    ∃ t : State, exec (.release tag slot) s = .next t ∧ t.pending = s.pending ∧
      t.part.mgmt = (s.part.answer 0x34#8 tag (.doneWith [slot, 1#8])).mgmt ∧
      t.part.slot k =
        { s.part.slot k with
          state := .candidate, forced := false, lockout := false, goodRun := 0, badRun := 0, outlierRun := 0 } ∧
      hasCondition (t.part.alarm.standingOf (.slot k)) .forced = false ∧
      hasCondition (t.part.alarm.standingOf (.slot k)) .failed = false ∧
      KeepsTables s.part t.part ∧ KeepsBase s.part t.part ∧ t.part.inputs = s.part.inputs ∧
      KeepsOtherSlots k s.part t.part) ∧
  ∀ (s : State) (tag slot : Byte), s.part.Ready → 6 ≤ slot.toNat →
    Completes (.forceFail tag slot) s (s.part.answer 0x32#8 tag { code := .noSuch }) ∧
      Completes (.release tag slot) s (s.part.answer 0x34#8 tag { code := .noSuch })

/-- LOCKOUT sets the lockout flag in any state and takes the slot from selection; PREFER writes the preferred slot, which
is selected from then on whenever it is eligible and the choice is revertive. Each is answered DONE (R49, R51, R58 to
R60). -/
def Obligations.LockoutAndPreferMoveTheSelection : Prop :=
  (∀ (s : State) (tag slot : Byte) (k : SlotIx), s.part.Ready → indexOf 6 slot = some k →
    (s.part.slot k).lockout = false →
    ∃ t : State, exec (.lockout tag slot) s = .next t ∧ t.pending = s.pending ∧
      t.part.mgmt = (s.part.answer 0x33#8 tag (.doneWith [slot, byte (s.part.slot k).state.code])).mgmt ∧
      t.part.slot k = { s.part.slot k with lockout := true } ∧ t.part.selected ≠ some k ∧
      KeepsTables s.part t.part ∧ KeepsBase s.part t.part ∧ t.part.inputs = s.part.inputs ∧
      KeepsOtherSlots k s.part t.part) ∧
  (∀ (s : State) (tag slot : Byte) (k : SlotIx), s.part.Ready → indexOf 6 slot = some k →
    s.part.hub.settings.preferred ≠ some k →
    ∃ t : State, exec (.prefer tag slot) s = .next t ∧ t.pending = s.pending ∧
      t.part.mgmt = (s.part.answer 0x35#8 tag { code := .done }).mgmt ∧
      t.part.hub.settings = { s.part.hub.settings with preferred := some k } ∧
      (s.part.hub.settings.revertive = true → s.part.eligible k = true → t.part.selected = some k) ∧
      KeepsTables s.part t.part ∧ KeepsBase s.part t.part ∧ t.part.inputs = s.part.inputs ∧
      t.part.slots = s.part.slots) ∧
  ∀ (s : State) (tag : Byte), s.part.Ready →
    ∃ t : State, exec (.prefer tag 0xFF#8) s = .next t ∧ t.part.hub.settings.preferred = none ∧
      t.part.mgmt = (s.part.answer 0x35#8 tag { code := .done }).mgmt

/-- BIND ties slot 4 or 5 to a live record by index and generation, writes the record's return binding and starts the slot
in CANDIDATE; UNBIND of a slot that is not selected undoes both and disables it; UNBIND of the selected slot is refused
with BOUND and changes nothing (R41, R54, R55). -/
def Obligations.BindAndUnbindKeepBothHalves : Prop :=
  (∀ (s : State) (tag slot index : Byte) (k : SlotIx) (i : RecordIx), s.part.Ready → indexOf 6 slot = some k →
    4 ≤ k.val → indexOf 48 index = some i → (s.part.record i).state ≠ .vacant → (s.part.record i).state ≠ .retiring →
    (s.part.slot k).binding = none → (s.part.record i).returnBinding = none →
    ∃ t : State, exec (.bind tag slot index) s = .next t ∧ t.pending = s.pending ∧
      t.part.mgmt = (s.part.answer 0x30#8 tag (.doneWith [slot, 1#8])).mgmt ∧
      t.part.slot k =
        { s.part.slot k with
          binding := some (i, (s.part.record i).generation), enabled := true, state := .candidate, forced := false
          goodRun := 0, badRun := 0, outlierRun := 0 } ∧
      t.part.record i = { s.part.record i with returnBinding := some k } ∧
      KeepsOtherRecords i s.part t.part ∧ KeepsOtherSlots k s.part t.part ∧ KeepsBase s.part t.part ∧
      t.part.ports = s.part.ports ∧ t.part.engines = s.part.engines ∧ t.part.pairs = s.part.pairs) ∧
  (∀ (s : State) (tag slot : Byte) (k : SlotIx) (i : RecordIx) (g : Generation), s.part.Ready →
    indexOf 6 slot = some k → 4 ≤ k.val → (s.part.slot k).binding = some (i, g) → s.part.selected ≠ some k →
    ∃ t : State, exec (.unbind tag slot) s = .next t ∧ t.pending = s.pending ∧
      t.part.mgmt = (s.part.answer 0x31#8 tag (.doneWith [slot, 0#8])).mgmt ∧
      t.part.slot k =
        { s.part.slot k with
          binding := none, enabled := false, state := .disabled, forced := false
          goodRun := 0, badRun := 0, outlierRun := 0 } ∧
      t.part.record i = { s.part.record i with returnBinding := none } ∧
      KeepsOtherRecords i s.part t.part ∧ KeepsOtherSlots k s.part t.part ∧ KeepsBase s.part t.part ∧
      t.part.ports = s.part.ports ∧ t.part.engines = s.part.engines ∧ t.part.pairs = s.part.pairs) ∧
  ∀ (s : State) (tag slot : Byte) (k : SlotIx), s.part.Ready → indexOf 6 slot = some k → 4 ≤ k.val →
    (s.part.slot k).binding ≠ none → s.part.selected = some k →
    Completes (.unbind tag slot) s (s.part.answer 0x31#8 tag { code := .bound })

/-! ## Discipline Unit -/

/-- A selection report writes the new slot, advances the cause number by one (from 255 to 1), raises SELECTION when the
hub's threshold lets it, and moves the hub state as the table of R68 says, with the grade of R87; every other block is as
it was, but for the Alarm Unit and the correction that waits in the Time Base (R68, R87, R88). -/
def Obligations.SelectionReportMovesTheHubState : Prop :=
  ∀ (p : Part) (new : Option SlotIx) (cause : SelectionCause),
    ∃ h : HubRecord, (selectionReport new cause p).hub = h ∧ h.selected = new ∧
      h.causeNumber = nextCause p.hub.causeNumber ∧ h.settings = p.hub.settings ∧ h.average = p.hub.average ∧
      (∀ k, new = some k → k ≠ lineSlot →
        h.state = .acquire ∧ h.inWindow = 0 ∧ h.bound = p.hub.bound ∧ h.correction = p.hub.correction ∧
        h.grade = (match p.hub.state with
          | .freeRun => .e
          | .acquire => p.hub.grade
          | _ => .c) ∧
        (p.hub.state = .holdover ∨ p.hub.state = .holdoverExpired →
          h.integrator = p.hub.correction ∧ h.prediction = none)) ∧
      (new = some lineSlot → p.hub.state ≠ .lockedFreq →
        h.state = .lockedFreq ∧ h.grade = .c ∧ h.wasLocked = true ∧ h.t = 0 ∧
        h.lineCount = some { uEntry := p.hub.bound, slope := (p.slot lineSlot).freqBound }) ∧
      (new = none → p.hub.state = .acquire → p.hub.wasLocked = false →
        h.state = .freeRun ∧ h.grade = .e ∧ h.bound = 65536000000000 ∧ h.correction = p.hub.integrator) ∧
      (new = none → p.hub.state = .bridging →
        h.prediction = p.hub.prediction ∧ h.t = p.hub.t ∧ h.bound = p.hub.bound) ∧
      (new = none → p.hub.state = .locked ∨ p.hub.state = .lockedFreq ∨ p.hub.state = .bridging ∨
          (p.hub.state = .acquire ∧ p.hub.wasLocked = true) →
        h.state = (if p.hub.settings.holdoverLimit * 65536 < p.hub.bound then .holdoverExpired else .holdover) ∧
        h.grade = (if p.hub.settings.holdoverLimit * 65536 < p.hub.bound then .d else .c)) ∧
      (p.alarm.settings.hubThreshold = some .note →
        ∃ e ∈ (selectionReport new cause p).alarm.list, e.owner = .hub ∧
          hasCondition e.raised .selection = true ∧ e.slot = some new ∧ e.detail = some (.selection cause)) ∧
      KeepsTables p (selectionReport new cause p) ∧ KeepsBase p (selectionReport new cause p) ∧
      (selectionReport new cause p).selected = p.selected ∧ (selectionReport new cause p).slots = p.slots ∧
      (selectionReport new cause p).inputs = p.inputs ∧ (selectionReport new cause p).mgmt = p.mgmt

/-- STEP-ALLOW grants the step permission in every hub state. In ACQUIRE a GOOD sample beyond the step threshold, with the
permission held, requests a step of e rounded to whole ns, sets y to F and U to Aref + |e|, zeroes the in-window run and
keeps the permission; the completion at the step-marked event consumes it, and ACQUIRE discards that event's take (R71,
R72, R79, R84). That the discarded take copies no scale offset is the model's reading (log entry 30). -/
def Obligations.StepsAreAskedForAndCompleted : Prop :=
  (∀ (s : State) (tag : Byte), s.part.Ready →
    Completes (.stepAllow tag) s
      ({ s.part with hub := { s.part.hub with stepPermission := true } }.answer 0x50#8 tag { code := .done })) ∧
  (∀ (p : Part) (e a : Int) (scale : Option Int), p.hub.state = .acquire → p.tb.stepMark = false →
    p.take = some { outcome := .good, value := some e, accuracy := some a, scale := scale } →
    p.hub.settings.stepThreshold * 65536 < magnitude e → p.hub.stepPermission = true →
    (hubSecondEvent p).tb = { p.tb with pendingStep := some (roundDiv e 65536), next := p.hub.integrator } ∧
      (hubSecondEvent p).hub =
        { p.hub with
          correction := p.hub.integrator, inWindow := 0, bound := min (a * 65536 + magnitude e) 65536000000000
          scaleOffset := (hubSecondEvent p).hub.scaleOffset }) ∧
  ∀ p : Part, p.hub.state = .acquire → p.tb.stepMark = true →
    (hubSecondEvent p).hub = { p.hub with stepPermission := false } ∧ (hubSecondEvent p).tb = p.tb ∧
      ∀ k, ((hubSecondEvent p).input k).last = (p.input k).last.map (fun x => { x with fresh := false })

/-- A GOOD sample taken in LOCKED limits e to ±1,000,000 ns, adds round(e / 2^I) to F and round(e / 2^P) to the new F for
y, both clamped to ±50,000 ppb, hands y over, sets U to Aref + |e|, and moves the learned average by 2^−W, with the gains
of the loop class; a take that is not GOOD starts BRIDGING with y = F and t = 0 (R73, R75, R80, R82, R84, R85). -/
def Obligations.LockedSampleSteersTheLoop : Prop :=
  (∀ (p : Part) (e a : Int) (scale : Option Int), p.hub.state = .locked → p.tb.stepMark = false →
    p.take = some { outcome := .good, value := some e, accuracy := some a, scale := scale } →
    ∃ f y : Int,
      f = max (-3276800000) (min 3276800000
        (p.hub.integrator + roundDiv (max (-65536000000) (min 65536000000 e))
          (2 ^ (match p.hub.settings.loopClass with | .fast => 8 | .normal => 12 | .slow => 16)))) ∧
      y = max (-3276800000) (min 3276800000
        (f + roundDiv (max (-65536000000) (min 65536000000 e))
          (2 ^ (match p.hub.settings.loopClass with | .fast => 3 | .normal => 5 | .slow => 7)))) ∧
      (hubSecondEvent p).hub.integrator = f ∧ (hubSecondEvent p).hub.correction = y ∧
      (hubSecondEvent p).tb = { p.tb with next := y } ∧
      (hubSecondEvent p).hub.bound = min (a * 65536 + magnitude e) 65536000000000 ∧
      (hubSecondEvent p).hub.average =
        (if p.hub.age = 0 then f else p.hub.average + roundDiv (f - p.hub.average) (2 ^ p.osc.shift.toNat)) ∧
      (hubSecondEvent p).hub.age = min (p.hub.age + 1) 65536 ∧
      (hubSecondEvent p).hub.causeNumber = p.hub.causeNumber ∧ (hubSecondEvent p).selected = p.selected) ∧
  ∀ p : Part, p.hub.state = .locked → p.tb.stepMark = false → p.selected ≠ none →
    (∀ x, p.take = some x → x.outcome ≠ .good) →
    (hubSecondEvent p).hub.state = .bridging ∧ (hubSecondEvent p).hub.bridgedFrom = .locked ∧
      (hubSecondEvent p).hub.grade = .c ∧ (hubSecondEvent p).hub.correction = p.hub.integrator ∧
      (hubSecondEvent p).tb = { p.tb with next := p.hub.integrator } ∧ (hubSecondEvent p).hub.t = 0 ∧
      (hubSecondEvent p).hub.bound = p.hub.bound ∧
      (hubSecondEvent p).hub.prediction =
        some
          { uEntry := p.hub.bound
            base := if p.hub.averageValid then p.hub.average else p.hub.integrator
            stability := if p.hub.averageValid then p.osc.stability else 2 * p.osc.stability
            aging := p.osc.aging, drift := p.osc.prediction } ∧
      (hubSecondEvent p).hub.causeNumber = nextCause p.hub.causeNumber ∧
      hasCondition (hubSecondEvent p).alarm.hubStanding .bridging = true

/-- In HOLDOVER each hub second event lengthens t by one, recomputes U and y by the prediction and hands y over; when U
exceeds H the hub expires, with grade D and a new cause number. A frequency filter update moves F by an eighth of r − F,
and y with it (R76, R77, R81, R85, R88). -/
def Obligations.HoldoverFollowsThePrediction : Prop :=
  (∀ (p : Part) (r : Prediction) (t : Nat), p.hub.state = .holdover → p.tb.stepMark = false →
    p.selected = none → p.hub.prediction = some r → p.hub.t = t →
    ∃ u y : Int,
      u = min (r.uEntry + r.stability * (t + 1 : Nat) + roundDiv (r.aging * (t + 1 : Nat) * (t + 2 : Nat)) 172800)
        65536000000000 ∧
      y = max (-3276800000) (min 3276800000 (r.base + roundDiv (r.drift * (t + 1 : Nat)) 86400)) ∧
      (hubSecondEvent p).tb = { p.tb with next := y } ∧
      (hubSecondEvent p).hub =
        { p.hub with
          t := t + 1, bound := u, correction := y
          state := if p.hub.settings.holdoverLimit * 65536 < u then .holdoverExpired else .holdover
          grade := if p.hub.settings.holdoverLimit * 65536 < u then .d else p.hub.grade
          causeNumber :=
            if p.hub.settings.holdoverLimit * 65536 < u then nextCause p.hub.causeNumber else p.hub.causeNumber } ∧
      (p.hub.settings.holdoverLimit * 65536 < u →
        hasCondition (hubSecondEvent p).alarm.hubStanding .holdoverExpired = true)) ∧
  ∀ (p : Part) (r f : Int),
    f = max (-3276800000) (min 3276800000 (p.hub.integrator + roundDiv (r - p.hub.integrator) 8)) →
    (filterUpdate r p).hub = { p.hub with integrator := f, correction := f } ∧
      (filterUpdate r p).tb = { p.tb with next := f }

/-- In LOCKED_FREQ a GOOD r moves F by an eighth of r − F, and y with it, moves the learned average by 2^−W, lengthens t
by one and sets U to U_entry + Sline·t; a take that is not GOOD starts BRIDGING. In BRIDGING each event lengthens t and
recomputes U by the prediction. A GOOD sample returns the hub to the state it bridged from and is handled there: in
LOCKED by the loop, with F, y, U and the average as there; in LOCKED_FREQ by a new count from the present U, with t then
1. A take that is not GOOD keeps BRIDGING, with y as it stands. In HOLDOVER_EXPIRED the prediction goes on, y is handed
over, and U is compared with H no more (R74, R75, R77, R81, R82, R84 to R86). -/
def Obligations.BridgingReturnsAndExpiryGoesOn : Prop :=
  (∀ (p : Part) (r : Int) (aref scale : Option Int) (c : LineCount) (f u : Int), p.hub.state = .lockedFreq →
    p.selected = some lineSlot →
    p.take = some { outcome := .good, value := some r, accuracy := aref, scale := scale } → p.hub.lineCount = some c →
    f = max (-3276800000) (min 3276800000 (p.hub.integrator + roundDiv (r - p.hub.integrator) 8)) →
    u = min (c.uEntry + c.slope * (p.hub.t + 1 : Nat)) 65536000000000 →
    (hubSecondEvent p).tb = { p.tb with next := f } ∧
      (hubSecondEvent p).hub =
        { p.hub with
          integrator := f, correction := f, t := p.hub.t + 1, bound := u, age := min (p.hub.age + 1) 65536
          average :=
            if p.hub.age = 0 then f else p.hub.average + roundDiv (f - p.hub.average) (2 ^ p.osc.shift.toNat)
          averageValid := p.hub.averageValid || decide (2 ^ p.osc.shift.toNat ≤ min (p.hub.age + 1) 65536)
          stepPermission := if p.tb.stepMark then false else p.hub.stepPermission }) ∧
  (∀ p : Part, p.hub.state = .lockedFreq → p.selected ≠ none → (∀ x, p.take = some x → x.outcome ≠ .good) →
    (hubSecondEvent p).hub.state = .bridging ∧ (hubSecondEvent p).hub.bridgedFrom = .lockedFreq ∧
      (hubSecondEvent p).hub.grade = .c ∧ (hubSecondEvent p).hub.correction = p.hub.integrator ∧
      (hubSecondEvent p).hub.integrator = p.hub.integrator ∧
      (hubSecondEvent p).tb = { p.tb with next := p.hub.integrator } ∧ (hubSecondEvent p).hub.t = 0 ∧
      (hubSecondEvent p).hub.bound = p.hub.bound ∧
      (hubSecondEvent p).hub.prediction =
        some
          { uEntry := p.hub.bound
            base := if p.hub.averageValid then p.hub.average else p.hub.integrator
            stability := if p.hub.averageValid then p.osc.stability else 2 * p.osc.stability
            aging := p.osc.aging, drift := p.osc.prediction } ∧
      (hubSecondEvent p).hub.causeNumber = nextCause p.hub.causeNumber ∧
      hasCondition (hubSecondEvent p).alarm.hubStanding .bridging = true) ∧
  (∀ (p : Part) (r : Prediction) (e a f y : Int) (scale : Option Int), p.hub.state = .bridging →
    p.hub.bridgedFrom = .locked → p.hub.prediction = some r →
    p.take = some { outcome := .good, value := some e, accuracy := some a, scale := scale } →
    f = max (-3276800000) (min 3276800000
      (p.hub.integrator + roundDiv (max (-65536000000) (min 65536000000 e))
        (2 ^ (match p.hub.settings.loopClass with | .fast => 8 | .normal => 12 | .slow => 16)))) →
    y = max (-3276800000) (min 3276800000
      (f + roundDiv (max (-65536000000) (min 65536000000 e))
        (2 ^ (match p.hub.settings.loopClass with | .fast => 3 | .normal => 5 | .slow => 7)))) →
    (hubSecondEvent p).tb = { p.tb with next := y } ∧
      (hubSecondEvent p).hub =
        { p.hub with
          state := .locked, grade := if p.hub.selected = some pktSlot then .b else .a, wasLocked := true
          prediction := none, integrator := f, correction := y, t := p.hub.t + 1
          bound := min (a * 65536 + magnitude e) 65536000000000, age := min (p.hub.age + 1) 65536
          average :=
            if p.hub.age = 0 then f else p.hub.average + roundDiv (f - p.hub.average) (2 ^ p.osc.shift.toNat)
          averageValid := p.hub.averageValid || decide (2 ^ p.osc.shift.toNat ≤ min (p.hub.age + 1) 65536)
          outOfWindow := if p.hub.settings.lockWindow * 65536 < magnitude e then 1 else 0, stepPermission := false
          scaleOffset := (hubSecondEvent p).hub.scaleOffset } ∧
      hasCondition (hubSecondEvent p).alarm.hubStanding .bridging = false) ∧
  (∀ (p : Part) (q : Prediction) (r : Int) (aref scale : Option Int) (f u : Int), p.hub.state = .bridging →
    p.hub.bridgedFrom = .lockedFreq → p.selected = some lineSlot → p.hub.prediction = some q →
    p.take = some { outcome := .good, value := some r, accuracy := aref, scale := scale } →
    f = max (-3276800000) (min 3276800000 (p.hub.integrator + roundDiv (r - p.hub.integrator) 8)) →
    u = min (q.uEntry + q.stability * (p.hub.t + 1 : Nat) +
      roundDiv (q.aging * (p.hub.t + 1 : Nat) * (p.hub.t + 2 : Nat)) 172800) 65536000000000 →
    (hubSecondEvent p).tb = { p.tb with next := f } ∧
      (hubSecondEvent p).hub =
        { p.hub with
          state := .lockedFreq, grade := .c, wasLocked := true, prediction := none, integrator := f, correction := f
          lineCount := some { uEntry := u, slope := (p.slot lineSlot).freqBound }, t := 1
          bound := min (u + (p.slot lineSlot).freqBound) 65536000000000, age := min (p.hub.age + 1) 65536
          average :=
            if p.hub.age = 0 then f else p.hub.average + roundDiv (f - p.hub.average) (2 ^ p.osc.shift.toNat)
          averageValid := p.hub.averageValid || decide (2 ^ p.osc.shift.toNat ≤ min (p.hub.age + 1) 65536)
          stepPermission := if p.tb.stepMark then false else p.hub.stepPermission } ∧
      hasCondition (hubSecondEvent p).alarm.hubStanding .bridging = false) ∧
  (∀ (p : Part) (r : Prediction) (u : Int), p.hub.state = .bridging → p.selected ≠ none →
    (∀ x, p.take = some x → x.outcome ≠ .good) → p.hub.prediction = some r →
    u = min (r.uEntry + r.stability * (p.hub.t + 1 : Nat) +
      roundDiv (r.aging * (p.hub.t + 1 : Nat) * (p.hub.t + 2 : Nat)) 172800) 65536000000000 →
    (hubSecondEvent p).tb = p.tb ∧
      (hubSecondEvent p).hub =
        { p.hub with
          t := p.hub.t + 1, bound := u
          stepPermission := if p.tb.stepMark then false else p.hub.stepPermission }) ∧
  ∀ (p : Part) (r : Prediction) (u y : Int), p.hub.state = .holdoverExpired → p.selected = none →
    p.hub.prediction = some r →
    u = min (r.uEntry + r.stability * (p.hub.t + 1 : Nat) +
      roundDiv (r.aging * (p.hub.t + 1 : Nat) * (p.hub.t + 2 : Nat)) 172800) 65536000000000 →
    y = max (-3276800000) (min 3276800000 (r.base + roundDiv (r.drift * (p.hub.t + 1 : Nat)) 86400)) →
    (hubSecondEvent p).tb = { p.tb with next := y } ∧
      (hubSecondEvent p).hub =
        { p.hub with
          t := p.hub.t + 1, bound := u, correction := y
          stepPermission := if p.tb.stepMark then false else p.hub.stepPermission }

/-- LOCK_ENTRY is the boundary at which the sixteenth in-window sample locks the hub, and OUT_OF_WINDOW_REACQUIRE the one
at which the 64th sample outside the window sends it back to ACQUIRE, with grade C and no permission granted. The premises
are on the part as it stands before the Discipline Unit's work at the boundary (R73, R79, R87; log entry 3). -/
def Obligations.LockIsEnteredAndLeftByTheWindowRuns : Prop :=
  (∀ (s : State) (b : BoundaryArgs) (q : Part) (e a : Int) (scale : Option Int), s.part.held = false →
    s.part.NoSlotOpen → s.part.NoneRetires → q = beforeWork b .discipline s.part →
    q.hub.state = .acquire → q.tb.stepMark = false →
    q.take = some { outcome := .good, value := some e, accuracy := some a, scale := scale } →
    magnitude e ≤ q.hub.settings.stepThreshold * 65536 → magnitude e ≤ q.hub.settings.lockWindow * 65536 →
    16 ≤ q.hub.inWindow + 1 →
    ∃ t : State, exec (.lockEntry b) s = .next t ∧ exec (.hubSecondBoundary b) s = .next t ∧
      t.pending = s.pending ∧ t.part.hub = (hubSecondEvent q).hub ∧ t.part.hub.state = .locked ∧
      t.part.hub.wasLocked = true ∧ t.part.hub.outOfWindow = 0 ∧ t.part.hub.stepPermission = false ∧
      t.part.hub.grade = (if q.hub.selected = some pktSlot then .b else .a)) ∧
  ∀ (s : State) (b : BoundaryArgs) (q : Part) (e a : Int) (scale : Option Int), s.part.held = false →
    s.part.NoSlotOpen → s.part.NoneRetires → q = beforeWork b .discipline s.part →
    q.hub.state = .locked → q.tb.stepMark = false →
    q.take = some { outcome := .good, value := some e, accuracy := some a, scale := scale } →
    q.hub.settings.lockWindow * 65536 < magnitude e → 64 ≤ q.hub.outOfWindow + 1 →
    ∃ t : State, exec (.outOfWindowReacquire b) s = .next t ∧ exec (.hubSecondBoundary b) s = .next t ∧
      t.pending = s.pending ∧ t.part.hub = (hubSecondEvent q).hub ∧ t.part.hub.state = .acquire ∧
      t.part.hub.grade = .c ∧ t.part.hub.inWindow = 0 ∧ t.part.hub.stepPermission = q.hub.stepPermission

/-! ## Requests on the tables -/

/-- LOOK on an entry that exists is answered DONE with the items of its table, one for each field and each derived item,
and changes nothing but the reply: a VACANT record shows its state, generation and held flag alone, and any other record
all its fields with the staged values where there are any; a slot the fields of its kind, its last sample and the
selected flag; a port its ten fields, whether it is bound and its free addresses; a pair its line states and its sets of
records; the hub record with the prediction and line records where present, and U in whole ns rounded up; the alarm
settings the standing sets, the owners of the list and of the buffer. LOOK outside a table of several entries is refused
with NO_SUCH (R40, R66, R95, R119, R155, R182). The number, order, identifiers and widths of the items are the model's
reading of R199 (log entries 11 and 12). -/
def Obligations.LooksAnswerAndChangeNothing : Prop :=
  (∀ (s : State) (tag index : Byte) (i : RecordIx) (r : ServiceRecord), s.part.Ready → indexOf 48 index = some i →
    r = s.part.record i →
    (r.state = .vacant →
      Completes (.lookServiceRecord tag index) s
        (s.part.answer 0x10#8 tag
          { code := .done
            body := [32#8, 1#8, 0#8, 33#8, 1#8, byte r.generation.val, 96#8, 1#8,
              byte (flagCode (s.part.recordHeld i))] })) ∧
    (r.state ≠ .vacant →
      Completes (.lookServiceRecord tag index) s
        (s.part.answer 0x10#8 tag
          { code := .done
            body :=
              item1 32 r.state.code ++ item1 33 r.generation.val ++ item1 34 r.homePort.val ++
                item1 35 r.currentPort.val ++ item1 36 r.address.val ++
                item 1 (match r.identity with
                  | none => []
                  | some x => bytesOf 6 x.toNat) ++
                item4 2 r.budget ++ item4 3 r.asymmetry ++ item4 4 r.share ++
                (match r.stagedShare with
                  | none => []
                  | some v => item4 132 v) ++
                item4 5 r.staticOffset ++
                (match r.stagedOffset with
                  | none => []
                  | some v => item4 133 v) ++
                item4 6 r.protectOffset ++ itemFlag 7 r.eligible ++ item4 8 r.silentLimit ++ item4 37 r.silentCount ++
                item4 9 r.autoRetire ++ item4 38 r.silentSeconds ++ itemFlag 10 r.statistics ++ item8? 39 r.filter ++
                item4 40 r.outlierRun ++ item8 41 r.compensation ++ item4 42 r.window.count ++
                item8? 43 r.window.minRtd ++ item8? 44 r.window.maxRtd ++ item4 45 r.window.good ++
                item4 46 r.window.missed ++ item8? 47 r.halfSpread ++ itemFlag 48 r.stale ++ item8? 49 r.te ++
                item1 50 r.teState.code ++ item8? 51 r.prevLink ++
                item 52 (bytesOf 2 (s.part.alarm.standingOf (.record i)).toNat) ++
                item1 53 (match r.returnBinding with
                  | none => 255
                  | some k => k.val) ++
                itemFlag 54 r.resetRequest ++
                item 55 (match r.lastPort with
                  | none => []
                  | some q => [byte q.val]) ++
                itemFlag 56 r.blocked ++ item4 57 r.dismissAttempts }))) ∧
  (∀ (s : State) (tag index : Byte) (k : SlotIx) (r : SlotRecord), s.part.Ready → indexOf 6 index = some k →
    r = s.part.slot k →
    Completes (.lookReferenceSlot tag index) s
      (s.part.answer 0x10#8 tag
        { code := .done
          body :=
            item1 32 r.state.code ++ itemFlag 1 r.enabled ++ item4 2 r.priority ++ item4 3 r.wtr ++
              item4 4 r.holdOff ++ item4 5 r.jumpLimit ++
              (if k.val = 0 ∨ k.val = 1 then item4 6 r.acceptLimit ++ item4 7 r.cableDelay else []) ++
              item4 8 r.allowance ++ (if k.val = 3 then item8 9 r.freqBound else []) ++ item4 33 r.goodRun ++
              item4 34 r.badRun ++ item4 35 r.outlierRun ++ itemFlag 36 r.forced ++ itemFlag 37 r.lockout ++
              (if k.val = 4 ∨ k.val = 5 then
                item 38 (match r.binding with
                  | none => []
                  | some (i, g) => [byte i.val, byte g.val])
              else []) ++
              item 96 (match (s.part.input k).last with
                | none => []
                | some x =>
                  [byte x.outcome.code] ++ reportedBytes 8 (x.value.getD 0) ++ reportedUnsigned 4 (x.accuracy.getD 0) ++
                    signedBytesOf 2 (x.scale.getD 0) ++ bytesOf 6 x.second ++ [byte (flagCode x.fresh)] ++
                    [byte ((if x.value.isSome then 1 else 0) + (if x.accuracy.isSome then 2 else 0) +
                      (if x.scale.isSome then 4 else 0))]) ++
              itemFlag 97 (decide (s.part.selected = some k)) })) ∧
  (∀ (s : State) (tag index : Byte) (q : PortIx), s.part.Ready → indexOf 12 index = some q →
    Completes (.lookPort tag index) s
      (s.part.answer 0x10#8 tag
        { code := .done
          body :=
            itemFlag 1 (s.part.port q).enabled ++ item1 32 (s.part.port q).state.code ++
              item1 2 (s.part.port q).mode.code ++ item4 3 (s.part.port q).defaultBudget ++
              item1 33 (s.part.port q).line.code ++ item4 34 (s.part.port q).failRun ++
              item4 35 (s.part.port q).cleanRun ++ item4 36 (s.part.port q).idleCount ++
              item4 37 (s.part.port q).wakeWindow ++ item1 38 (s.part.port q).lastError.code ++
              itemFlag 96 (s.part.portBound q) ++ item 97 [addressSetByte (s.part.freeAddresses q)] })) ∧
  (∀ (s : State) (tag index : Byte) (k : PairIx) (moved stuck : BitVec 48), s.part.Ready → indexOf 6 index = some k →
    (∀ i : RecordIx, moved.getLsbD i.val = true ↔
      (s.part.record i).state ≠ .vacant ∧ (s.part.record i).homePort.val = 2 * k.val ∧
        (s.part.record i).currentPort.val = 2 * k.val + 1) →
    (∀ i : RecordIx, stuck.getLsbD i.val = true ↔
      (s.part.record i).state ≠ .vacant ∧ (s.part.record i).homePort.val = 2 * k.val ∧
        (s.part.record i).blocked = true) →
    Completes (.lookPair tag index) s
      (s.part.answer 0x10#8 tag
        { code := .done
          body :=
            itemFlag 1 (s.part.pair k).revertive ++ item4 2 (s.part.pair k).wtr ++
              item1 32 (s.part.pair k).state.code ++ item4 33 (s.part.pair k).waitCount ++ item1 96 (2 * k.val) ++
              item1 97 (2 * k.val + 1) ++
              item 98 [byte (s.part.port (workingPort k)).line.code, byte (s.part.port (protectPort k)).line.code] ++
              item 99 (bytesOf 6 moved.toNat) ++ item 100 (bytesOf 6 stuck.toNat) })) ∧
  (∀ (s : State) (tag index : Byte) (h : HubRecord), s.part.Ready → h = s.part.hub →
    Completes (.lookHubRecord tag index) s
      (s.part.answer 0x10#8 tag
        { code := .done
          body :=
            item1 32 h.state.code ++ item1 33 (codeOrNone h.selected) ++ item1 34 h.grade.code ++
              item8 35 h.integrator ++ item8 36 h.correction ++ item8 37 h.average ++ item4 38 h.age ++
              itemFlag 39 h.averageValid ++ itemFlag 40 h.wasLocked ++ itemFlag 41 h.stepPermission ++
              item8 42 h.bound ++ item4 43 h.t ++
              item 44 (match h.prediction with
                | none => []
                | some r => reportedBytes 8 r.uEntry ++ reportedBytes 8 r.base ++ reportedBytes 8 r.stability ++
                    reportedBytes 8 r.aging ++ reportedBytes 8 r.drift) ++
              item 45 (match h.lineCount with
                | none => []
                | some r => reportedBytes 8 r.uEntry ++ reportedBytes 8 r.slope) ++
              item1 46 (match h.bridgedFrom with
                | .locked => 2
                | .lockedFreq => 3) ++
              item4 47 h.inWindow ++ item4 48 h.outOfWindow ++ item1 49 h.causeNumber ++
              item 50 (signedBytesOf 2 h.scaleOffset) ++
              item 51 (match h.lastRefused with
                | none => []
                | some x => bytesOf 6 x.toNat) ++
              item1 1 h.settings.loopClass.code ++ item4 2 h.settings.lockWindow ++ item4 3 h.settings.stepThreshold ++
              item4 4 h.settings.holdoverLimit ++ itemFlag 5 h.settings.revertive ++
              item1 6 (codeOrNone h.settings.preferred) ++ item4 96 (-((-h.bound) / 65536)) })) ∧
  (∀ (s : State) (tag index : Byte) (a : AlarmUnit), s.part.Ready → a = s.part.alarm →
    Completes (.lookAlarmSettings tag index) s
      (s.part.answer 0x10#8 tag
        { code := .done
          body :=
            item1 1 (thresholdCode a.settings.recordThreshold) ++ item1 2 (thresholdCode a.settings.slotThreshold) ++
              item1 3 (thresholdCode a.settings.hubThreshold) ++ itemFlag 4 a.settings.coalescing ++
              item1 5 a.settings.almMode.code ++ item1 6 a.settings.almPolarity.code ++
              item1 7 a.settings.mgtMode.code ++ item1 8 a.settings.mgtPolarity.code ++ item4 9 a.settings.pulseWidth ++
              item 96 (bytesOf 2 (a.standingOf (.slot 0)).toNat) ++ item 97 (bytesOf 2 (a.standingOf (.slot 1)).toNat) ++
              item 98 (bytesOf 2 (a.standingOf (.slot 2)).toNat) ++ item 99 (bytesOf 2 (a.standingOf (.slot 3)).toNat) ++
              item 100 (bytesOf 2 (a.standingOf (.slot 4)).toNat) ++
              item 101 (bytesOf 2 (a.standingOf (.slot 5)).toNat) ++ item 102 (bytesOf 2 a.hubStanding.toNat) ++
              item 103 (a.list.map (fun e => byte e.owner.number)) ++ itemFlag 104 a.buffer.isSome ++
              item1 105 (match a.buffer with
                | none => 255
                | some n => n.entry.owner.number) })) ∧
  ∀ (s : State) (tag index : Byte), s.part.Ready →
    (48 ≤ index.toNat → Completes (.lookServiceRecord tag index) s (s.part.answer 0x10#8 tag { code := .noSuch })) ∧
      (6 ≤ index.toNat → Completes (.lookReferenceSlot tag index) s (s.part.answer 0x10#8 tag { code := .noSuch })) ∧
      (12 ≤ index.toNat → Completes (.lookPort tag index) s (s.part.answer 0x10#8 tag { code := .noSuch })) ∧
      (6 ≤ index.toNat → Completes (.lookPair tag index) s (s.part.answer 0x10#8 tag { code := .noSuch }))

/-- FIND answers DONE with the one non-VACANT record that has the port as home or current port and holds the address, or
that holds the identity, and NO_SUCH when there is none; it changes nothing. The premise that at most one record matches
is what the laws of R94 give (R94, R96). -/
def Obligations.FindNamesTheMatchingRecord : Prop :=
  ∀ (s : State) (tag : Byte), s.part.Ready → RecordLaws s.part →
    (∀ (port address : Byte) (q : PortIx) (a : Address), indexOf 12 port = some q → indexOf 4 address = some a →
      (∀ i : RecordIx, (s.part.record i).state ≠ .vacant → (s.part.record i).address = a →
        ((s.part.record i).homePort = q ∨ (s.part.record i).currentPort = q) →
        Completes (.findByPortAddress tag port address) s
          (s.part.answer 0x20#8 tag
            { code := .done
              body := [byte i.val, byte (s.part.record i).generation.val, byte (s.part.record i).state.code,
                byte ((if (s.part.record i).homePort = q then 1 else 0) +
                  (if (s.part.record i).currentPort = q then 2 else 0)),
                byte (s.part.record i).currentPort.val] })) ∧
      ((∀ i : RecordIx, (s.part.record i).state ≠ .vacant → (s.part.record i).address = a →
          (s.part.record i).homePort ≠ q ∧ (s.part.record i).currentPort ≠ q) →
        Completes (.findByPortAddress tag port address) s (s.part.answer 0x20#8 tag { code := .noSuch }))) ∧
    ∀ x : Identity,
      (∀ i : RecordIx, (s.part.record i).state ≠ .vacant → (s.part.record i).identity = some x →
        Completes (.findByIdentity tag x) s
          (s.part.answer 0x20#8 tag
            { code := .done
              body := [byte i.val, byte (s.part.record i).generation.val, byte (s.part.record i).state.code, 0#8,
                byte (s.part.record i).currentPort.val] })) ∧
      ((∀ i : RecordIx, (s.part.record i).state ≠ .vacant → (s.part.record i).identity ≠ some x) →
        Completes (.findByIdentity tag x) s (s.part.answer 0x20#8 tag { code := .noSuch }))

/-- A SET writes every field that its items name, each number clamped to its range, and leaves the others; the reply is
DONE, flagged clamped when a number was outside its range and staged when the share or the static offset was named. On
table 0 the share and the static offset are staged, an identity is written to a RESERVED record alone, and a write of
the statistics flag restarts or stops the window. On table 1 the enabled field moves the slot into or out of DISABLED.
On table 2 the enabled field is taken here at the value that the port holds. On table 3 a change of the revertive
setting moves a pair that waits or has switched. On table 4 a preferred slot outside none and 0 to 5 is refused with
NO_SUCH. On table 6 a pulse width is held as the largest of 1, 2, 4 and 8 not above it, and a change of mode or polarity
ends the pulses of its line. Items that the table does not take are refused with BAD_REQUEST and write nothing; so are
the refusals of VACANT, STATE, CONFLICT and NO_SUCH (R15, R41, R52, R65, R98 to R100, R120, R150, R156, R183, R198).
That tables 4 to 6 ignore the index, what a stopped or started input keeps, and what the reply to a SET that ends a
pulse meets on the MGT line, are the model's choice (log entries 23, 26, 36 and 37). -/
def Obligations.SetsWriteEveryNamedField : Prop :=
  ∀ (s : State) (tag index : Byte) (items : List RawItem), s.part.Ready → items ≠ [] → itemsFit 251 items = true →
    -- table 0
    ((recordAdmits items = false →
        Completes (.setServiceRecord tag index items) s (s.part.answer 0x11#8 tag { code := .badRequest })) ∧
      (recordAdmits items = true → 48 ≤ index.toNat →
        Completes (.setServiceRecord tag index items) s (s.part.answer 0x11#8 tag { code := .noSuch })) ∧
      ∀ (i : RecordIx) (r : ServiceRecord), indexOf 48 index = some i → r = s.part.record i →
        recordAdmits items = true →
        (r.state = .vacant →
          Completes (.setServiceRecord tag index items) s (s.part.answer 0x11#8 tag { code := .vacant })) ∧
        (r.state = .retiring ∨ (r.state ≠ .vacant ∧ r.state ≠ .reserved ∧ named items 1 = true) →
          Completes (.setServiceRecord tag index items) s (s.part.answer 0x11#8 tag { code := .state })) ∧
        (∀ (x : List Byte) (j : RecordIx), r.state = .reserved → valueOf items 1 = some x → x ≠ [] → j ≠ i →
          (s.part.record j).state ≠ .vacant → (s.part.record j).identity = some (BitVec.ofNat 48 (numberOf x)) →
          Completes (.setServiceRecord tag index items) s (s.part.answer 0x11#8 tag { code := .conflict })) ∧
        (r.state ≠ .vacant → r.state ≠ .retiring → (named items 1 = true → r.state = .reserved) →
          (∀ (x : List Byte) (j : RecordIx), valueOf items 1 = some x → x ≠ [] → j ≠ i →
            (s.part.record j).state ≠ .vacant → (s.part.record j).identity ≠ some (BitVec.ofNat 48 (numberOf x))) →
          Completes (.setServiceRecord tag index items) s
            ((s.part.setRecord i
              { r with
                identity := heldIdentity items r.identity
                budget := heldNumber recordRanges items 2 r.budget
                asymmetry := heldNumber recordRanges items 3 r.asymmetry
                stagedShare :=
                  if named items 4 then some (heldNumber recordRanges items 4 0) else r.stagedShare
                stagedOffset :=
                  if named items 5 then some (heldNumber recordRanges items 5 0) else r.stagedOffset
                protectOffset := heldNumber recordRanges items 6 r.protectOffset
                eligible := heldFlag items 7 r.eligible
                silentLimit := heldNumber recordRanges items 8 r.silentLimit
                autoRetire := heldNumber recordRanges items 9 r.autoRetire
                statistics := heldFlag items 10 r.statistics
                window := if named items 10 then {} else r.window
                stale := if valueOf items 10 = some [0] then r.stale || r.halfSpread.isSome else r.stale }).answer
              0x11#8 tag
              { code := .done, clamped := clampsAny recordRanges items, staged := named items 4 || named items 5 }))) ∧
    -- table 1
    ((6 ≤ index.toNat →
        Completes (.setReferenceSlot tag index items) s (s.part.answer 0x11#8 tag { code := .noSuch })) ∧
      ∀ (k : SlotIx) (r w : SlotRecord), indexOf 6 index = some k → r = s.part.slot k →
        w = { r with
          priority := heldNumber (slotRanges k) items 2 r.priority, wtr := heldNumber (slotRanges k) items 3 r.wtr
          holdOff := heldNumber (slotRanges k) items 4 r.holdOff
          jumpLimit := heldNumber (slotRanges k) items 5 r.jumpLimit
          acceptLimit := heldNumber (slotRanges k) items 6 r.acceptLimit
          cableDelay := heldNumber (slotRanges k) items 7 r.cableDelay
          allowance := heldNumber (slotRanges k) items 8 r.allowance
          freqBound := heldNumber (slotRanges k) items 9 r.freqBound } →
        (slotAdmits k items = false →
          Completes (.setReferenceSlot tag index items) s (s.part.answer 0x11#8 tag { code := .badRequest })) ∧
        (slotAdmits k items = true → w.priority = r.priority →
          (valueOf items 1 = none ∨ (valueOf items 1 = some [1] ∧ r.state ≠ .disabled) ∨
            (valueOf items 1 = some [0] ∧ r.state = .disabled)) →
          Completes (.setReferenceSlot tag index items) s
            ((s.part.setSlot k w).answer 0x11#8 tag
              { code := .done, clamped := clampsAny (slotRanges k) items })) ∧
        (slotAdmits k items = true →
          ∃ t : State, exec (.setReferenceSlot tag index items) s = .next t ∧ t.pending = s.pending ∧
            t.part.mgmt =
              (s.part.answer 0x11#8 tag { code := .done, clamped := clampsAny (slotRanges k) items }).mgmt ∧
            KeepsTables s.part t.part ∧ KeepsBase s.part t.part ∧ KeepsOtherSlots k s.part t.part ∧
            (valueOf items 1 = some [0] → r.state ≠ .disabled →
              t.part.slot k =
                { w with
                  state := .disabled, enabled := false, goodRun := 0, badRun := 0, outlierRun := 0, forced := false } ∧
              t.part.input k =
                { last := (s.part.input k).last.map (fun x => { x with fresh := false })
                  completed := (s.part.input k).completed, discardMessages := (s.part.input k).discardMessages } ∧
              t.part.selected ≠ some k ∧ t.part.alarm.standingOf (.slot k) &&& 0x0003#16 = 0#16) ∧
            (valueOf items 1 = some [1] → r.state = .disabled →
              t.part.slot k =
                { w with
                  state := .candidate, enabled := true, goodRun := 0, badRun := 0, outlierRun := 0, forced := false } ∧
              t.part.input k =
                { last := (s.part.input k).last, completed := (s.part.input k).completed
                  discardMessages := (s.part.input k).discardMessages }) ∧
            (named items 1 = false → t.part.slot k = w ∧ t.part.inputs = s.part.inputs))) ∧
    -- table 2
    ((portAdmits items = false →
        Completes (.setPort tag index items) s (s.part.answer 0x11#8 tag { code := .badRequest })) ∧
      (portAdmits items = true → 12 ≤ index.toNat →
        Completes (.setPort tag index items) s (s.part.answer 0x11#8 tag { code := .noSuch })) ∧
      ∀ q : PortIx, indexOf 12 index = some q → portAdmits items = true →
        (valueOf items 1 = none ∨ (valueOf items 1 = some [1] ∧ (s.part.port q).state ≠ .disabled) ∨
          (valueOf items 1 = some [0] ∧ (s.part.port q).state = .disabled)) →
        Completes (.setPort tag index items) s
          ((s.part.setPort q
            { s.part.port q with
              mode := heldCode items 2 (fun c => if c = 0 then .closed else .open) (s.part.port q).mode
              defaultBudget := heldNumber portRanges items 3 (s.part.port q).defaultBudget }).answer 0x11#8 tag
            { code := .done, clamped := clampsAny portRanges items })) ∧
    -- table 3
    ((pairAdmits items = false →
        Completes (.setPair tag index items) s (s.part.answer 0x11#8 tag { code := .badRequest })) ∧
      (pairAdmits items = true → 6 ≤ index.toNat →
        Completes (.setPair tag index items) s (s.part.answer 0x11#8 tag { code := .noSuch })) ∧
      ∀ (k : PairIx) (r w : PairRecord), indexOf 6 index = some k → r = s.part.pair k → pairAdmits items = true →
        w = { r with revertive := heldFlag items 1 r.revertive, wtr := heldNumber pairRanges items 2 r.wtr } →
        ((w.revertive = r.revertive ∨ r.state = .normal ∨ r.state = .switchedManual ∨
            (r.state = .restoreWait ∧ w.revertive = true) ∨
            (r.state = .switchedAuto ∧ (w.revertive = false ∨ (s.part.port (workingPort k)).line = .fault))) →
          Completes (.setPair tag index items) s
            ((s.part.setPair k w).answer 0x11#8 tag
              { code := .done, clamped := clampsAny pairRanges items })) ∧
        (r.state = .restoreWait → r.revertive = true → w.revertive = false →
          Completes (.setPair tag index items) s
            ((s.part.setPair k { w with state := .switchedAuto, waitCount := 0 }).answer 0x11#8 tag
              { code := .done, clamped := clampsAny pairRanges items })) ∧
        (r.state = .switchedAuto → r.revertive = false → w.revertive = true →
          (s.part.port (workingPort k)).line = .clean →
          ∃ t : State, exec (.setPair tag index items) s = .next t ∧ t.pending = s.pending ∧
            t.part.mgmt =
              (s.part.answer 0x11#8 tag { code := .done, clamped := clampsAny pairRanges items }).mgmt ∧
            (∀ j, j ≠ k → t.part.pair j = s.part.pair j) ∧ KeepsBase s.part t.part ∧
            t.part.ports = s.part.ports ∧ t.part.engines = s.part.engines ∧ t.part.slots = s.part.slots ∧
            (0 < w.wtr →
              t.part.pair k = { w with state := .restoreWait, waitCount := 0 } ∧
              ∀ i, t.part.record i =
                { s.part.record i with
                  blocked :=
                    if pairOf (s.part.record i).homePort = k then false else (s.part.record i).blocked }) ∧
            (w.wtr ≤ 0 →
              t.part.pair k = { w with state := .normal, waitCount := 0 } ∧
                ∀ i, (t.part.record i).switched k = false))) ∧
    -- table 4
    ((hubAdmits items = false →
        Completes (.setHubRecord tag index items) s (s.part.answer 0x11#8 tag { code := .badRequest })) ∧
      (∀ c : Byte, hubAdmits items = true → valueOf items 6 = some [c] → 6 ≤ c.toNat → c ≠ 0xFF#8 →
        Completes (.setHubRecord tag index items) s (s.part.answer 0x11#8 tag { code := .noSuch })) ∧
      ∀ w : HubSettings, hubAdmits items = true →
        (∀ c : Byte, valueOf items 6 = some [c] → c.toNat < 6 ∨ c = 0xFF#8) →
        w =
          { loopClass :=
              heldCode items 1 (fun c => if c = 0 then .fast else if c = 1 then .normal else .slow)
                s.part.hub.settings.loopClass
            lockWindow := heldNumber hubRanges items 2 s.part.hub.settings.lockWindow
            stepThreshold := heldNumber hubRanges items 3 s.part.hub.settings.stepThreshold
            holdoverLimit := heldNumber hubRanges items 4 s.part.hub.settings.holdoverLimit
            revertive := heldFlag items 5 s.part.hub.settings.revertive
            preferred := heldCode items 6 (fun c => indexOf 6 c) s.part.hub.settings.preferred } →
        (w.preferred = s.part.hub.settings.preferred → w.revertive = s.part.hub.settings.revertive →
          Completes (.setHubRecord tag index items) s
            ({ s.part with hub := { s.part.hub with settings := w } }.answer 0x11#8 tag
              { code := .done, clamped := clampsAny hubRanges items })) ∧
        ∃ t : State, exec (.setHubRecord tag index items) s = .next t ∧ t.pending = s.pending ∧
          t.part.mgmt = (s.part.answer 0x11#8 tag { code := .done, clamped := clampsAny hubRanges items }).mgmt ∧
          t.part.hub.settings = w ∧ KeepsTables s.part t.part ∧ KeepsBase s.part t.part ∧
          t.part.inputs = s.part.inputs ∧ t.part.slots = s.part.slots) ∧
    -- table 5
    ((oscillatorAdmits items = false →
        Completes (.setOscillatorRecord tag index items) s (s.part.answer 0x11#8 tag { code := .badRequest })) ∧
      (oscillatorAdmits items = true → s.part.osc.locked = false →
        Completes (.setOscillatorRecord tag index items) s
          ({ s.part with
              osc := { s.part.osc with
                stability := heldNumber oscillatorRanges items 1 s.part.osc.stability
                aging := heldNumber oscillatorRanges items 2 s.part.osc.aging
                prediction := heldNumber oscillatorRanges items 3 s.part.osc.prediction
                shift := heldNumber oscillatorRanges items 4 s.part.osc.shift
                restart := heldNumber oscillatorRanges items 5 s.part.osc.restart } }.answer 0x11#8 tag
            { code := .done, clamped := clampsAny oscillatorRanges items }))) ∧
    -- table 6
    ((alarmAdmits items = false →
        Completes (.setAlarmSettings tag index items) s (s.part.answer 0x11#8 tag { code := .badRequest })) ∧
      ∀ a w : AlarmSettings, alarmAdmits items = true → a = s.part.alarm.settings →
        w =
          { recordThreshold := heldCode items 1 thresholdNamed a.recordThreshold
            slotThreshold := heldCode items 2 thresholdNamed a.slotThreshold
            hubThreshold := heldCode items 3 thresholdNamed a.hubThreshold
            coalescing := heldFlag items 4 a.coalescing
            almMode := heldCode items 5 (fun c => if c = 0 then .level else .pulse) a.almMode
            almPolarity := heldCode items 6 (fun c => if c = 0 then .activeHigh else .activeLow) a.almPolarity
            mgtMode := heldCode items 7 (fun c => if c = 0 then .level else .pulse) a.mgtMode
            mgtPolarity := heldCode items 8 (fun c => if c = 0 then .activeHigh else .activeLow) a.mgtPolarity
            pulseWidth :=
              match valueOf items 9 with
              | none => a.pulseWidth
              | some v =>
                if signedNumberOf v < 2 then 1 else if signedNumberOf v < 4 then 2
                else if signedNumberOf v < 8 then 4 else 8 } →
        Completes (.setAlarmSettings tag index items) s
          ({ s.part with
              alarm := { s.part.alarm with
                settings := w
                alm :=
                  if w.almMode = a.almMode ∧ w.almPolarity = a.almPolarity then s.part.alarm.alm
                  else lineChanged s.part.alarm.alm }
              mgmt := { s.part.mgmt with
                mgt :=
                  if w.mgtMode = a.mgtMode ∧ w.mgtPolarity = a.mgtPolarity then s.part.mgmt.mgt
                  else lineChanged s.part.mgmt.mgt } }.answer 0x11#8 tag
            { code := .done
              clamped := (valueOf items 9).any (fun v => decide (signedNumberOf v ∉ [1, 2, 4, 8])) }))

/-! ## Record Table -/

/-- CREATE takes the lowest VACANT record that is not held, lengthens its generation, and makes it RESERVED with the
defaults and with the values that its items name, the share and the static offset live at once; a PARKED port starts
running. Items that table 0 does not take, or an address above 3, are refused with BAD_REQUEST, a port above 11 with
NO_SUCH, an address that is not free or an identity that a live record holds with CONFLICT, and a table with no usable
record with FULL (R91 to R94, R97, R134). -/
def Obligations.CreateReservesTheLowestUsableRecord : Prop :=
  ∀ (s : State) (tag port address : Byte) (items : List RawItem), s.part.Ready → itemsFit 251 items = true →
    (recordAdmits items = false ∨ 4 ≤ address.toNat →
      Completes (.create tag port address items) s (s.part.answer 0x21#8 tag { code := .badRequest })) ∧
    (recordAdmits items = true → address.toNat < 4 → 12 ≤ port.toNat →
      Completes (.create tag port address items) s (s.part.answer 0x21#8 tag { code := .noSuch })) ∧
    ∀ (q : PortIx) (a : Address), indexOf 12 port = some q → indexOf 4 address = some a → recordAdmits items = true →
      (s.part.addressFree q a = false →
        Completes (.create tag port address items) s (s.part.answer 0x21#8 tag { code := .conflict })) ∧
      (∀ (x : List Byte) (j : RecordIx), valueOf items 1 = some x → x ≠ [] → (s.part.record j).state ≠ .vacant →
        (s.part.record j).identity = some (BitVec.ofNat 48 (numberOf x)) →
        Completes (.create tag port address items) s (s.part.answer 0x21#8 tag { code := .conflict })) ∧
      (s.part.addressFree q a = true →
        (∀ (x : List Byte) (j : RecordIx), valueOf items 1 = some x → x ≠ [] → (s.part.record j).state ≠ .vacant →
          (s.part.record j).identity ≠ some (BitVec.ofNat 48 (numberOf x))) →
        (∀ i : RecordIx, (s.part.record i).state = .vacant → s.part.recordHeld i = false →
          (∀ j, j < i → (s.part.record j).state ≠ .vacant ∨ s.part.recordHeld j = true) →
          Completes (.create tag port address items) s
            (((s.part.setRecord i
                { state := .reserved, generation := (s.part.record i).generation + 1, homePort := q, currentPort := q
                  address := a, identity := heldIdentity items none, budget := heldNumber recordRanges items 2 1500
                  asymmetry := heldNumber recordRanges items 3 0, share := heldNumber recordRanges items 4 32768
                  staticOffset := heldNumber recordRanges items 5 0
                  protectOffset := heldNumber recordRanges items 6 0, eligible := heldFlag items 7 false
                  silentLimit := heldNumber recordRanges items 8 8, autoRetire := heldNumber recordRanges items 9 0
                  statistics := heldFlag items 10 true }).setPort q
                (match (s.part.port q).state with
                  | .parked => { s.part.port q with state := .running, idleCount := 0 }
                  | .running => { s.part.port q with idleCount := 0 }
                  | .disabled => s.part.port q)).answer 0x21#8 tag
              { code := .done, clamped := clampsAny recordRanges items
                body := [byte i.val, byte ((s.part.record i).generation + 1).val] })) ∧
        ((∀ i, (s.part.record i).state ≠ .vacant ∨ s.part.recordHeld i = true) →
          Completes (.create tag port address items) s (s.part.answer 0x21#8 tag { code := .full })))

/-- RETIRE of an ACTIVE record that is not bound to the selected slot makes it RETIRING, without its staged change and its
return binding; of a RESERVED, PENDING or SILENT one VACANT at once, with its generation kept and RETIRED raised; of a
record bound to the selected slot it is refused with BOUND (R56, R112, R113, R116). The values of the fields that a
VACANT record does not keep are the model's choice (log entry 46). -/
def Obligations.RetireEndsOrDismissesARecord : Prop :=
  ∀ (s : State) (tag index : Byte) (i : RecordIx), s.part.Ready → indexOf 48 index = some i → BindingsAgree s.part →
    ((s.part.record i).state = .active →
      ((s.part.record i).returnBinding = none ∨ (s.part.record i).returnBinding ≠ s.part.selected) →
      ∃ t : State, exec (.retire tag index) s = .next t ∧ t.pending = s.pending ∧
        t.part.mgmt =
          (s.part.answer 0x22#8 tag
            { code := .done, body := [byte i.val, byte (s.part.record i).generation.val, 5#8] }).mgmt ∧
        t.part.record i =
          { s.part.record i with
            state := .retiring, stagedOffset := none, stagedShare := none, dismissAttempts := 0
            returnBinding := none } ∧
        KeepsOtherRecords i s.part t.part ∧ KeepsBase s.part t.part ∧ t.part.ports = s.part.ports ∧
        t.part.engines = s.part.engines ∧ t.part.pairs = s.part.pairs) ∧
    ((s.part.record i).state = .reserved ∨ (s.part.record i).state = .pending ∨ (s.part.record i).state = .silent →
      ((s.part.record i).returnBinding = none ∨ (s.part.record i).returnBinding ≠ s.part.selected) →
      ∃ t : State, exec (.retire tag index) s = .next t ∧ t.pending = s.pending ∧
        t.part.mgmt =
          (s.part.answer 0x22#8 tag
            { code := .done, body := [byte i.val, byte (s.part.record i).generation.val, 0#8] }).mgmt ∧
        t.part.record i = { generation := (s.part.record i).generation } ∧
        t.part.alarm.standingOf (.record i) &&& 0x000F#16 = 0#16 ∧
        (s.part.alarm.settings.recordThreshold = some .note →
          t.part.Reported (.record i) .retired (fun e => e.detail = some .immediate)) ∧
        KeepsOtherRecords i s.part t.part ∧ KeepsBase s.part t.part ∧ t.part.ports = s.part.ports ∧
        t.part.engines = s.part.engines ∧ t.part.pairs = s.part.pairs) ∧
    ((s.part.record i).state ≠ .vacant → (s.part.record i).state ≠ .retiring →
      (s.part.record i).returnBinding ≠ none → (s.part.record i).returnBinding = s.part.selected →
      Completes (.retire tag index) s (s.part.answer 0x22#8 tag { code := .bound }))

/-- An ENROL taken in the OPEN slot is decided at once: refused DUPLICATE, with IDENTITY_CLASH on the holder, when
another record holds the identity; bound to the RESERVED record of the port that holds it; bound to a RESERVED record of
the port without an identity, the one at the wished address, or with no wish the lowest; refused CLOSED; or, in OPEN
mode, given a record created at the wished or the lowest free address, or refused FULL when no address or no record is
free. A refusal CLOSED or FULL keeps the identity as the last refused one and raises ENROL_REFUSED. The decision waits
for the VERDICT slot (R92, R102 to R106, R129). -/
def Obligations.EnrolIsDecidedAtOnce : Prop :=
  ∀ (s : State) (q : PortIx) (characters : List LineChar) (x : Identity) (wish : Option Address),
    s.part.held = false → (s.part.engine q).activity = .response → (s.part.engine q).slot = .openSlot →
    acceptedResponse true characters = some (.enrol x wish) →
    (∀ i : RecordIx, RecordLaws s.part → (s.part.record i).state ≠ .vacant → (s.part.record i).identity = some x →
      ((s.part.record i).state ≠ .reserved ∨ (s.part.record i).currentPort ≠ q) →
      ∃ t : State, exec (.enrol q characters) s = .next t ∧ t.pending = s.pending ∧ t.part.records = s.part.records ∧
        t.part.hub = s.part.hub ∧
        (t.part.engine q).verdict = some { identity := x, result := .refuse .duplicate } ∧
        (s.part.alarm.settings.recordThreshold = some .note →
          t.part.Reported (.record i) .identityClash (fun e => e.identity = some x ∧ e.ports = some (portMask q)))) ∧
    (∀ i : RecordIx, RecordLaws s.part → (s.part.record i).state = .reserved → (s.part.record i).currentPort = q →
      ((s.part.record i).identity = some x ∨
        ((∀ j : RecordIx, (s.part.record j).state ≠ .vacant → (s.part.record j).identity ≠ some x) ∧
          (s.part.record i).identity = none ∧
          (wish = some (s.part.record i).address ∨
            (wish = none ∧ ∀ j, j < i → (s.part.record j).state = .reserved → (s.part.record j).currentPort = q →
              (s.part.record j).identity ≠ none)))) →
      ∃ t : State, exec (.enrol q characters) s = .next t ∧ t.pending = s.pending ∧
        t.part.record i =
          { s.part.record i with
            state := .pending, identity := some x, silentCount := 0, silentSeconds := 0, dismissAttempts := 0
            resetRequest := false } ∧
        (t.part.engine q).verdict = some { identity := x, result := .admitted (s.part.record i).address } ∧
        (s.part.alarm.settings.recordThreshold = some .note →
          t.part.Reported (.record i) .enrolled (fun e => e.identity = some x ∧ e.ports = some (portMask q))) ∧
        KeepsOtherRecords i s.part t.part ∧ KeepsOtherPorts q s.part t.part ∧ KeepsBase s.part t.part) ∧
    ((∀ i : RecordIx, (s.part.record i).state ≠ .vacant → (s.part.record i).identity ≠ some x) →
      (∀ i : RecordIx, (s.part.record i).state = .reserved → (s.part.record i).currentPort = q →
        (s.part.record i).identity = none → ∃ w, wish = some w ∧ (s.part.record i).address ≠ w) →
      (∀ reason detail, ((s.part.port q).mode = .closed ∧ reason = .closed ∧ detail = .closed) ∨
          ((s.part.port q).mode = .open ∧ reason = .full ∧ detail = .full ∧
            ((∀ a : Address, s.part.addressFree q a = false) ∨
              ∀ i : RecordIx, (s.part.record i).state ≠ .vacant ∨ s.part.recordHeld i = true)) →
        ∃ t : State, exec (.enrol q characters) s = .next t ∧ t.pending = s.pending ∧ t.part.records = s.part.records ∧
          t.part.hub = { s.part.hub with lastRefused := some x } ∧
          (t.part.engine q).verdict = some { identity := x, result := .refuse reason } ∧
          (s.part.alarm.settings.hubThreshold = some .note →
            t.part.Reported .hub .enrolRefused
              (fun e => e.identity = some x ∧ e.ports = some (portMask q) ∧ e.detail = some detail)) ∧
          KeepsOtherPorts q s.part t.part ∧ KeepsBase s.part t.part) ∧
      ∀ (i : RecordIx) (a : Address), (s.part.port q).mode = .open →
        (s.part.record i).state = .vacant → s.part.recordHeld i = false →
        (∀ j, j < i → (s.part.record j).state ≠ .vacant ∨ s.part.recordHeld j = true) →
        ((wish = some a ∧ s.part.addressFree q a = true) ∨
          ((∀ w, wish = some w → s.part.addressFree q w = false) ∧ s.part.addressFree q a = true ∧
            ∀ w, w < a → s.part.addressFree q w = false)) →
        ∃ t : State, exec (.enrol q characters) s = .next t ∧ t.pending = s.pending ∧
          t.part.record i =
            { state := .pending, generation := (s.part.record i).generation + 1, homePort := q, currentPort := q
              address := a, identity := some x, budget := (s.part.port q).defaultBudget } ∧
          (t.part.engine q).verdict = some { identity := x, result := .admitted a } ∧
          (s.part.alarm.settings.recordThreshold = some .note →
            t.part.Reported (.record i) .enrolled (fun e => e.identity = some x ∧ e.ports = some (portMask q))) ∧
          KeepsOtherRecords i s.part t.part ∧ KeepsOtherPorts q s.part t.part ∧ KeepsBase s.part t.part)

/-! ## Slot outcomes -/

/-- An accepted ECHO zeroes the silent counts, writes the last port, ends SILENT, and makes the record ACTIVE when it
holds a filter then and PENDING otherwise. A round trip that passes the check forms the one-way delay d = round(RTD ×
share / 65,536). Without a filter d becomes it; within 200 ns the filter moves by an eighth; beyond it the outlier run
lengthens, and the fifth outlier re-initialises the filter, which is DELAY_STEP. C is formed afresh. An echo stamped in
a hold is unmeasured: it moves no filter and only counts a slot of the window. An RTD of 0 or less or above 1,000,000 ns
raises MEAS_CHECK, moves no filter, and turns the statistics off (R107, R140 to R146, R148, R150). The command
DELAY_STEP does that echo whole, which is the model's choice (log entry 3). -/
def Obligations.EchoMovesTheDelayFilter : Prop :=
  ∀ (s : State) (q : PortIx) (t : SlotTarget) (characters : List LineChar) (fields : EchoFields) (t1 t4 : Stamp)
    (rtd d : Int) (r : ServiceRecord),
    s.part.LiveSlot q t → (s.part.engine q).activity = .response → acceptedEcho characters = some fields →
    (s.part.engine q).t1 = some t1 → (s.part.engine q).t4 = some t4 →
    rtd = t4.time.toQ - t1.time.toQ - fields.turnaround.toNat * 65536 → r = s.part.record t.record →
    d = roundDiv (rtd * r.share) 65536 →
    ∃ u : State, exec (.echo q characters) s = .next u ∧ u.pending = s.pending ∧
      (u.part.record t.record).state =
        (if r.state = .active ∨ (u.part.record t.record).filter ≠ none then .active else .pending) ∧
      (u.part.record t.record).silentCount = 0 ∧ (u.part.record t.record).silentSeconds = 0 ∧
      (u.part.record t.record).lastPort = some q ∧ (u.part.record t.record).generation = r.generation ∧
      (r.state = .silent → hasCondition (u.part.alarm.standingOf (.record t.record)) .silent = false) ∧
      (u.part.port q).lastError = .none ∧ (u.part.engine q).activity = .idle ∧ (u.part.engine q).target = none ∧
      KeepsOtherRecords t.record s.part u.part ∧ KeepsOtherPorts q s.part u.part ∧ KeepsBase s.part u.part ∧
      u.part.pairs = s.part.pairs ∧ u.part.mgmt = s.part.mgmt ∧
      (t1.inHold = false → t4.inHold = false → 0 < rtd → rtd ≤ 65536000000 →
        (u.part.record t.record).filter =
          some (match r.filter with
            | none => d
            | some f =>
              if magnitude (d - f) ≤ 13107200 then f + roundDiv (d - f) 8
              else if 5 ≤ r.outlierRun + 1 then d else f) ∧
        (u.part.record t.record).outlierRun =
          (match r.filter with
            | none => 0
            | some f =>
              if magnitude (d - f) ≤ 13107200 then 0
              else if 5 ≤ r.outlierRun + 1 then 0 else r.outlierRun + 1) ∧
        (∀ f, (u.part.record t.record).filter = some f →
          (u.part.record t.record).compensation = max 0 (min 131072000000 (f + r.staticOffset * 65536))) ∧
        (r.statistics = true → r.window.count + 1 < 64 →
          (u.part.record t.record).window =
            { count := r.window.count + 1, minRtd := some (min rtd (r.window.minRtd.getD rtd))
              maxRtd := some (max rtd (r.window.maxRtd.getD rtd)), good := r.window.good + 1
              missed := r.window.missed }) ∧
        ∀ f, r.filter = some f → 13107200 < magnitude (d - f) → 5 ≤ r.outlierRun + 1 →
          exec (.delayStep q characters) s = .next u ∧
          (s.part.alarm.settings.recordThreshold = some .note →
            u.part.Reported (.record t.record) .delayStep (fun e => e.ports = some (portMask q)))) ∧
      (t1.inHold = true ∨ t4.inHold = true →
        (u.part.record t.record).filter = r.filter ∧ (u.part.record t.record).outlierRun = r.outlierRun ∧
        (u.part.record t.record).compensation = r.compensation ∧
        (u.part.record t.record).statistics = r.statistics ∧
        (r.statistics = true → r.window.count + 1 < 64 →
          (u.part.record t.record).window = { r.window with count := r.window.count + 1 }) ∧
        (r.statistics = false → (u.part.record t.record).window = r.window)) ∧
      (t1.inHold = false → t4.inHold = false → rtd ≤ 0 ∨ 65536000000 < rtd →
        (u.part.record t.record).filter = r.filter ∧ (u.part.record t.record).outlierRun = r.outlierRun ∧
        (u.part.record t.record).compensation = r.compensation ∧ (u.part.record t.record).statistics = false ∧
        (u.part.record t.record).window = { count := 0, minRtd := none, maxRtd := none, good := 0, missed := 0 } ∧
        (u.part.record t.record).halfSpread = r.halfSpread ∧
        (u.part.record t.record).stale = (r.stale || r.halfSpread.isSome) ∧
        (s.part.alarm.settings.recordThreshold = some .note →
          u.part.Reported (.record t.record) .measCheck (fun e => e.ports = some (portMask q))))

/-- A long ECHO of a record that is bound to a running return slot completes the slot's sample, when the slot has none
in this second: the value is the return offset in q-ns, the accuracy the return accuracy, the record's asymmetry
allowance and the slot's allowance together. It is INVALID when the validity byte is not 1 or the DELAY went to a record
without a filter, and otherwise has the outcome of the jump check. A short ECHO, or one with no such slot to take it,
leaves the inputs, the slots and the selection as they are (R20, R22, R31 to R33). -/
def Obligations.LongEchoCompletesAReturnSample : Prop :=
  ∀ (s : State) (q : PortIx) (t : SlotTarget) (characters : List LineChar) (fields : EchoFields),
    s.part.LiveSlot q t → (s.part.engine q).activity = .response → acceptedEcho characters = some fields →
    (∀ (k : SlotIx) (x : ReturnFields), BindingsAgree s.part → fields.ret = some x →
      (s.part.slot k).binding = some (t.record, t.generation) → s.part.running k = true →
      (s.part.input k).completed = false →
      ∃ (u : State) (o : SampleOutcome), exec (.echo q characters) s = .next u ∧ u.pending = s.pending ∧
        (u.part.input k).last =
          some
            { outcome := o, value := some (x.offset.toInt * 65536)
              accuracy :=
                some ((x.accuracy.toNat : Int) + (s.part.record t.record).asymmetry + (s.part.slot k).allowance)
              scale := none, second := s.part.tb.second, fresh := true } ∧
        (u.part.input k).completed = true ∧
        (x.validity ≠ 1 ∨ t.filterHeld = false →
          o = .invalid ∧ (u.part.input k).jumpReference = (s.part.input k).jumpReference) ∧
        (x.validity = 1 → t.filterHeld = true →
          o = (match (s.part.input k).jumpReference with
            | none => .good
            | some r =>
              if (s.part.slot k).jumpLimit * 65536 < magnitude (x.offset.toInt * 65536 - r) then .outlier else .good) ∧
          (o = .good → (u.part.input k).jumpReference = some (x.offset.toInt * 65536))) ∧
        KeepsOtherSlots k s.part u.part ∧ KeepsOtherRecords t.record s.part u.part ∧
        KeepsOtherPorts q s.part u.part ∧ KeepsBase s.part u.part ∧ u.part.mgmt = s.part.mgmt) ∧
    ((fields.ret = none ∨ ∀ k : SlotIx, (s.part.slot k).binding = some (t.record, t.generation) →
        s.part.running k = false ∨ (s.part.input k).completed = true) →
      ∃ u : State, exec (.echo q characters) s = .next u ∧ u.part.inputs = s.part.inputs ∧
        u.part.slots = s.part.slots ∧ u.part.selected = s.part.selected ∧ u.part.hub = s.part.hub)

/-- A LEAVE in a DELAY slot makes the record VACANT at that instant, keeps its generation, and raises LEFT with the
identity it held and the port of the LEAVE, whether or not the record is bound to the selected return slot; for a record
in RETIRING it completes the retirement with RETIRED, ACKNOWLEDGED (R111). The queue, the other records and the other
ports stay. -/
def Obligations.LeaveEndsTheRecord : Prop :=
  (∀ (s : State) (q : PortIx) (t : SlotTarget) (characters : List LineChar),
    s.part.LiveSlot q t → (s.part.engine q).activity = .response →
    acceptedResponse false characters = some .leave →
    BindingsAgree s.part →
    ∃ u : State, exec (.leave q characters) s = .next u ∧ u.pending = s.pending ∧
      EndedRecord (s.part.record t.record) (u.part.record t.record) ∧
      (s.part.alarm.settings.recordThreshold = some .note →
        u.part.Reported (.record t.record) .left (fun e =>
          e.ports = some (portMask q) ∧
            ∀ x, (s.part.record t.record).identity = some x → e.identity = some x)) ∧
      (u.part.port q).lastError = .none ∧ (u.part.engine q).activity = .idle ∧ (u.part.engine q).target = none ∧
      KeepsOtherRecords t.record s.part u.part ∧ KeepsOtherPorts q s.part u.part ∧ KeepsBase s.part u.part ∧
      u.part.pairs = s.part.pairs ∧ u.part.mgmt = s.part.mgmt) ∧
  ∀ (s : State) (q : PortIx) (t : SlotTarget) (characters : List LineChar),
    s.part.held = false → (s.part.engine q).activity = .response →
    acceptedResponse false characters = some .leave →
    (s.part.engine q).slot.isAddress = true → (s.part.engine q).target = some t →
    (s.part.record t.record).generation = t.generation → (s.part.record t.record).state = .retiring →
    ∃ u : State, exec (.leave q characters) s = .next u ∧ u.pending = s.pending ∧
      EndedRecord (s.part.record t.record) (u.part.record t.record) ∧
      (s.part.alarm.settings.recordThreshold = some .note →
        u.part.Reported (.record t.record) .retired (fun e => e.detail = some .acknowledged))

/-- A DISTRESS sends the record to PENDING, discards its filter, C, window, half-spread and TE, zeroes its silent counts,
sets its reset-request flag, and raises DISTRESS with SILENT and the time error conditions cleared; the host-written
fields, the staged change and the return binding stay (R110, R146, R152). R110 does not name TE, which the model discards
with the filter (log entry 16). That the raise carries the port of the slot, also where the record has been moved during
it, is the model's choice (log entry 15). -/
def Obligations.DistressStartsTheRecordAgain : Prop :=
  ∀ (s : State) (q : PortIx) (t : SlotTarget) (characters : List LineChar), s.part.LiveSlot q t →
    (s.part.engine q).activity = .response → acceptedResponse false characters = some .distress →
    ∃ u : State, exec (.distress q characters) s = .next u ∧ u.pending = s.pending ∧
      u.part.record t.record =
        { s.part.record t.record with
          state := .pending, silentCount := 0, silentSeconds := 0, resetRequest := true, filter := none
          outlierRun := 0, compensation := 0, window := {}, halfSpread := none, stale := false, te := none
          teState := .unmeasured, prevLink := none } ∧
      hasCondition (u.part.alarm.standingOf (.record t.record)) .silent = false ∧
      hasCondition (u.part.alarm.standingOf (.record t.record)) .teMarginal = false ∧
      hasCondition (u.part.alarm.standingOf (.record t.record)) .teExceeded = false ∧
      (s.part.alarm.settings.recordThreshold = some .note →
        u.part.Reported (.record t.record) .distress (fun e => e.ports = some (portMask q))) ∧
      (u.part.port q).lastError = .none ∧ (u.part.engine q).activity = .idle ∧
      KeepsOtherRecords t.record s.part u.part ∧ KeepsOtherPorts q s.part u.part ∧ KeepsBase s.part u.part ∧
      u.part.hub = s.part.hub ∧ u.part.slots = s.part.slots ∧ u.part.inputs = s.part.inputs

/-- A window that closes unanswered, a response in error, a response still incomplete at the next slot start and a frame
aborted by read-back each end the DELAY slot as missing with their own slot error, and lengthen the silent count of a
PENDING or ACTIVE record; at the silent limit the record enters SILENT (R108, R125, R126, R130). SILENT_ENTRY with that
event as its cause does the event whole, which is the model's choice (log entry 3). -/
def Obligations.MissingOutcomesLeadToSilence : Prop :=
  ∀ (s : State) (q : PortIx) (t : SlotTarget) (c : Instr) (cause : LineEvent) (error : SlotError),
    s.part.LiveSlot q t → (s.part.record t.record).state ≠ .silent → s.part.MissesSlot q c cause error →
    ∃ u : State, exec c s = .next u ∧ u.pending = s.pending ∧ (u.part.port q).lastError = error ∧
      (u.part.engine q).activity = .idle ∧ (u.part.engine q).target = none ∧
      (u.part.record t.record).silentCount = (s.part.record t.record).silentCount + 1 ∧
      (u.part.record t.record).filter = (s.part.record t.record).filter ∧
      (u.part.record t.record).compensation = (s.part.record t.record).compensation ∧
      ((s.part.record t.record).silentLimit ≤ (s.part.record t.record).silentCount + 1 →
        (u.part.record t.record).state = .silent ∧ (u.part.record t.record).silentSeconds = 0 ∧
        hasCondition (u.part.alarm.standingOf (.record t.record)) .silent = true ∧
        exec (.silentEntry t.record (.line q cause)) s = .next u) ∧
      ((s.part.record t.record).silentCount + 1 < (s.part.record t.record).silentLimit →
        (u.part.record t.record).state = (s.part.record t.record).state) ∧
      KeepsOtherRecords t.record s.part u.part ∧ KeepsOtherPorts q s.part u.part ∧
      u.part.hub = s.part.hub ∧ u.part.slots = s.part.slots ∧ u.part.mgmt = s.part.mgmt

/-- The end of a DISMISS slot without a LEAVE, with the dismiss attempts at 3, makes the record VACANT with RETIRED,
UNACKNOWLEDGED (R112, R114): its window closes, its response shows an error or is an ECHO or a DISTRESS, its frame is
aborted by read-back, or it is still in progress at the next slot start or the boundary. With fewer attempts the record
stays as it was. A slot of a RETIRING record that begins without a frame, on a port that is DISABLED or in FAULT, is an
attempt too and ends at once in the same way, with no slot error (R124). RETIRE_UNACKNOWLEDGED with that event as its
cause does it whole, a frame or window still open at the next slot start or boundary ends there as missing, and the
values of the fields that a VACANT record does not keep: these are the model's choice (log entries 3, 19 and 46). -/
def Obligations.ThirdDismissEndsTheRecord : Prop :=
  (∀ (s : State) (q : PortIx) (t : SlotTarget) (c : Instr) (cause : Cause) (error : SlotError), s.part.held = false →
    (s.part.engine q).slot.isAddress = true → (s.part.engine q).target = some t → t.dismiss = true →
    (s.part.record t.record).generation = t.generation → (s.part.record t.record).state = .retiring →
    s.part.EndsWithoutLeave q c cause error →
    ∃ u : State, exec c s = .next u ∧ u.pending = s.pending ∧ (u.part.port q).lastError = error ∧
      (3 ≤ (s.part.record t.record).dismissAttempts →
        exec (.retireUnacknowledged t.record cause) s = .next u ∧
        u.part.record t.record = { generation := (s.part.record t.record).generation } ∧
        (s.part.alarm.settings.recordThreshold = some .note →
          u.part.Reported (.record t.record) .retired (fun e => e.detail = some .unacknowledged))) ∧
      ((s.part.record t.record).dismissAttempts < 3 → ¬s.part.StartsSlot q c cause →
        u.part.record t.record = s.part.record t.record) ∧
      ((∀ b, c ≠ .hubSecondBoundary b) → KeepsOtherPorts q s.part u.part) ∧
      (¬s.part.StartsSlot q c cause →
        (u.part.engine q).activity = .idle ∧ (u.part.engine q).target = none ∧ KeepsBase s.part u.part)) ∧
  ∀ (s : State) (q : PortIx) (a : Address) (i : RecordIx), s.part.held = false → (s.part.engine q).activity = .idle →
    RecordLaws s.part → (s.part.record i).currentPort = q → (s.part.record i).address = a →
    (s.part.record i).state = .retiring → (s.part.port q).line = .fault ∨ (s.part.port q).state = .disabled →
    ∃ u : State, exec (.delaySlotStart q a) s = .next u ∧ u.pending = s.pending ∧ u.part.port q = s.part.port q ∧
      (u.part.engine q).activity = .idle ∧ (u.part.engine q).target = none ∧
      (3 ≤ (s.part.record i).dismissAttempts + 1 →
        exec (.retireUnacknowledged i (.line q (.delaySlotStart a))) s = .next u ∧
        u.part.record i = { generation := (s.part.record i).generation } ∧
        (s.part.alarm.settings.recordThreshold = some .note →
          u.part.Reported (.record i) .retired (fun e => e.detail = some .unacknowledged))) ∧
      ((s.part.record i).dismissAttempts + 1 < 3 →
        u.part.record i = { s.part.record i with dismissAttempts := (s.part.record i).dismissAttempts + 1 }) ∧
      KeepsOtherPorts q s.part u.part

/-- When a slot brings the window count to 64 the window closes at that slot: with a good count of 2 or more the
half-spread becomes ceiling((max RTD − min RTD) / 2) and the stale flag is cleared, otherwise the half-spread is kept
and the flag set; the window restarts, and the time error judgement of that same slot uses the latched half-spread
(R149). So it is for a slot that ends as missing, with a frame sent or without one, and for an accepted ECHO, whose RTD
enters the spread when it is measured. STATISTICS_WINDOW_CLOSE with that event as its cause does the event whole, and
the judgement at an ECHO reads the U that stands before the ECHO's return sample moves the selection: both are the
model's choice (log entries 3 and 41). -/
def Obligations.SixtyFourthSlotClosesTheWindow : Prop :=
  (∀ (s : State) (q : PortIx) (t : SlotTarget) (r : ServiceRecord) (c : Instr) (cause : LineEvent) (error : SlotError),
    s.part.LiveSlot q t → s.part.MissesSlot q c cause error → r = s.part.record t.record → r.statistics = true →
    r.window.count = 63 →
    ∃ u : State, exec (.statisticsWindowClose t.record (.line q cause)) s = .next u ∧ exec c s = .next u ∧
      u.pending = s.pending ∧
      WindowLatched r.window.good (r.window.minRtd.getD 0) (r.window.maxRtd.getD 0) s.part.hub.bound r
        (u.part.record t.record) ∧
      KeepsOtherRecords t.record s.part u.part ∧ KeepsOtherPorts q s.part u.part ∧ u.part.hub = s.part.hub) ∧
  (∀ (s : State) (q : PortIx) (a : Address) (i : RecordIx) (r : ServiceRecord), s.part.held = false →
    (s.part.engine q).activity = .idle → RecordLaws s.part → r = s.part.record i → r.currentPort = q → r.address = a →
    r.state = .pending ∨ r.state = .active ∨ r.state = .silent →
    (s.part.port q).line = .fault ∨ (s.part.port q).state = .disabled → r.statistics = true → r.window.count = 63 →
    ∃ u : State, exec (.statisticsWindowClose i (.line q (.delaySlotStart a))) s = .next u ∧
      exec (.delaySlotStart q a) s = .next u ∧ u.pending = s.pending ∧
      WindowLatched r.window.good (r.window.minRtd.getD 0) (r.window.maxRtd.getD 0) s.part.hub.bound r
        (u.part.record i) ∧
      KeepsOtherRecords i s.part u.part ∧ KeepsOtherPorts q s.part u.part ∧ u.part.hub = s.part.hub) ∧
  ∀ (s : State) (q : PortIx) (t : SlotTarget) (characters : List LineChar) (fields : EchoFields) (t1 t4 : Stamp)
    (rtd : Int) (r : ServiceRecord),
    s.part.LiveSlot q t → (s.part.engine q).activity = .response → acceptedEcho characters = some fields →
    (s.part.engine q).t1 = some t1 → (s.part.engine q).t4 = some t4 →
    rtd = t4.time.toQ - t1.time.toQ - fields.turnaround.toNat * 65536 → r = s.part.record t.record →
    r.statistics = true → r.window.count = 63 →
    (t1.inHold = true ∨ t4.inHold = true ∨ (0 < rtd ∧ rtd ≤ 65536000000)) →
    ∃ u : State, exec (.statisticsWindowClose t.record (.line q (.echo characters))) s = .next u ∧
      exec (.echo q characters) s = .next u ∧ u.pending = s.pending ∧
      (t1.inHold = true ∨ t4.inHold = true →
        WindowLatched r.window.good (r.window.minRtd.getD 0) (r.window.maxRtd.getD 0) s.part.hub.bound r
          (u.part.record t.record)) ∧
      (t1.inHold = false → t4.inHold = false →
        WindowLatched (r.window.good + 1) (min rtd (r.window.minRtd.getD rtd)) (max rtd (r.window.maxRtd.getD rtd))
          s.part.hub.bound r (u.part.record t.record)) ∧
      KeepsOtherRecords t.record s.part u.part ∧ KeepsOtherPorts q s.part u.part

/-- The outcome of a DELAY slot of a record that then holds a filter, missing or an accepted ECHO, judges its time error: L
is the asymmetry allowance and the half-spread, TE is U + L, and the verdict is WITHIN up to three quarters of the
budget, MARGINAL up to the budget and EXCEEDED above it. A verdict that differs from the TE state raises the condition
that it enters and clears the one that it leaves, each with the TE and the port. A raise is ancillary when the record
held a previous link term that L does not exceed and the cause number is not 0; with coalescing on it then goes to the
hub's entry. A verdict equal to the TE state moves neither condition (R139, R151 to R153, R175, R176). The cases shown
are those in which the slot closes no window and a missing one raises no SILENT; after a MEAS_CHECK or a DELAY_STEP of the
same ECHO the raise joins that entry. That a clear carries the TE and the port as a raise does, that a raise and a clear
come in the order of the table of R152, that the clear beside a coalesced raise forms no entry, and that an ECHO is
judged with the U and the cause number before its return sample moves the selection, are the model's reading and choice
(log entries 15, 17 and 41). -/
def Obligations.TimeErrorsAreJudgedAndReported : Prop :=
  ∀ (s : State) (q : PortIx) (t : SlotTarget) (r : ServiceRecord) (l te : Int) (verdict : TeState) (ancillary : Bool),
    s.part.LiveSlot q t → r = s.part.record t.record → (r.statistics = false ∨ r.window.count + 1 < 64) →
    l = r.asymmetry * 65536 + r.halfSpread.getD 0 → te = s.part.hub.bound + l →
    verdict =
      (if 4 * te ≤ 3 * (r.budget * 65536) then .within else if te ≤ r.budget * 65536 then .marginal else .exceeded) →
    ancillary =
      (match r.prevLink with
        | none => false
        | some before => decide (l ≤ before) && decide (s.part.hub.causeNumber ≠ 0)) →
    (∀ (c : Instr) (cause : LineEvent) (error : SlotError), s.part.MissesSlot q c cause error → r.filter ≠ none →
      (r.state = .silent ∨ r.silentCount + 1 < r.silentLimit) →
      ∃ u : State, exec c s = .next u ∧ u.pending = s.pending ∧
        TeJudged t.record r.teState l te verdict s.part u.part ∧
        TeReported q t.record r te verdict ancillary true true s.part u.part ∧
        (verdict = r.teState →
          u.part.alarm.standingOf (.record t.record) = s.part.alarm.standingOf (.record t.record)) ∧
        KeepsOtherRecords t.record s.part u.part ∧ KeepsOtherPorts q s.part u.part ∧ u.part.hub = s.part.hub) ∧
    ∀ (characters : List LineChar) (fields : EchoFields) (t1 t4 : Stamp) (rtd d : Int) (measured within : Bool),
      (s.part.engine q).activity = .response → acceptedEcho characters = some fields →
      (s.part.engine q).t1 = some t1 → (s.part.engine q).t4 = some t4 →
      rtd = t4.time.toQ - t1.time.toQ - fields.turnaround.toNat * 65536 → d = roundDiv (rtd * r.share) 65536 →
      measured = (!t1.inHold && !t4.inHold) → within = (decide (0 < rtd) && decide (rtd ≤ 65536000000)) →
      (r.filter ≠ none ∨ (measured = true ∧ within = true)) →
      ∃ u : State, exec (.echo q characters) s = .next u ∧ u.pending = s.pending ∧
        TeJudged t.record r.teState l te verdict s.part u.part ∧
        (measured = false ∨
            (within = true ∧ ∀ f, r.filter = some f → magnitude (d - f) ≤ 13107200 ∨ r.outlierRun + 1 < 5) →
          TeReported q t.record r te verdict ancillary true (r.state != .silent) s.part u.part) ∧
        (measured = true →
            (within = false ∨ ∃ f, r.filter = some f ∧ 13107200 < magnitude (d - f) ∧ 5 ≤ r.outlierRun + 1) →
          TeReported q t.record r te verdict ancillary false false s.part u.part) ∧
        KeepsOtherRecords t.record s.part u.part ∧ KeepsOtherPorts q s.part u.part

/-- At a boundary every staged value becomes live and the staged change is removed, for a record with no slot open; and a
SILENT record whose silent seconds reach its auto-retire time becomes VACANT with RETIRED, which makes the boundary an
AUTO_RETIRE of it, whatever slot it is bound to (R101, R109, R112). That AUTO_RETIRE is the boundary whole, and the values
of the fields that a VACANT record does not keep, are the model's choice (log entries 3 and 46). -/
def Obligations.BoundaryAppliesStagedChangesAndRetires : Prop :=
  (∀ (s : State) (b : BoundaryArgs) (i : RecordIx), s.part.held = false → s.part.NoSlotOpen →
    retiresNow (s.part.record i) = false → (s.part.record i).state ≠ .vacant →
    ∃ t : State, exec (.hubSecondBoundary b) s = .next t ∧ t.pending = s.pending ∧
      (t.part.record i).staticOffset = (s.part.record i).stagedOffset.getD (s.part.record i).staticOffset ∧
      (t.part.record i).share = (s.part.record i).stagedShare.getD (s.part.record i).share ∧
      (t.part.record i).stagedOffset = none ∧ (t.part.record i).stagedShare = none ∧
      (t.part.record i).state = (s.part.record i).state ∧ (t.part.record i).generation = (s.part.record i).generation ∧
      (t.part.record i).homePort = (s.part.record i).homePort ∧
      (t.part.record i).address = (s.part.record i).address ∧
      (t.part.record i).identity = (s.part.record i).identity ∧
      ((s.part.record i).state = .silent →
        (t.part.record i).silentSeconds = min ((s.part.record i).silentSeconds + 1) 65535)) ∧
  ∀ (s : State) (b : BoundaryArgs) (i : RecordIx), s.part.held = false → BindingsAgree s.part →
    (s.part.record i).state = .silent → (s.part.record i).autoRetire ≠ 0 →
    (s.part.record i).autoRetire ≤ min ((s.part.record i).silentSeconds + 1) 65535 →
    ∃ t : State, exec (.autoRetire i b) s = .next t ∧ exec (.hubSecondBoundary b) s = .next t ∧
      t.pending = s.pending ∧ t.part.record i = { generation := (s.part.record i).generation } ∧
      (∀ k, (t.part.slot k).binding ≠ some (i, (s.part.record i).generation)) ∧
      (s.part.alarm.settings.recordThreshold = some .note →
        t.part.Reported (.record i) .retired (fun e => e.detail = some .auto))

/-! ## Port Engines -/

/-- At the start of an address slot, 100 ms + 100 ms × a after the boundary, a RUNNING and CLEAN port sends the DELAY of
the record on it at that address, with C in 1/16 ns and the reset-request flag, stamped t1; of a RETIRING record
DISMISS, which is a dismiss attempt. A DISABLED port, or one in FAULT, reports the slot missing at once and keeps its
slot error. With no record, or a RESERVED one, the slot is empty (R114, R122, R124). That the start brings the elapsed
time to its place, never back, with the carried remainder kept, is the model's choice (log entry 2). -/
def Obligations.AddressSlotsServeTheirRecords : Prop :=
  ∀ (s : State) (q : PortIx) (a : Address), s.part.held = false → (s.part.engine q).activity = .idle →
    RecordLaws s.part →
    (∀ i : RecordIx, (s.part.record i).currentPort = q → (s.part.record i).address = a →
      (s.part.record i).state = .pending ∨ (s.part.record i).state = .active ∨ (s.part.record i).state = .silent →
      (s.part.port q).state = .running → (s.part.port q).line = .clean →
      Completes (.delaySlotStart q a) s
        ({ s.part with tb := s.part.tb.elapseTo ((100 + 100 * a.val) * 65536000000) }.setEngine q
          { s.part.engine q with
            slot := .address a
            activity := .driving
              { kind := .delay, address := a
                payload :=
                  signedBytesOf 4 (roundDiv (s.part.record i).compensation 4096) ++
                    [if (s.part.record i).resetRequest then 1#8 else 0#8] }
            target :=
              some
                { record := i, generation := (s.part.record i).generation, dismiss := false
                  filterHeld := (s.part.record i).filter.isSome }
            t1 := some (s.part.tb.stampAt ((100 + 100 * a.val) * 65536000000)), t4 := none })) ∧
    (∀ i : RecordIx, (s.part.record i).currentPort = q → (s.part.record i).address = a →
      (s.part.record i).state = .retiring → (s.part.port q).state = .running → (s.part.port q).line = .clean →
      ∃ t : State, exec (.delaySlotStart q a) s = .next t ∧ t.pending = s.pending ∧
        (t.part.engine q).activity = .driving { kind := .dismiss, address := a, payload := [] } ∧
        (t.part.engine q).slot = .address a ∧
        t.part.record i =
          { s.part.record i with dismissAttempts := (s.part.record i).dismissAttempts + 1 } ∧
        KeepsOtherRecords i s.part t.part ∧ KeepsOtherPorts q s.part t.part ∧ t.part.hub = s.part.hub) ∧
    (∀ i : RecordIx, (s.part.record i).currentPort = q → (s.part.record i).address = a →
      (s.part.record i).state = .pending ∨ (s.part.record i).state = .active →
      (s.part.port q).line = .fault ∨ (s.part.port q).state = .disabled →
      ∃ t : State, exec (.delaySlotStart q a) s = .next t ∧ t.pending = s.pending ∧
        (t.part.engine q).activity = .idle ∧ (t.part.engine q).target = none ∧
        (t.part.engine q).slot = .address a ∧ t.part.port q = s.part.port q ∧
        (t.part.record i).silentCount = (s.part.record i).silentCount + 1 ∧
        (t.part.record i).resetRequest = (s.part.record i).resetRequest ∧
        KeepsOtherRecords i s.part t.part ∧ KeepsOtherPorts q s.part t.part ∧ t.part.hub = s.part.hub) ∧
    ((∀ i : RecordIx, (s.part.record i).state ≠ .vacant → (s.part.record i).state ≠ .reserved →
        (s.part.record i).currentPort = q → (s.part.record i).address ≠ a) →
      Completes (.delaySlotStart q a) s
        ({ s.part with tb := s.part.tb.elapseTo ((100 + 100 * a.val) * 65536000000) }.setEngine q
          { s.part.engine q with slot := .address a, target := none, t1 := none, t4 := none }))

/-- In a second of at least 800 ms, 600 ms in, a RUNNING and CLEAN port sends OPEN with its free addresses when a
RESERVED record is on it, or it is in OPEN mode with an address and an unheld VACANT record free; and 700 ms in, it
sends the VERDICT of the ENROL taken. A port that is not RUNNING and CLEAN sends neither, and a VERDICT not sent is not
kept. In a shorter second both starts do nothing. A quiet interval begins with nothing in progress, 500 ms in when the
address slots precede it and 800 ms in when the VERDICT slot does; that its start brings the elapsed time there is the
model's choice (R122, R128, R129; log entry 2). -/
def Obligations.OpenAndVerdictSlotsCarryTheirFrames : Prop :=
  ∀ (s : State) (q : PortIx), s.part.held = false → (s.part.engine q).activity = .idle →
    (800000000 ≤ s.part.tb.lengthNs →
      ((s.part.port q).state = .running → (s.part.port q).line = .clean →
        ((∃ i : RecordIx, (s.part.record i).state = .reserved ∧ (s.part.record i).currentPort = q) ∨
          ((s.part.port q).mode = .open ∧ (∃ a : Address, s.part.addressFree q a = true) ∧
            ∃ i : RecordIx, (s.part.record i).state = .vacant ∧ s.part.recordHeld i = false)) →
        Completes (.openSlotStart q) s
          ({ s.part with tb := s.part.tb.elapseTo (600 * 65536000000) }.setEngine q
            { s.part.engine q with
              slot := .openSlot
              activity := .driving
                { kind := .openFrame, address := 0
                  payload :=
                    [byte ((if s.part.addressFree q 0 then 1 else 0) + (if s.part.addressFree q 1 then 2 else 0) +
                      (if s.part.addressFree q 2 then 4 else 0) + (if s.part.addressFree q 3 then 8 else 0))] }
              target := none, t1 := none, t4 := none, verdict := none })) ∧
      (∀ v : Verdict, (s.part.port q).state = .running → (s.part.port q).line = .clean →
        (s.part.engine q).verdict = some v →
        Completes (.verdictSlotStart q) s
          ({ s.part with tb := s.part.tb.elapseTo (700 * 65536000000) }.setEngine q
            { s.part.engine q with
              slot := .verdictSlot
              activity := .driving
                { kind := .verdict
                  address := match v.result with
                    | .admitted a => a
                    | .refuse _ => 0
                  payload := bytesOf 6 v.identity.toNat ++
                    match v.result with
                    | .admitted _ => [0#8, 0#8]
                    | .refuse .full => [1#8, 1#8]
                    | .refuse .duplicate => [1#8, 2#8]
                    | .refuse .closed => [1#8, 3#8] }
              target := none, t1 := none, t4 := none, verdict := none })) ∧
      ((s.part.port q).state ≠ .running ∨ (s.part.port q).line = .fault →
        Completes (.openSlotStart q) s
            ({ s.part with tb := s.part.tb.elapseTo (600 * 65536000000) }.setEngine q
              { s.part.engine q with slot := .openSlot, target := none, t1 := none, t4 := none, verdict := none }) ∧
          Completes (.verdictSlotStart q) s
            ({ s.part with tb := s.part.tb.elapseTo (700 * 65536000000) }.setEngine q
              { s.part.engine q with
                slot := .verdictSlot, target := none, t1 := none, t4 := none, verdict := none }))) ∧
    (s.part.tb.lengthNs < 800000000 →
      Completes (.openSlotStart q) s s.part ∧ Completes (.verdictSlotStart q) s s.part) ∧
    Completes (.quietSlotStart q) s
      ({ s.part with
          tb :=
            s.part.tb.elapseTo
              ((match (s.part.engine q).slot with
                | .quiet => 0
                | .epoch => 500
                | .address _ => 500
                | .openSlot => 800
                | .verdictSlot => 800) * 65536000000) }.setEngine q
        { s.part.engine q with slot := .quiet, target := none, t1 := none, t4 := none })

/-- A DELAY, DISMISS or OPEN sent whole opens the response window, and a DELAY sent whole clears its record's
reset-request flag; an EPOCH or VERDICT sent whole makes the slot error NONE. Each marks the port second as one in which a
frame was sent. The first start bit in the window is stamped t4, whether or not a hold is in progress (R124 to R127,
R131). That the flag of a record that is RETIRING by then is cleared too is the model's reading (log entry 18). -/
def Obligations.FramesSentAndResponsesStarted : Prop :=
  (∀ (s : State) (q : PortIx) (f : LineFrame) (t : SlotTarget), s.part.held = false →
    (s.part.engine q).activity = .driving f → f.kind = .delay → (s.part.engine q).target = some t →
    (s.part.record t.record).generation = t.generation → (s.part.record t.record).state ≠ .vacant →
    Completes (.frameSentWhole q) s
      ((s.part.setEngine q { s.part.engine q with sent := true, activity := .window }).setRecord t.record
        { s.part.record t.record with resetRequest := false })) ∧
  (∀ (s : State) (q : PortIx) (f : LineFrame), s.part.held = false → (s.part.engine q).activity = .driving f →
    f.kind = .dismiss ∨ f.kind = .openFrame →
    Completes (.frameSentWhole q) s
      (s.part.setEngine q { s.part.engine q with sent := true, activity := .window })) ∧
  (∀ (s : State) (q : PortIx) (f : LineFrame), s.part.held = false → (s.part.engine q).activity = .driving f →
    f.kind = .epoch ∨ f.kind = .verdict →
    Completes (.frameSentWhole q) s
      ((s.part.setEngine q { s.part.engine q with sent := true, activity := .idle }).setPort q
        { s.part.port q with lastError := .none })) ∧
  ∀ (s : State) (dt : Nat) (q : PortIx), s.part.held = false → (s.part.engine q).activity = .window →
    Completes (.responseStart dt q) s
      ((passRaw dt s.part).setEngine q
        { s.part.engine q with
          activity := .response
          t4 := some { time := (passRaw dt s.part).tb.counter, inHold := (passRaw dt s.part).tb.holding } })

/-- A character of a TD line is a dominant start bit, the data bits from the most significant on, and a recessive stop
bit. A frame is a break of 16 dominant bits, 2 recessive ones, the sync 0x55, an identifier with the kind, the address
and their check, the payload, and a checksum that makes the bytes after the sync sum to 0. The characters of each
response of Figure 11-7 with a good checksum are accepted as that response, whatever follows them. A checksum that does
not match and a stop bit that reads dominant give CHECKSUM; an unknown kind byte, a kind that the slot does not take and
a wish that is neither an address nor none give RANGE (R121, R125, R200). -/
def Obligations.LineCharactersMakeFramesAndResponses : Prop :=
  (∀ b : Byte,
    characterLevels (characterOf b) =
      [.dominant, levelOf (b.getLsbD 7), levelOf (b.getLsbD 6), levelOf (b.getLsbD 5), levelOf (b.getLsbD 4),
        levelOf (b.getLsbD 3), levelOf (b.getLsbD 2), levelOf (b.getLsbD 1), levelOf (b.getLsbD 0), .recessive]) ∧
  (∀ f : LineFrame, ∃ identifier sum : Byte,
    f.levels = List.replicate 16 .dominant ++ List.replicate 2 .recessive ++
      ([0x55#8, identifier] ++ f.payload ++ [sum]).flatMap (fun b => characterLevels (characterOf b)) ∧
    identifier.toNat = 32 * f.kind.code + 8 * f.address.val + (7 - (f.kind.code + 3 * f.address.val) % 8) ∧
    (identifier.toNat + (f.payload.map BitVec.toNat).sum + sum.toNat) % 256 = 0) ∧
  (∀ (turnaround : BitVec 32) (offset : BitVec 24) (accuracy : BitVec 16) (validity : Byte) (more : List LineChar),
    acceptedResponse false (responseCharacters (0x11#8 :: bytesOf 4 turnaround.toNat) ++ more) =
        some (.echo { turnaround := turnaround, ret := none }) ∧
      acceptedResponse false
          (responseCharacters (0x12#8 :: (bytesOf 4 turnaround.toNat ++ bytesOf 3 offset.toNat ++
            bytesOf 2 accuracy.toNat ++ [validity])) ++ more) =
        some (.echo
          { turnaround := turnaround
            ret := some { offset := offset, accuracy := accuracy, validity := validity } }) ∧
      acceptedResponse false (responseCharacters [0x20#8] ++ more) = some .leave ∧
      acceptedResponse false (responseCharacters [0x30#8] ++ more) = some .distress) ∧
  (∀ (x : Identity) (w : Byte) (more : List LineChar),
    (∀ h : w.toNat < 4,
      acceptedResponse true (responseCharacters (0x40#8 :: (bytesOf 6 x.toNat ++ [w])) ++ more) =
        some (.enrol x (some ⟨w.toNat, h⟩))) ∧
    (w = 0xFF#8 →
      acceptedResponse true (responseCharacters (0x40#8 :: (bytesOf 6 x.toNat ++ [w])) ++ more) =
        some (.enrol x none)) ∧
    (4 ≤ w.toNat → w ≠ 0xFF#8 →
      responseError true ((0x40#8 :: (bytesOf 6 x.toNat ++ [w])).map characterOf ++ more) = some .range)) ∧
  (∀ (openSlot : Bool) (kind : Byte) (more : List LineChar),
    (kind ≠ 0x11#8 ∧ kind ≠ 0x12#8 ∧ kind ≠ 0x20#8 ∧ kind ≠ 0x30#8 ∧ kind ≠ 0x40#8) ∨
      (kind = 0x40#8 ∧ openSlot = false) ∨ (kind ≠ 0x40#8 ∧ openSlot = true) →
    responseError openSlot (characterOf kind :: more) = some .range) ∧
  ∀ (openSlot : Bool) (payload : List Byte) (r : Response), decodeResponse payload = some r →
    (openSlot = true ↔ ∃ x w, r = .enrol x w) →
    acceptedResponse openSlot (responseCharacters payload) = some r ∧
      (∀ (sum : Byte) (more : List LineChar), sum ≠ -(byteSum payload) →
        responseError openSlot ((payload ++ [sum]).map characterOf ++ more) = some .checksum) ∧
      ∀ (before after : List Byte) (c : LineChar) (more : List LineChar),
        payload ++ [-(byteSum payload)] = before ++ dataOf c :: after → c.getLsbD 0 = false →
        responseError openSlot (before.map characterOf ++ c :: more) = some .checksum

/-- A wake pulse starts a PARKED port at any moment and a RUNNING port takes one only in a quiet interval; each then has
a wake window of 64. A SET that turns a port off takes it to DISABLED with its counts at 0 and its line state and runs
kept; one that turns it on takes it to RUNNING when it is bound or in FAULT and to PARKED otherwise (R133 to R135). A
record slot in progress when the port is turned off ends as missing without a slot error: the silent count of a PENDING
or ACTIVE record is lengthened, up to SILENT; a SILENT one keeps its count; a RETIRING one with three attempts at its
DISMISS ends with UNACKNOWLEDGED, and with fewer stays as it was (R108, R114, R133). SILENT_ENTRY and
RETIRE_UNACKNOWLEDGED with that request as their cause are that SET whole, which is the model's choice, as are the values
that a VACANT record holds in the fields that it does not keep (log entries 3 and 46). That both keep the marks of the
frames sent and aborted in that port second, and that turning a port off keeps its last slot error whatever slot is in
progress, are the model's choice (log entries 43 and 47). -/
def Obligations.PortsAreWokenAndTurnedOffAndOn : Prop :=
  (∀ (s : State) (q : PortIx), s.part.held = false →
    ((s.part.port q).state = .parked →
      Completes (.wakePulse q) s
        (s.part.setPort q { s.part.port q with state := .running, idleCount := 0, wakeWindow := 64 })) ∧
    ((s.part.port q).state = .running → (s.part.engine q).activity = .idle →
      Completes (.wakePulse q) s (s.part.setPort q { s.part.port q with wakeWindow := 64 })) ∧
    ((s.part.port q).state = .disabled ∨
        ((s.part.port q).state = .running ∧ (s.part.engine q).activity ≠ .idle) →
      Completes (.wakePulse q) s s.part)) ∧
  ∀ (s : State) (tag index : Byte) (q : PortIx), s.part.Ready → indexOf 12 index = some q →
    ((s.part.port q).state ≠ .disabled →
      (∀ t, (s.part.engine q).target = some t → (s.part.record t.record).generation ≠ t.generation ∨
        (s.part.record t.record).state = .vacant ∨ (s.part.record t.record).state = .reserved) →
      Completes (.setPort tag index [{ field := 1#8, value := [0#8] }]) s
        (((s.part.setPort q
            { s.part.port q with enabled := false, state := .disabled, idleCount := 0, wakeWindow := 0 }).setEngine q
              { s.part.engine q with activity := .idle, target := none, verdict := none }).answer 0x11#8 tag
          { code := .done })) ∧
    (∀ (t : SlotTarget) (r : ServiceRecord) (cause : Cause), (s.part.port q).state ≠ .disabled →
      (s.part.engine q).target = some t → r = s.part.record t.record → r.generation = t.generation →
      r.state ≠ .vacant → r.state ≠ .reserved →
      cause = .request [0x11#8, tag, 2#8, index, 1#8, 1#8, 0#8] →
      ∃ u : State, exec (.setPort tag index [{ field := 1#8, value := [0#8] }]) s = .next u ∧ u.pending = s.pending ∧
        u.part.mgmt = (s.part.answer 0x11#8 tag { code := .done }).mgmt ∧
        u.part.port q =
          { s.part.port q with enabled := false, state := .disabled, idleCount := 0, wakeWindow := 0 } ∧
        u.part.engine q = { s.part.engine q with activity := .idle, target := none, verdict := none } ∧
        (r.state = .pending ∨ r.state = .active →
          (u.part.record t.record).silentCount = r.silentCount + 1 ∧
          (u.part.record t.record).filter = r.filter ∧ (u.part.record t.record).compensation = r.compensation ∧
          (r.silentLimit ≤ r.silentCount + 1 →
            (u.part.record t.record).state = .silent ∧ (u.part.record t.record).silentSeconds = 0 ∧
            hasCondition (u.part.alarm.standingOf (.record t.record)) .silent = true ∧
            exec (.silentEntry t.record cause) s = .next u) ∧
          (r.silentCount + 1 < r.silentLimit → (u.part.record t.record).state = r.state)) ∧
        (r.state = .silent →
          (u.part.record t.record).state = .silent ∧ (u.part.record t.record).silentCount = r.silentCount ∧
          (u.part.record t.record).filter = r.filter ∧ (u.part.record t.record).compensation = r.compensation) ∧
        (r.state = .retiring → t.dismiss = true → 3 ≤ r.dismissAttempts →
          u.part.record t.record = { generation := r.generation } ∧
          exec (.retireUnacknowledged t.record cause) s = .next u ∧
          (s.part.alarm.settings.recordThreshold = some .note →
            u.part.Reported (.record t.record) .retired (fun e => e.detail = some .unacknowledged))) ∧
        (r.state = .retiring → t.dismiss = false ∨ r.dismissAttempts < 3 → u.part.record t.record = r) ∧
        (r.state ≠ .retiring → KeepsOtherRecords t.record s.part u.part ∧ u.part.hub = s.part.hub) ∧
        KeepsOtherPorts q s.part u.part ∧ KeepsBase s.part u.part) ∧
    ((s.part.port q).state = .disabled →
      Completes (.setPort tag index [{ field := 1#8, value := [1#8] }]) s
        ((s.part.setPort q
            { s.part.port q with
              enabled := true, idleCount := 0
              state := if s.part.portBound q = true ∨ (s.part.port q).line = .fault then .running
                else .parked }).answer 0x11#8 tag { code := .done }))

/-- The third consecutive failing port second takes a CLEAN line to FAULT and the tenth consecutive clean one a line in
FAULT to CLEAN, with both runs at 0; the hub then holds PORT_FAULT exactly when some port is in FAULT, and a record on the
port holds LINE_FAULT in FAULT and not in CLEAN (R131, R159). LINE_FAULT_ENTRY and LINE_CLEAN_ENTRY are that boundary (log
entry 3). The pair follows. A working port that faults takes it to SWITCHED_AUTO, or leaves it switched (R160); one that
becomes CLEAN takes a revertive pair in SWITCHED_AUTO to RESTORE_WAIT, or returns it at once with a WTR of 0 or a protect
port in FAULT (R163); a protect port that faults returns the pair to a CLEAN working port (R167). At a boundary at which a
switched pair sweeps, or its working port faults, every candidate is moved or blocked, the first one moved when the
protect port has room and its address is free, and a sweep clears the other blocked flags but those of RETIRING records
(R157, R158, R160, R162). The premises keep the pair's other port from changing at the same boundary. -/
def Obligations.LineStatesMoveAndPairsFollow : Prop :=
  (∀ (s : State) (b : BoundaryArgs) (q : PortIx), s.part.held = false →
    (s.part.Faulting q →
      ∃ t : State, exec (.lineFaultEntry q b) s = .next t ∧ exec (.hubSecondBoundary b) s = .next t ∧
        t.pending = s.pending ∧ (t.part.port q).line = .fault ∧ (t.part.port q).failRun = 0 ∧
        (t.part.port q).cleanRun = 0 ∧ hasCondition t.part.alarm.hubStanding .portFault = true ∧
        ∀ i : RecordIx, (t.part.record i).state ≠ .vacant → (t.part.record i).currentPort = q →
          hasCondition (t.part.alarm.standingOf (.record i)) .lineFault = true) ∧
    (s.part.Clearing q →
      ∃ t : State, exec (.lineCleanEntry q b) s = .next t ∧ exec (.hubSecondBoundary b) s = .next t ∧
        t.pending = s.pending ∧ (t.part.port q).line = .clean ∧ (t.part.port q).failRun = 0 ∧
        (t.part.port q).cleanRun = 0 ∧
        (hasCondition t.part.alarm.hubStanding .portFault = true ↔ ∃ j : PortIx, (t.part.port j).line = .fault) ∧
        ∀ i : RecordIx, (t.part.record i).state ≠ .vacant → (t.part.record i).currentPort = q →
          hasCondition (t.part.alarm.standingOf (.record i)) .lineFault = false)) ∧
  (∀ (s : State) (b : BoundaryArgs) (k : PairIx) (r : PairRecord), s.part.held = false → r = s.part.pair k →
    ∃ t : State, exec (.hubSecondBoundary b) s = .next t ∧ t.pending = s.pending ∧
      (s.part.Faulting (workingPort k) → (s.part.engine (protectPort k)).aborted = false →
        t.part.pair k =
          match r.state with
          | .normal => { r with state := .switchedAuto }
          | .restoreWait => { r with state := .switchedAuto, waitCount := 0 }
          | .switchedAuto => r
          | .switchedManual => r) ∧
      (s.part.Clearing (workingPort k) → r.state = .switchedAuto →
        (s.part.StaysClean (protectPort k) → r.revertive = true → 0 < r.wtr →
          t.part.pair k = { r with state := .restoreWait, waitCount := 0 } ∧
          ∀ i : RecordIx, pairOf (t.part.record i).homePort = k → (t.part.record i).blocked = false) ∧
        ((s.part.StaysClean (protectPort k) ∧ r.revertive = true ∧ r.wtr ≤ 0) ∨
            s.part.StaysFaulted (protectPort k) →
          t.part.pair k = { r with state := .normal, waitCount := 0 } ∧
          ∀ i : RecordIx, (t.part.record i).switched k = false) ∧
        (s.part.StaysClean (protectPort k) → r.revertive = false → t.part.pair k = r)) ∧
      (s.part.Clearing (workingPort k) → r.state = .switchedManual →
        (s.part.engine (protectPort k)).aborted = false → t.part.pair k = r) ∧
      (s.part.Faulting (protectPort k) →
        (s.part.StaysClean (workingPort k) → r.state ≠ .normal →
          t.part.pair k = { r with state := .normal, waitCount := 0 } ∧
          ∀ i : RecordIx, (t.part.record i).switched k = false) ∧
        (s.part.StaysFaulted (workingPort k) → r.state ≠ .restoreWait → t.part.pair k = r))) ∧
  ∀ (s : State) (b : BoundaryArgs) (k : PairIx), s.part.held = false → s.part.NoSlotOpen → s.part.NoneRetires →
    (s.part.engine (protectPort k)).aborted = false →
    ((((s.part.pair k).state = .switchedAuto ∨ (s.part.pair k).state = .switchedManual) ∧
        ((s.part.port (workingPort k)).line = .clean ∨ s.part.StaysFaulted (workingPort k))) ∨
      s.part.Faulting (workingPort k)) →
    ∃ t : State, exec (.hubSecondBoundary b) s = .next t ∧ t.pending = s.pending ∧
      (∀ i : RecordIx, (s.part.record i).candidate k = true →
        ((t.part.record i).switched k = true ∨
          ((t.part.record i).currentPort = workingPort k ∧ (t.part.record i).blocked = true)) ∧
        ((s.part.pair k).state ≠ .restoreWait → (s.part.port (protectPort k)).enabled = true →
          (s.part.port (protectPort k)).line = .clean → s.part.portCount (protectPort k) < 4 →
          s.part.addressFree (protectPort k) (s.part.record i).address = true →
          (∀ j, j < i → (s.part.record j).candidate k = false) → (t.part.record i).switched k = true) ∧
        ((t.part.record i).switched k = true →
          (s.part.alarm.settings.recordThreshold = some .note →
            t.part.Reported (.record i) .switched (fun e => e.ports = some (portMask (protectPort k)))) ∧
          ((s.part.record i).stagedOffset = none → (s.part.record i).stagedShare = none →
            (s.part.record i).state ≠ .silent → t.part.record i = movedRecord k (s.part.record i)))) ∧
      ((s.part.pair k).state = .switchedAuto ∨ (s.part.pair k).state = .switchedManual →
        ∀ i : RecordIx, pairOf (s.part.record i).homePort = k → (s.part.record i).candidate k = false →
          (s.part.record i).state ≠ .retiring → (t.part.record i).blocked = false)

/-- A RUNNING, CLEAN port that is not bound parks at the boundary at which its idle count reaches 64 with no wake window
left, and sends no EPOCH; a RUNNING port that is bound sends EPOCH, with the label, the grade, the hub state, U in whole
ns rounded up to at most 1,000,000, the scale offset and the step flag of the boundary as the Discipline Unit has left
them (R123, R136; log entries 3 and 4). -/
def Obligations.PortsParkOrSendEpochAtTheBoundary : Prop :=
  (∀ (s : State) (b : BoundaryArgs) (q : PortIx), s.part.held = false → (s.part.port q).state = .running →
    (s.part.port q).line = .clean → (s.part.engine q).aborted = false → 64 ≤ (s.part.port q).idleCount + 1 →
    (s.part.port q).wakeWindow ≤ 1 →
    (∀ i : RecordIx, (s.part.record i).state ≠ .vacant →
      pairOf (s.part.record i).homePort ≠ pairOf q ∧ pairOf (s.part.record i).currentPort ≠ pairOf q) →
    ∃ t : State, exec (.portPark q b) s = .next t ∧ exec (.hubSecondBoundary b) s = .next t ∧
      t.pending = s.pending ∧ (t.part.port q).state = .parked ∧
      (t.part.port q).idleCount = min ((s.part.port q).idleCount + 1) 65535 ∧ (t.part.port q).wakeWindow = 0 ∧
      (t.part.engine q).activity = .idle ∧ (t.part.engine q).slot = .epoch) ∧
  ∀ (s : State) (b : BoundaryArgs) (q : PortIx) (i : RecordIx), s.part.held = false → s.part.NoSlotOpen →
    standsBefore (worksOf b) .discipline .ports = true → (s.part.port q).state = .running →
    (s.part.record i).counts q = true → retiresNow (s.part.record i) = false →
    ∃ t : State, exec (.hubSecondBoundary b) s = .next t ∧ t.pending = s.pending ∧
      (t.part.port q).state = .running ∧
      t.part.engine q =
        { slot := .epoch
          activity := .driving
            { kind := .epoch, address := 0
              payload :=
                bytesOf 6 t.part.tb.second ++ [byte t.part.hub.grade.code, byte t.part.hub.state.code] ++
                  signedBytesOf 3 (min (-((-t.part.hub.bound) / 65536)) 1000000) ++
                  signedBytesOf 2 t.part.hub.scaleOffset ++ [if t.part.tb.stepMark then 1#8 else 0#8] } }

/-! ## Protection pairs -/

/-- SWITCH with a usable protect port makes a switch pass and enters SWITCHED_MANUAL: the first candidate is moved when
the protect port counts fewer than four records and its address is free there, and blocked otherwise; every other
candidate is moved or blocked; no other record changes. A move shifts the filter by the protect offset, forms C afresh
and empties the window. With the protect port not usable SWITCH is refused with STATE, and in SWITCHED_MANUAL it changes
nothing (R147, R155, R157, R158, R161). -/
def Obligations.SwitchMovesOrBlocksEveryCandidate : Prop :=
  ∀ (s : State) (tag pair : Byte) (k : PairIx) (moved blocked : RecordIx → ServiceRecord), s.part.Ready →
    indexOf 6 pair = some k →
    (∀ i, moved i =
      { s.part.record i with
        currentPort := protectPort k, blocked := false, outlierRun := 0, window := {}
        filter := (s.part.record i).filter.map (fun f => f + (s.part.record i).protectOffset * 65536)
        compensation := match (s.part.record i).filter with
          | none => 0
          | some f =>
            max 0 (min 131072000000
              (f + (s.part.record i).protectOffset * 65536 + (s.part.record i).staticOffset * 65536)) }) →
    (∀ i, blocked i = { s.part.record i with blocked := true }) →
    ((s.part.port (protectPort k)).enabled = true → (s.part.port (protectPort k)).line = .clean →
      ∃ t : State, exec (.switchPair tag pair) s = .next t ∧ t.pending = s.pending ∧
        t.part.mgmt = (s.part.answer 0x40#8 tag { code := .done, body := [pair, 2#8] }).mgmt ∧
        (t.part.pair k).state = .switchedManual ∧ (t.part.pair k).wtr = (s.part.pair k).wtr ∧
        (t.part.pair k).revertive = (s.part.pair k).revertive ∧ (∀ j, j ≠ k → t.part.pair j = s.part.pair j) ∧
        (∀ i, (s.part.record i).candidate k = false → t.part.record i = s.part.record i) ∧
        ((s.part.pair k).state ≠ .switchedManual → ∀ i, (s.part.record i).candidate k = true →
          (t.part.record i = moved i ∨ t.part.record i = blocked i) ∧
          ((∀ j, j < i → (s.part.record j).candidate k = false) →
            t.part.record i =
              if s.part.portCount (protectPort k) < 4 ∧
                  s.part.addressFree (protectPort k) (s.part.record i).address = true then moved i
              else blocked i)) ∧
        KeepsOtherPorts (protectPort k) s.part t.part ∧ KeepsBase s.part t.part ∧ t.part.hub = s.part.hub ∧
        t.part.slots = s.part.slots ∧ t.part.inputs = s.part.inputs) ∧
    ((s.part.port (protectPort k)).enabled = true → (s.part.port (protectPort k)).line = .clean →
      (s.part.pair k).state = .switchedManual →
      Completes (.switchPair tag pair) s (s.part.answer 0x40#8 tag { code := .done, body := [pair, 2#8] })) ∧
    ((s.part.port (protectPort k)).enabled = false ∨ (s.part.port (protectPort k)).line = .fault →
      Completes (.switchPair tag pair) s (s.part.answer 0x40#8 tag { code := .state }))

/-- RESTORE with the working port CLEAN returns every switched record of the pair to the working port, with the filter
shifted back by the protect offset unless the record is RETIRING, clears every blocked flag of the pair and enters
NORMAL; with the working port in FAULT it is refused with STATE (R147, R165, R166). -/
def Obligations.RestoreReturnsEverySwitchedRecord : Prop :=
  ∀ (s : State) (tag pair : Byte) (k : PairIx), s.part.Ready → indexOf 6 pair = some k →
    ((s.part.port (workingPort k)).line = .clean → (s.part.pair k).state ≠ .normal →
      ∃ t : State, exec (.restorePair tag pair) s = .next t ∧ t.pending = s.pending ∧
        t.part.mgmt = (s.part.answer 0x41#8 tag { code := .done, body := [pair, 0#8] }).mgmt ∧
        t.part.pair k = { s.part.pair k with state := .normal, waitCount := 0 } ∧
        (∀ j, j ≠ k → t.part.pair j = s.part.pair j) ∧
        (∀ i, (s.part.record i).switched k = true →
          ((s.part.record i).state = .retiring →
            t.part.record i = { s.part.record i with currentPort := workingPort k, blocked := false }) ∧
          ((s.part.record i).state ≠ .retiring →
            t.part.record i =
              { s.part.record i with
                currentPort := workingPort k, blocked := false, outlierRun := 0, window := {}
                filter := (s.part.record i).filter.map (fun f => f - (s.part.record i).protectOffset * 65536)
                compensation := match (s.part.record i).filter with
                  | none => 0
                  | some f =>
                    max 0 (min 131072000000
                      (f - (s.part.record i).protectOffset * 65536 +
                        (s.part.record i).staticOffset * 65536)) })) ∧
        (∀ i, (s.part.record i).switched k = false →
          t.part.record i =
            { s.part.record i with
              blocked := if pairOf (s.part.record i).homePort = k then false else (s.part.record i).blocked }) ∧
        t.part.ports = s.part.ports ∧ t.part.engines = s.part.engines ∧ KeepsBase s.part t.part ∧
        t.part.hub = s.part.hub ∧ t.part.slots = s.part.slots ∧ t.part.inputs = s.part.inputs) ∧
    ((s.part.port (workingPort k)).line = .clean → (s.part.pair k).state = .normal →
      Completes (.restorePair tag pair) s (s.part.answer 0x41#8 tag { code := .done, body := [pair, 0#8] })) ∧
    ((s.part.port (workingPort k)).line = .fault →
      Completes (.restorePair tag pair) s (s.part.answer 0x41#8 tag { code := .state }))

/-- A pair in RESTORE_WAIT whose wait count reaches its WTR at a boundary returns at that boundary: it enters NORMAL and
no record stays switched. PAIR_WTR_EXPIRY is that boundary. The premise keeps the pair's ports from faulting at the same
boundary, which R164 lets fall either side (R164; log entry 3). -/
def Obligations.PairReturnsWhenItsWaitExpires : Prop :=
  ∀ (s : State) (b : BoundaryArgs) (k : PairIx), s.part.held = false → (s.part.pair k).state = .restoreWait →
    (s.part.pair k).wtr ≤ (s.part.pair k).waitCount + 1 → (s.part.engine (workingPort k)).aborted = false →
    (s.part.engine (protectPort k)).aborted = false →
    ∃ t : State, exec (.pairWtrExpiry k b) s = .next t ∧ exec (.hubSecondBoundary b) s = .next t ∧
      t.pending = s.pending ∧ t.part.pair k = { s.part.pair k with state := .normal, waitCount := 0 } ∧
      (∀ i, (t.part.record i).switched k = false) ∧
      (s.part.NoSlotOpen → ∀ i, (s.part.record i).switched k = true → retiresNow (s.part.record i) = false →
        (t.part.record i).currentPort = workingPort k ∧ (t.part.record i).state = (s.part.record i).state)

/-! ## Alarm Unit -/

/-- A report at or above its threshold that changes something is merged into its owner's entry where that entry stands,
or forms an entry at the tail; below the threshold the list stays; a clear of a condition that does not stand changes
nothing at all; a standing condition joins or leaves the standing set either way. A coalesced raise adds its record to
the hub's entry (R170 to R176). -/
def Obligations.ReportsJoinTheirOwnersEntry : Prop :=
  (∀ (a : AlarmUnit) (r : Report) (e : Entry) (before after : List Entry), a.list = before ++ e :: after →
    e.owner = r.owner → (∀ x ∈ before ++ after, x.owner ≠ r.owner) → a.passesOn r = true → a.atThreshold r = true →
    (a.take r).list =
      before ++
        { e with
          raised := if r.isRaise then e.raised ||| (1#16 <<< r.condition.bit) else e.raised
          cleared := if r.isRaise then e.cleared else e.cleared ||| (1#16 <<< r.condition.bit)
          severity :=
            if r.isRaise ∧ e.severity.code < r.condition.severity.code then r.condition.severity else e.severity
          ancillary := if r.isRaise then e.ancillary && r.ancillary else e.ancillary
          cause := r.cause
          te := r.te.orElse (fun _ => e.te), slot := r.slot.orElse (fun _ => e.slot)
          ports := r.ports.orElse (fun _ => e.ports), identity := r.identity.orElse (fun _ => e.identity)
          detail := r.detail.orElse (fun _ => e.detail) } :: after) ∧
  (∀ (a : AlarmUnit) (r : Report), (∀ x ∈ a.list, x.owner ≠ r.owner) → a.passesOn r = true →
    a.atThreshold r = true → (a.settings.coalescing = false ∨ r.ancillary = false) →
    (a.take r).list =
      a.list ++
        [{ owner := r.owner, generation := r.generation
           raised := if r.isRaise then 1#16 <<< r.condition.bit else 0
           cleared := if r.isRaise then 0 else 1#16 <<< r.condition.bit
           severity := if r.isRaise then r.condition.severity else .clear
           ancillary := r.isRaise && r.ancillary, cause := r.cause
           te := r.te, slot := r.slot, ports := r.ports, identity := r.identity, detail := r.detail }]) ∧
  (∀ (a : AlarmUnit) (r : Report) (i : RecordIx), r.owner = .record i → (∀ x ∈ a.list, x.owner ≠ .record i) →
    a.settings.coalescing = true → r.isRaise = true → r.ancillary = true → a.atThreshold r = true →
    ((∀ x ∈ a.list, x.owner ≠ .hub) →
      (a.take r).list =
        a.list ++
          [{ owner := .hub, generation := none, raised := 0, cleared := 0, severity := .clear, ancillary := true
             cause := r.cause, affected := some (1#48 <<< i.val) }]) ∧
    ∀ (e : Entry) (before after : List Entry), a.list = before ++ e :: after → e.owner = .hub →
      (∀ x ∈ before ++ after, x.owner ≠ .hub) →
      (a.take r).list =
        before ++
          { e with affected := some (e.affected.getD 0 ||| (1#48 <<< i.val)), cause := r.cause } :: after) ∧
  ∀ (a : AlarmUnit) (r : Report),
    (a.atThreshold r = false → (a.take r).list = a.list) ∧ (a.take r).buffer = a.buffer ∧
    (r.isRaise = false → hasCondition (a.standingOf r.owner) r.condition = false → a.take r = a) ∧
    (r.condition.standing = true →
      (a.take r).standingOf r.owner =
        if r.isRaise then a.standingOf r.owner ||| (1#16 <<< r.condition.bit)
        else a.standingOf r.owner &&& ~~~(1#16 <<< r.condition.bit)) ∧
    (r.condition.standing = false → (a.take r).standingOf r.owner = a.standingOf r.owner) ∧
    ∀ o, o ≠ r.owner → (a.take r).standingOf o = a.standingOf o

/-- ALARM_BUFFER_LOAD moves the head of the list into an empty buffer with its owner's standing set, and does nothing
with the buffer full or the list empty. In PULSE mode a loading gives a pulse, or owes one; a pulse that ends is
followed by one width of rest, and then by an owed pulse when there is one; the MGT line's pulses end and follow alike
(R177, R178, R181, R193; log entry 13). -/
def Obligations.BufferLoadsAndPulsesFollow : Prop :=
  (∀ (s : State) (e : Entry) (rest : List Entry), s.part.held = false → s.part.alarm.buffer = none →
    s.part.alarm.list = e :: rest →
    exec .alarmBufferLoad s =
      .next { s with
        part := { s.part with
          alarm := { s.part.alarm with
            buffer := some { entry := e, standing := s.part.alarm.standingOf e.owner }, list := rest
            alm :=
              match s.part.alarm.settings.almMode, s.part.alarm.alm.phase with
              | .level, _ => s.part.alarm.alm
              | .pulse, .rest =>
                { s.part.alarm.alm with phase := .pulse, width := s.part.alarm.settings.pulseWidth }
              | .pulse, _ => { s.part.alarm.alm with owed := s.part.alarm.alm.owed + 1 } } } }) ∧
  (∀ s : State, s.part.alarm.buffer ≠ none ∨ s.part.alarm.list = [] → exec .alarmBufferLoad s = .next s) ∧
  (∀ (s : State) (l : PulseLine), s.part.alarm.alm = l →
    (l.phase = .pulse →
      Completes .almPulseEnd s { s.part with alarm := { s.part.alarm with alm := { l with phase := .gap } } }) ∧
    (l.phase = .gap →
      Completes .almOwedPulse s
        { s.part with
          alarm := { s.part.alarm with
            alm :=
              if l.owed = 0 then { l with phase := .rest }
              else { phase := .pulse, width := s.part.alarm.settings.pulseWidth, owed := l.owed - 1 } } })) ∧
  ∀ (s : State) (l : PulseLine), s.part.mgmt.mgt = l →
    (l.phase = .pulse →
      Completes .mgtPulseEnd s { s.part with mgmt := { s.part.mgmt with mgt := { l with phase := .gap } } }) ∧
    (l.phase = .gap →
      Completes .mgtOwedPulse s
        { s.part with
          mgmt := { s.part.mgmt with
            mgt :=
              if l.owed = 0 then { l with phase := .rest }
              else { phase := .pulse, width := s.part.alarm.settings.pulseWidth, owed := l.owed - 1 } } })

/-- In LEVEL mode the ALM line is active exactly while the alarm buffer holds a notice, at high level with the default
polarity and at low level with active low; a read followed at once by a loading leaves it active, and the read of the last
notice leaves it inactive (R180). -/
def Obligations.AlmFollowsTheBufferInLevelMode : Prop :=
  (∀ p : Part, p.held = false → p.alarm.settings.almMode = .level →
    (p.almActive = true ↔ p.alarm.buffer ≠ none) ∧
    (p.alarm.settings.almPolarity = .activeHigh →
      lineLevel p.almActive p.alarm.settings.almPolarity = p.almActive) ∧
    (p.alarm.settings.almPolarity = .activeLow →
      lineLevel p.almActive p.alarm.settings.almPolarity = !p.almActive)) ∧
  (({} : AlarmSettings).almPolarity = .activeHigh) ∧
  ∀ (s : State) (n : Notice), s.part.held = false → s.part.alarm.settings.almMode = .level →
    s.part.mgmt.transaction = none → s.part.alarm.buffer = some n →
    ∃ t : State, exec .readA s = .next t ∧ s.part.almActive = true ∧
      (s.part.alarm.list ≠ [] → t.part.almActive = true) ∧ (s.part.alarm.list = [] → t.part.almActive = false)

/-! ## Management Port -/

/-- A transaction begins with the status byte, formed from the state at that instant; a STATUS, or one with an unknown
header, clocks out that byte alone and clears RESET_SEEN; a transaction cut short only ends. A header that comes while a
transaction is open is no event, which is the model's choice (log entries 24 and 31). While a reset input is asserted
the byte shows RESET_SEEN alone, and the flag stays (R186 to R188, R196). -/
def Obligations.TransactionsBeginWithTheStatusByte : Prop :=
  (∀ p : Part, p.held = false →
    p.statusByte.getLsbD 0 = p.mgmt.inbound.isSome ∧ p.statusByte.getLsbD 1 = p.mgmt.reply.isSome ∧
    p.statusByte.getLsbD 2 = p.alarm.buffer.isSome ∧ p.statusByte.getLsbD 3 = p.mgmt.resetSeen ∧
    p.statusByte.getLsbD 4 = !p.alarm.list.isEmpty ∧ p.statusByte.getLsbD 5 = p.almActive ∧
    p.statusByte.getLsbD 6 = p.mgtActive ∧ p.statusByte.getLsbD 7 = false) ∧
  (∀ (s : State) (header : Byte), s.part.held = false → s.part.mgmt.transaction = none →
    header ≠ 2#8 → header ≠ 3#8 → header ≠ 4#8 →
    Completes (.status header) s
        { s.part with mgmt := { s.part.mgmt with resetSeen := false, spiOut := [s.part.statusByte] } } ∧
      Completes (.transactionBegin header) s
        { s.part with
          mgmt := { s.part.mgmt with
            transaction := some { op := .status, judgedOk := true, frame := [], intact := true }
            spiOut := [s.part.statusByte] } }) ∧
  (∀ s : State, s.part.held = false → s.part.mgmt.transaction = none →
    Completes (.transactionBegin 2#8) s
      { s.part with
        mgmt := { s.part.mgmt with
          transaction :=
            some { op := .writeM, judgedOk := s.part.mgmt.inbound.isNone, frame := [], intact := true }
          spiOut := [s.part.statusByte] } }) ∧
  (∀ (s : State) (t : Transaction), s.part.mgmt.transaction = some t →
    Completes .transactionCutShort s { s.part with mgmt := { s.part.mgmt with transaction := none } } ∧
      ∀ header, Completes (.transactionBegin header) s s.part) ∧
  ∀ s : State, s.part.held = true → s.part.mgmt.transaction = none →
    Completes (.status 1#8) s { s.part with mgmt := { s.part.mgmt with spiOut := [0x08#8] } }

/-- A WRITE-M places its frame when the inbound buffer is empty at its header, and the frame waits while a reply is
unread; with the buffer full it is discarded. With no reply unread the request is taken and answered at the instant of
its last byte: LOCK-OSC, STEP-ALLOW and IDENT are shown, and RESTART, whose transaction leaves RESET_SEEN set. A request
taken that names no known code, or has a wrong length, is refused with BAD_REQUEST and changes nothing else. IDENT is
answered with 4820, revision 2, 48, 12, 6, 6 and the kind of the last reset (R188 to R191, R194, R195, R197). A WRITE-M
that completes a transaction begun before follows the judgement of that header, and does nothing with its frame when a
reset has come since; one that comes while another operation is open does nothing. How the command WRITE_M and an open
transaction meet, and that one begun while a reset input was asserted places nothing, are the model's choice (log entries
24, 33 and 48). -/
def Obligations.RequestsArePlacedTakenAndAnswered : Prop :=
  (∀ (s : State) (dt : Nat) (frame : List Byte), s.part.held = false → s.part.mgmt.transaction = none →
    frame.length ≤ 255 →
    (s.part.mgmt.inbound = none → s.part.mgmt.reply ≠ none →
      Completes (.writeM dt frame) s
        { passRaw dt s.part with
          mgmt := { s.part.mgmt with
            inbound := some frame, resetSeen := false, spiOut := [s.part.statusByte] } }) ∧
    (s.part.mgmt.inbound ≠ none →
      Completes (.writeM dt frame) s
        { passRaw dt s.part with
          mgmt := { s.part.mgmt with resetSeen := false, spiOut := [s.part.statusByte] } })) ∧
  (∀ (s : State) (dt : Nat) (tag kind : Byte) (q : Part), s.part.Ready → s.part.mgmt.transaction = none →
    kind =
      (match s.part.mgmt.lastReset with
      | .powerOn => 0#8
      | .warmPin => 1#8
      | .warmRequest => 2#8) →
    q =
      { passRaw dt s.part with
        mgmt := { s.part.mgmt with resetSeen := false, spiOut := [s.part.statusByte] } } →
    Completes (.writeM dt [0x51#8, tag]) s
        ({ q with osc := { s.part.osc with locked := true } }.answer 0x51#8 tag { code := .done }) ∧
      Completes (.writeM dt [0x50#8, tag]) s
        ({ q with hub := { s.part.hub with stepPermission := true } }.answer 0x50#8 tag { code := .done }) ∧
      Completes (.writeM dt [0x01#8, tag]) s
        (q.answer 0x01#8 tag
          { code := .done, body := [0x12#8, 0xD4#8, 0x02#8, 48#8, 12#8, 6#8, 6#8, kind] }) ∧
      Completes (.ident tag) s
        (s.part.answer 0x01#8 tag
          { code := .done, body := [0x12#8, 0xD4#8, 0x02#8, 48#8, 12#8, 6#8, 6#8, kind] }) ∧
      ∃ t : State, exec (.writeM dt [0x02#8, tag]) s = .next t ∧ t.pending = s.pending ∧
        t.part.mgmt.inbound = none ∧ t.part.mgmt.reply = some [0x05#8, 0x02#8, 0x02#8, tag, 0x00#8, 0x00#8] ∧
        t.part.mgmt.resetSeen = true ∧ t.part.mgmt.lastReset = .warmRequest ∧ t.part.mgmt.transaction = none ∧
        t.part.mgmt.spiOut = [s.part.statusByte] ∧ t.part.slots = resetSlots ∧ t.part.selected = none) ∧
  (∀ (s : State) (dt : Nat) (code tag : Byte) (body : List Byte), s.part.Ready → body.length ≤ 253 →
    lengthAllowed code.toNat (body.length + 2) ≠ some true →
    Completes (.unknownRequest (code :: tag :: body)) s (s.part.answer code tag { code := .badRequest }) ∧
    (s.part.mgmt.transaction = none →
      Completes (.writeM dt (code :: tag :: body)) s
        ({ passRaw dt s.part with
            mgmt := { s.part.mgmt with resetSeen := false, spiOut := [s.part.statusByte] } }.answer code tag
          { code := .badRequest }))) ∧
  ∀ (s : State) (dt : Nat) (frame : List Byte) (tr : Transaction) (closed : MgmtPort), s.part.held = false →
    s.part.mgmt.transaction = some tr → frame.length ≤ 255 →
    closed =
      { s.part.mgmt with
        transaction := none, resetSeen := s.part.mgmt.resetSeen && !tr.intact
        spiOut := s.part.mgmt.spiOut ++ tr.frame } →
    (tr.op = .writeM → tr.judgedOk = true → tr.intact = true → s.part.mgmt.inbound = none →
      (s.part.mgmt.reply ≠ none →
        Completes (.writeM dt frame) s
          { passRaw dt s.part with mgmt := { closed with inbound := some frame } }) ∧
      (s.part.mgmt.reply = none → ∀ tag : Byte, frame = [0x51#8, tag] →
        Completes (.writeM dt frame) s
          ({ passRaw dt s.part with osc := { s.part.osc with locked := true }, mgmt := closed }.answer 0x51#8 tag
            { code := .done }))) ∧
    (tr.op = .writeM → tr.judgedOk = false ∨ tr.intact = false →
      Completes (.writeM dt frame) s { passRaw dt s.part with mgmt := closed }) ∧
    (tr.op ≠ .writeM → Completes (.writeM dt frame) s (passRaw dt s.part))

/-- A READ-M that began with a reply waiting clocks it out and empties the buffer, and a waiting request is taken and
answered at that instant, LOCK-OSC and a refused request being shown; a READ-A that began with a notice waiting clocks
it out and frees the buffer, and the next head is loaded at that instant. With nothing waiting each clocks out a NONE
frame and changes nothing more. A read that completes a transaction begun before clocks out the frame of that header:
with nothing judged waiting there, or a reset since, the buffer stays as it is (R177, R179, R188, R190, R192, R197). How
the commands READ_M and READ_A and an open transaction meet, that one begun while a reset input was asserted frees
nothing, and that a read in which a reset fell clocks out its frame whole, are the model's choice (log entries 24, 33, 48
and 50). -/
def Obligations.ReadsEmptyTheirBuffers : Prop :=
  (∀ (s : State) (dt : Nat), s.part.held = false → s.part.mgmt.transaction = none →
    (∀ f : List Byte, s.part.mgmt.reply = some f → s.part.mgmt.inbound = none →
      Completes (.readM dt) s
        { passRaw dt s.part with
          mgmt := { s.part.mgmt with reply := none, resetSeen := false, spiOut := s.part.statusByte :: f } }) ∧
    (∀ (f body : List Byte) (code tag : Byte), s.part.mgmt.reply = some f →
      s.part.mgmt.inbound = some (code :: tag :: body) → lengthAllowed code.toNat (body.length + 2) ≠ some true →
      Completes (.readM dt) s
        ({ passRaw dt s.part with
            mgmt := { s.part.mgmt with
              inbound := none, resetSeen := false, spiOut := s.part.statusByte :: f } }.answer code tag
          { code := .badRequest })) ∧
    (∀ (f : List Byte) (tag : Byte), s.part.mgmt.reply = some f → s.part.mgmt.inbound = some [0x51#8, tag] →
      Completes (.readM dt) s
        ({ passRaw dt s.part with
            osc := { s.part.osc with locked := true }
            mgmt := { s.part.mgmt with
              inbound := none, resetSeen := false, spiOut := s.part.statusByte :: f } }.answer 0x51#8 tag
          { code := .done })) ∧
    (s.part.mgmt.reply = none →
      Completes (.readM dt) s
        { passRaw dt s.part with
          mgmt := { s.part.mgmt with resetSeen := false, spiOut := [s.part.statusByte, 0x01#8, 0x00#8] } })) ∧
  (∀ s : State, s.part.held = false → s.part.mgmt.transaction = none →
    (∀ n : Notice, s.part.alarm.buffer = some n → s.part.alarm.list = [] →
      exec .readA s =
        .next { s with
          part := { s.part with
            alarm := { s.part.alarm with buffer := none }
            mgmt := { s.part.mgmt with resetSeen := false, spiOut := s.part.statusByte :: noticeFrame n } } }) ∧
    (∀ (n : Notice) (e : Entry) (rest : List Entry), s.part.alarm.buffer = some n → s.part.alarm.list = e :: rest →
      exec .readA s =
        .next { s with
          part := { s.part with
            alarm := { s.part.alarm with
              buffer := some { entry := e, standing := s.part.alarm.standingOf e.owner }, list := rest
              alm := s.part.alarm.alm.load s.part.alarm.settings.almMode s.part.alarm.settings.pulseWidth }
            mgmt := { s.part.mgmt with resetSeen := false, spiOut := s.part.statusByte :: noticeFrame n } } }) ∧
    (s.part.alarm.buffer = none →
      Completes .readA s
        { s.part with
          mgmt := { s.part.mgmt with resetSeen := false, spiOut := [s.part.statusByte, 0x01#8, 0x00#8] } })) ∧
  ∀ (s : State) (dt : Nat) (tr : Transaction) (closed : MgmtPort), s.part.held = false →
    s.part.mgmt.transaction = some tr →
    closed =
      { s.part.mgmt with
        transaction := none, resetSeen := s.part.mgmt.resetSeen && !tr.intact
        spiOut := s.part.mgmt.spiOut ++ tr.frame } →
    (tr.op = .readM →
      (tr.judgedOk = true → tr.intact = true → s.part.mgmt.inbound = none →
        Completes (.readM dt) s { passRaw dt s.part with mgmt := { closed with reply := none } }) ∧
      (tr.judgedOk = false ∨ tr.intact = false →
        Completes (.readM dt) s { passRaw dt s.part with mgmt := closed })) ∧
    (tr.op = .readA →
      (tr.judgedOk = true → tr.intact = true → s.part.alarm.list = [] →
        exec .readA s =
          .next { s with part := { s.part with alarm := { s.part.alarm with buffer := none }, mgmt := closed } }) ∧
      (tr.judgedOk = false ∨ tr.intact = false → Completes .readA s { s.part with mgmt := closed })) ∧
    (tr.op ≠ .readM → Completes (.readM dt) s (passRaw dt s.part)) ∧
    (tr.op ≠ .readA → Completes .readA s s.part)

/-! ## Invariants -/

/-- F, y, f_avg and both corrections stay within ±50,000 ppb, U within 10^9 ns, and every C within 0 to 2,000,000 ns
(R80, R84, R146). -/
def Obligations.FiguresStayWithinTheirLimits : Prop :=
  KeptByEveryStep WithinLimits ∧ KeptByEveryStep CompensationInRange

/-- The selected slot stays the one that R58 and R59 choose, the hub record names it, and the hub state fits it (R58 to
R60, R68). -/
def Obligations.SelectionAlwaysAgrees : Prop := KeptByEveryStep SelectionAgrees

/-- No two records ever count against one port at one address, and no two hold one identity (R94). -/
def Obligations.RecordLawsHoldAtEveryStep : Prop := KeptByEveryStep RecordLaws

/-- The slot's half and the record's half of a return binding agree after every step (R54 to R56, R116). -/
def Obligations.ReturnBindingsAlwaysAgree : Prop := KeptByEveryStep BindingsAgree

/-- The pending list never holds two entries of one owner (R173). -/
def Obligations.ListHoldsOneEntryPerOwner : Prop := KeptByEveryStep OneEntryPerOwner

/-- Every invariant holds of the machine right after reset. -/
def Obligations.ResetMeetsEveryInvariant : Prop :=
  WithinLimits State.reset.part ∧ CompensationInRange State.reset.part ∧ SelectionAgrees State.reset.part ∧
    RecordLaws State.reset.part ∧ BindingsAgree State.reset.part ∧ OneEntryPerOwner State.reset.part

end Statements
end

