-- ==== Sys2Proof/Laws/Alarm.lean ====
section
/-! SUPPORT. Laws of the Alarm Unit: standing sets, what a report leaves as it stands, and the owners of the list. -/

namespace Sys2Proof.Machine

variable (a : AlarmUnit) (r : Report)

/-! ## Standing sets -/

theorem standingOf_setStanding (o x : Owner) (m : BitVec 16) :
    (a.setStanding o m).standingOf x = if o = x then m else a.standingOf x := by
  cases o <;> cases x <;>
    simp [AlarmUnit.setStanding, AlarmUnit.standingOf, Vector.getElem_set, Fin.val_inj, eq_comm]

@[simp] theorem setStanding_list (o : Owner) (m : BitVec 16) : (a.setStanding o m).list = a.list := by cases o <;> rfl
@[simp] theorem setStanding_buffer (o : Owner) (m : BitVec 16) : (a.setStanding o m).buffer = a.buffer := by
  cases o <;> rfl
@[simp] theorem setStanding_settings (o : Owner) (m : BitVec 16) : (a.setStanding o m).settings = a.settings := by
  cases o <;> rfl
@[simp] theorem setStanding_alm (o : Owner) (m : BitVec 16) : (a.setStanding o m).alm = a.alm := by cases o <;> rfl

@[simp] theorem updateStanding_list : (a.updateStanding r).list = a.list := by
  unfold AlarmUnit.updateStanding; split <;> (try split) <;> simp
@[simp] theorem updateStanding_buffer : (a.updateStanding r).buffer = a.buffer := by
  unfold AlarmUnit.updateStanding; split <;> (try split) <;> simp
@[simp] theorem updateStanding_settings : (a.updateStanding r).settings = a.settings := by
  unfold AlarmUnit.updateStanding; split <;> (try split) <;> simp
@[simp] theorem updateStanding_alm : (a.updateStanding r).alm = a.alm := by
  unfold AlarmUnit.updateStanding; split <;> (try split) <;> simp

/-! ## Entries -/

@[simp] theorem putEntry_standing (o x : Owner) (f : Entry → Entry) (e : Entry) :
    (a.putEntry o f e).standingOf x = a.standingOf x := by
  unfold AlarmUnit.putEntry; split <;> cases x <;> rfl
@[simp] theorem putEntry_buffer (o : Owner) (f : Entry → Entry) (e : Entry) : (a.putEntry o f e).buffer = a.buffer := by
  unfold AlarmUnit.putEntry; split <;> rfl
@[simp] theorem putEntry_settings (o : Owner) (f : Entry → Entry) (e : Entry) :
    (a.putEntry o f e).settings = a.settings := by
  unfold AlarmUnit.putEntry; split <;> rfl
@[simp] theorem putEntry_alm (o : Owner) (f : Entry → Entry) (e : Entry) : (a.putEntry o f e).alm = a.alm := by
  unfold AlarmUnit.putEntry; split <;> rfl

@[simp] theorem enter_standing (x : Owner) : (a.enter r).standingOf x = a.standingOf x := by
  unfold AlarmUnit.enter; split <;> simp
@[simp] theorem enter_buffer : (a.enter r).buffer = a.buffer := by unfold AlarmUnit.enter; split <;> simp
@[simp] theorem enter_settings : (a.enter r).settings = a.settings := by unfold AlarmUnit.enter; split <;> simp
@[simp] theorem enter_alm : (a.enter r).alm = a.alm := by unfold AlarmUnit.enter; split <;> simp

/-! ## A report as a whole -/

@[simp] theorem take_buffer : (a.take r).buffer = a.buffer := by
  unfold AlarmUnit.take; split <;> (try split) <;> simp
@[simp] theorem take_settings : (a.take r).settings = a.settings := by
  unfold AlarmUnit.take; split <;> (try split) <;> simp
@[simp] theorem take_alm : (a.take r).alm = a.alm := by
  unfold AlarmUnit.take; split <;> (try split) <;> simp

/-- A report moves the standing sets as `updateStanding` does, when it is passed on, and not at all otherwise (R170). -/
theorem take_standingOf (x : Owner) :
    (a.take r).standingOf x = if a.passesOn r then (a.updateStanding r).standingOf x else a.standingOf x := by
  unfold AlarmUnit.take
  split
  · split <;> simp
  · rfl

/-- A report below its threshold, or not passed on, leaves the list (R170, R171). -/
theorem take_list_of_not (h : a.passesOn r = false ∨ a.atThreshold r = false) : (a.take r).list = a.list := by
  unfold AlarmUnit.take
  split
  · split
    · rename_i hp ht
      rcases h with h | h
      · simp [h] at hp
      · simp [h] at ht
    · simp
  · rfl

/-- The owners of the list after an entry is put: as they were, with the owner at the tail when it had no entry (R173). -/
theorem putEntry_owners (o : Owner) (f : Entry → Entry) (e : Entry) (hf : ∀ x, (f x).owner = x.owner)
    (he : e.owner = o) :
    (a.putEntry o f e).list.map Entry.owner =
      if a.hasEntry o then a.list.map Entry.owner else a.list.map Entry.owner ++ [o] := by
  unfold AlarmUnit.putEntry
  split
  · simp only [List.map_map]
    apply List.map_congr_left
    intro x _
    simp only [Function.comp]
    split
    · exact hf x
    · rfl
  · simp [he]

/-- An owner has an entry exactly when it is among the owners of the list. -/
theorem hasEntry_iff (o : Owner) : a.hasEntry o = true ↔ o ∈ a.list.map Entry.owner := by
  simp [AlarmUnit.hasEntry, List.any_eq_true, List.mem_map]

/-- Putting an entry keeps the list at one entry for each owner (R173). -/
theorem putEntry_nodup (o : Owner) (f : Entry → Entry) (e : Entry) (hf : ∀ x, (f x).owner = x.owner) (he : e.owner = o)
    (h : (a.list.map Entry.owner).Nodup) : ((a.putEntry o f e).list.map Entry.owner).Nodup := by
  rw [putEntry_owners a o f e hf he]
  split
  · exact h
  · rename_i hn
    rw [hasEntry_iff] at hn
    rw [List.nodup_append]
    exact ⟨h, by simp, by simp_all⟩

end Sys2Proof.Machine
end

