-- ==== Sys2Proof/Laws/Arith.lean ====
section
/-! SUPPORT. Laws of the arithmetic: what clamping and rounding keep, and that the bytes of a number spell it. -/

namespace Sys2Proof.Machine

/-- A clamped number lies in its range. -/
theorem clampTo_between {lo hi : Int} (h : lo ≤ hi) (x : Int) : lo ≤ clampTo lo hi x ∧ clampTo lo hi x ≤ hi := by
  unfold clampTo
  omega

/-- A number in the range is not clamped. -/
theorem clampTo_eq_self {lo hi x : Int} (h : lo ≤ x) (k : x ≤ hi) : clampTo lo hi x = x := by
  unfold clampTo
  omega

/-- F and y stay within ±50,000 ppb (R80). -/
theorem magnitude_clampCorrection (x : Int) : magnitude (clampCorrection x) ≤ correctionLimit := by
  unfold clampCorrection clampTo magnitude correctionLimit
  split <;> omega

/-- U stays within 10^9 ns (R84). -/
theorem saturateBound_le (u : Int) : saturateBound u ≤ boundCeiling := by
  unfold saturateBound
  omega

/-- Rounding to nearest is off by at most half the divisor (R2). -/
theorem roundDiv_near {d : Int} (h : 0 < d) (n : Int) :
    -d ≤ 2 * (roundDiv n d * d - n) ∧ 2 * (roundDiv n d * d - n) ≤ d := by
  have key : ∀ m : Int, -d ≤ 2 * ((2 * m + d) / (2 * d) * d - m) ∧ 2 * ((2 * m + d) / (2 * d) * d - m) ≤ d := by
    intro m
    have h1 := Int.emod_add_mul_ediv (2 * m + d) (2 * d)
    have h2 := Int.emod_nonneg (2 * m + d) (show 2 * d ≠ 0 by omega)
    have h3 := Int.emod_lt_of_pos (2 * m + d) (show 0 < 2 * d by omega)
    have h4 : 2 * d * ((2 * m + d) / (2 * d)) = 2 * ((2 * m + d) / (2 * d) * d) := by ring
    omega
  unfold roundDiv
  split
  · exact key n
  · have := key (-n)
    have h5 : -((2 * -n + d) / (2 * d)) * d = -((2 * -n + d) / (2 * d) * d) := by ring
    omega

/-- A number divided by one is itself. -/
theorem roundDiv_one (n : Int) : roundDiv n 1 = n := by
  have := roundDiv_near (show (0 : Int) < 1 by omega) n
  omega

/-! ## Bytes (R198) -/

@[simp] theorem length_bytesOf (w n : Nat) : (bytesOf w n).length = w := by
  induction w generalizing n with
  | zero => rfl
  | succ k ih => simp [bytesOf, ih]

@[simp] theorem length_signedBytesOf (w : Nat) (z : Int) : (signedBytesOf w z).length = w := length_bytesOf w _

/-- Appending to a number's bytes. -/
theorem numberOf_foldl (bytes : List Byte) (n : Nat) :
    bytes.foldl (fun n b => n * 256 + b.toNat) n = n * 256 ^ bytes.length + numberOf bytes := by
  induction bytes generalizing n with
  | nil => simp [numberOf]
  | cons b rest ih =>
    simp only [List.foldl_cons, numberOf, List.length_cons]
    rw [ih, ih (0 * 256 + b.toNat), pow_succ]
    ring

/-- The bytes of a number spell it, modulo their range. -/
theorem numberOf_bytesOf (w n : Nat) : numberOf (bytesOf w n) = n % 256 ^ w := by
  induction w generalizing n with
  | zero => simp [bytesOf, numberOf, Nat.mod_one]
  | succ k ih =>
    have : numberOf (bytesOf (k + 1) n) = (n / 256 ^ k % 256) * 256 ^ k + n % 256 ^ k := by
      unfold numberOf bytesOf
      rw [List.foldl_cons, numberOf_foldl, ih, length_bytesOf]
      simp
    rw [this, pow_succ, Nat.mod_mul]
    ring

/-- The bytes of a signed number that fits spell it. -/
theorem signedNumberOf_signedBytesOf (w : Nat) (z : Int) (h : -(256 ^ w : Nat) ≤ 2 * z) (k : 2 * z < (256 ^ w : Nat)) :
    signedNumberOf (signedBytesOf w z) = z := by
  have hpos : 0 < 256 ^ w := Nat.pow_pos (by omega)
  have hn : numberOf (signedBytesOf w z) = (z % (256 ^ w : Nat)).toNat := by
    unfold signedBytesOf
    rw [numberOf_bytesOf]
    apply Nat.mod_eq_of_lt
    have := Int.emod_lt_of_pos z (show (0 : Int) < (256 ^ w : Nat) by exact_mod_cast hpos)
    have := Int.emod_nonneg z (show ((256 ^ w : Nat) : Int) ≠ 0 by exact_mod_cast hpos.ne')
    omega
  unfold signedNumberOf
  simp only [hn, length_signedBytesOf]
  generalize 256 ^ w = r at *
  by_cases hz : 0 ≤ z
  · have : z % (r : Int) = z := Int.emod_eq_of_lt hz (by omega)
    rw [this, if_pos (by omega)]
    omega
  · have : z % (r : Int) = z + r := by
      rw [← Int.add_emod_right, Int.emod_eq_of_lt (by omega) (by omega)]
    rw [this, if_neg (by omega)]
    omega

/-- The bytes of a reported number that fits spell it; one that does not fit is free (log entry 28). -/
theorem signedNumberOf_reportedBytes (w : Nat) (z : Int) (h : -(256 ^ w : Nat) ≤ 2 * z) (k : 2 * z < (256 ^ w : Nat)) :
    signedNumberOf (reportedBytes w z) = z := by
  rw [reportedBytes, if_pos ⟨h, k⟩, signedNumberOf_signedBytesOf w z h k]

/-- A reported number fills its width, whether or not it fits. -/
@[simp] theorem length_reportedBytes (w : Nat) (z : Int) : (reportedBytes w z).length = w := by
  unfold reportedBytes
  split <;> simp

end Sys2Proof.Machine
end

