-- ==== Sys2Proof/Laws/State.lean ====
section
/-! SUPPORT. Laws of the state: what each update leaves as it stands, field by field, and what one record of a table reads
as after a write. -/

namespace Sys2Proof.Machine

variable (p : Part)

/-! ## Writing one record of `records` -/

@[simp] theorem setRecord_tb (i : RecordIx) (r : ServiceRecord) : (p.setRecord i r).tb = p.tb := rfl
@[simp] theorem setRecord_osc (i : RecordIx) (r : ServiceRecord) : (p.setRecord i r).osc = p.osc := rfl
@[simp] theorem setRecord_lineClock (i : RecordIx) (r : ServiceRecord) :
    (p.setRecord i r).lineClock = p.lineClock := rfl
@[simp] theorem setRecord_inputs (i : RecordIx) (r : ServiceRecord) : (p.setRecord i r).inputs = p.inputs := rfl
@[simp] theorem setRecord_slots (i : RecordIx) (r : ServiceRecord) : (p.setRecord i r).slots = p.slots := rfl
@[simp] theorem setRecord_selected (i : RecordIx) (r : ServiceRecord) : (p.setRecord i r).selected = p.selected := rfl
@[simp] theorem setRecord_hub (i : RecordIx) (r : ServiceRecord) : (p.setRecord i r).hub = p.hub := rfl
@[simp] theorem setRecord_ports (i : RecordIx) (r : ServiceRecord) : (p.setRecord i r).ports = p.ports := rfl
@[simp] theorem setRecord_engines (i : RecordIx) (r : ServiceRecord) : (p.setRecord i r).engines = p.engines := rfl
@[simp] theorem setRecord_pairs (i : RecordIx) (r : ServiceRecord) : (p.setRecord i r).pairs = p.pairs := rfl
@[simp] theorem setRecord_alarm (i : RecordIx) (r : ServiceRecord) : (p.setRecord i r).alarm = p.alarm := rfl
@[simp] theorem setRecord_mgmt (i : RecordIx) (r : ServiceRecord) : (p.setRecord i r).mgmt = p.mgmt := rfl
@[simp] theorem setRecord_porn (i : RecordIx) (r : ServiceRecord) : (p.setRecord i r).porn = p.porn := rfl
@[simp] theorem setRecord_wrst (i : RecordIx) (r : ServiceRecord) : (p.setRecord i r).wrst = p.wrst := rfl
@[simp] theorem setRecord_slot (i : RecordIx) (r : ServiceRecord) (j : SlotIx) :
    (p.setRecord i r).slot j = p.slot j := rfl
@[simp] theorem setRecord_input (i : RecordIx) (r : ServiceRecord) (j : SlotIx) :
    (p.setRecord i r).input j = p.input j := rfl
@[simp] theorem setRecord_port (i : RecordIx) (r : ServiceRecord) (j : PortIx) :
    (p.setRecord i r).port j = p.port j := rfl
@[simp] theorem setRecord_engine (i : RecordIx) (r : ServiceRecord) (j : PortIx) :
    (p.setRecord i r).engine j = p.engine j := rfl
@[simp] theorem setRecord_pair (i : RecordIx) (r : ServiceRecord) (j : PairIx) :
    (p.setRecord i r).pair j = p.pair j := rfl
@[simp] theorem setRecord_held (i : RecordIx) (r : ServiceRecord) : (p.setRecord i r).held = p.held := rfl

theorem record_setRecord (i j : RecordIx) (r : ServiceRecord) :
    (p.setRecord i r).record j = if i = j then r else p.record j := by
  simp only [Part.record, Part.setRecord, Vector.getElem_set, Fin.val_inj]

@[simp] theorem record_setRecord_self (i : RecordIx) (r : ServiceRecord) : (p.setRecord i r).record i = r := by simp [record_setRecord]

theorem record_setRecord_ne {i j : RecordIx} (h : i ≠ j) (r : ServiceRecord) : (p.setRecord i r).record j = p.record j := by
  simp [record_setRecord, h]

/-! ## Writing one record of `slots` -/

@[simp] theorem setSlot_tb (k : SlotIx) (r : SlotRecord) : (p.setSlot k r).tb = p.tb := rfl
@[simp] theorem setSlot_osc (k : SlotIx) (r : SlotRecord) : (p.setSlot k r).osc = p.osc := rfl
@[simp] theorem setSlot_lineClock (k : SlotIx) (r : SlotRecord) : (p.setSlot k r).lineClock = p.lineClock := rfl
@[simp] theorem setSlot_inputs (k : SlotIx) (r : SlotRecord) : (p.setSlot k r).inputs = p.inputs := rfl
@[simp] theorem setSlot_selected (k : SlotIx) (r : SlotRecord) : (p.setSlot k r).selected = p.selected := rfl
@[simp] theorem setSlot_hub (k : SlotIx) (r : SlotRecord) : (p.setSlot k r).hub = p.hub := rfl
@[simp] theorem setSlot_records (k : SlotIx) (r : SlotRecord) : (p.setSlot k r).records = p.records := rfl
@[simp] theorem setSlot_ports (k : SlotIx) (r : SlotRecord) : (p.setSlot k r).ports = p.ports := rfl
@[simp] theorem setSlot_engines (k : SlotIx) (r : SlotRecord) : (p.setSlot k r).engines = p.engines := rfl
@[simp] theorem setSlot_pairs (k : SlotIx) (r : SlotRecord) : (p.setSlot k r).pairs = p.pairs := rfl
@[simp] theorem setSlot_alarm (k : SlotIx) (r : SlotRecord) : (p.setSlot k r).alarm = p.alarm := rfl
@[simp] theorem setSlot_mgmt (k : SlotIx) (r : SlotRecord) : (p.setSlot k r).mgmt = p.mgmt := rfl
@[simp] theorem setSlot_porn (k : SlotIx) (r : SlotRecord) : (p.setSlot k r).porn = p.porn := rfl
@[simp] theorem setSlot_wrst (k : SlotIx) (r : SlotRecord) : (p.setSlot k r).wrst = p.wrst := rfl
@[simp] theorem setSlot_record (k : SlotIx) (r : SlotRecord) (j : RecordIx) :
    (p.setSlot k r).record j = p.record j := rfl
@[simp] theorem setSlot_input (k : SlotIx) (r : SlotRecord) (j : SlotIx) : (p.setSlot k r).input j = p.input j := rfl
@[simp] theorem setSlot_port (k : SlotIx) (r : SlotRecord) (j : PortIx) : (p.setSlot k r).port j = p.port j := rfl
@[simp] theorem setSlot_engine (k : SlotIx) (r : SlotRecord) (j : PortIx) :
    (p.setSlot k r).engine j = p.engine j := rfl
@[simp] theorem setSlot_pair (k : SlotIx) (r : SlotRecord) (j : PairIx) : (p.setSlot k r).pair j = p.pair j := rfl
@[simp] theorem setSlot_held (k : SlotIx) (r : SlotRecord) : (p.setSlot k r).held = p.held := rfl

theorem slot_setSlot (k j : SlotIx) (r : SlotRecord) :
    (p.setSlot k r).slot j = if k = j then r else p.slot j := by
  simp only [Part.slot, Part.setSlot, Vector.getElem_set, Fin.val_inj]

@[simp] theorem slot_setSlot_self (k : SlotIx) (r : SlotRecord) : (p.setSlot k r).slot k = r := by simp [slot_setSlot]

theorem slot_setSlot_ne {k j : SlotIx} (h : k ≠ j) (r : SlotRecord) : (p.setSlot k r).slot j = p.slot j := by
  simp [slot_setSlot, h]

/-! ## Writing one record of `inputs` -/

@[simp] theorem setInput_tb (k : SlotIx) (r : SlotInput) : (p.setInput k r).tb = p.tb := rfl
@[simp] theorem setInput_osc (k : SlotIx) (r : SlotInput) : (p.setInput k r).osc = p.osc := rfl
@[simp] theorem setInput_lineClock (k : SlotIx) (r : SlotInput) : (p.setInput k r).lineClock = p.lineClock := rfl
@[simp] theorem setInput_slots (k : SlotIx) (r : SlotInput) : (p.setInput k r).slots = p.slots := rfl
@[simp] theorem setInput_selected (k : SlotIx) (r : SlotInput) : (p.setInput k r).selected = p.selected := rfl
@[simp] theorem setInput_hub (k : SlotIx) (r : SlotInput) : (p.setInput k r).hub = p.hub := rfl
@[simp] theorem setInput_records (k : SlotIx) (r : SlotInput) : (p.setInput k r).records = p.records := rfl
@[simp] theorem setInput_ports (k : SlotIx) (r : SlotInput) : (p.setInput k r).ports = p.ports := rfl
@[simp] theorem setInput_engines (k : SlotIx) (r : SlotInput) : (p.setInput k r).engines = p.engines := rfl
@[simp] theorem setInput_pairs (k : SlotIx) (r : SlotInput) : (p.setInput k r).pairs = p.pairs := rfl
@[simp] theorem setInput_alarm (k : SlotIx) (r : SlotInput) : (p.setInput k r).alarm = p.alarm := rfl
@[simp] theorem setInput_mgmt (k : SlotIx) (r : SlotInput) : (p.setInput k r).mgmt = p.mgmt := rfl
@[simp] theorem setInput_porn (k : SlotIx) (r : SlotInput) : (p.setInput k r).porn = p.porn := rfl
@[simp] theorem setInput_wrst (k : SlotIx) (r : SlotInput) : (p.setInput k r).wrst = p.wrst := rfl
@[simp] theorem setInput_record (k : SlotIx) (r : SlotInput) (j : RecordIx) :
    (p.setInput k r).record j = p.record j := rfl
@[simp] theorem setInput_slot (k : SlotIx) (r : SlotInput) (j : SlotIx) : (p.setInput k r).slot j = p.slot j := rfl
@[simp] theorem setInput_port (k : SlotIx) (r : SlotInput) (j : PortIx) : (p.setInput k r).port j = p.port j := rfl
@[simp] theorem setInput_engine (k : SlotIx) (r : SlotInput) (j : PortIx) :
    (p.setInput k r).engine j = p.engine j := rfl
@[simp] theorem setInput_pair (k : SlotIx) (r : SlotInput) (j : PairIx) : (p.setInput k r).pair j = p.pair j := rfl
@[simp] theorem setInput_held (k : SlotIx) (r : SlotInput) : (p.setInput k r).held = p.held := rfl

theorem input_setInput (k j : SlotIx) (r : SlotInput) :
    (p.setInput k r).input j = if k = j then r else p.input j := by
  simp only [Part.input, Part.setInput, Vector.getElem_set, Fin.val_inj]

@[simp] theorem input_setInput_self (k : SlotIx) (r : SlotInput) : (p.setInput k r).input k = r := by simp [input_setInput]

theorem input_setInput_ne {k j : SlotIx} (h : k ≠ j) (r : SlotInput) : (p.setInput k r).input j = p.input j := by
  simp [input_setInput, h]

/-! ## Writing one record of `ports` -/

@[simp] theorem setPort_tb (q : PortIx) (r : PortRecord) : (p.setPort q r).tb = p.tb := rfl
@[simp] theorem setPort_osc (q : PortIx) (r : PortRecord) : (p.setPort q r).osc = p.osc := rfl
@[simp] theorem setPort_lineClock (q : PortIx) (r : PortRecord) : (p.setPort q r).lineClock = p.lineClock := rfl
@[simp] theorem setPort_inputs (q : PortIx) (r : PortRecord) : (p.setPort q r).inputs = p.inputs := rfl
@[simp] theorem setPort_slots (q : PortIx) (r : PortRecord) : (p.setPort q r).slots = p.slots := rfl
@[simp] theorem setPort_selected (q : PortIx) (r : PortRecord) : (p.setPort q r).selected = p.selected := rfl
@[simp] theorem setPort_hub (q : PortIx) (r : PortRecord) : (p.setPort q r).hub = p.hub := rfl
@[simp] theorem setPort_records (q : PortIx) (r : PortRecord) : (p.setPort q r).records = p.records := rfl
@[simp] theorem setPort_engines (q : PortIx) (r : PortRecord) : (p.setPort q r).engines = p.engines := rfl
@[simp] theorem setPort_pairs (q : PortIx) (r : PortRecord) : (p.setPort q r).pairs = p.pairs := rfl
@[simp] theorem setPort_alarm (q : PortIx) (r : PortRecord) : (p.setPort q r).alarm = p.alarm := rfl
@[simp] theorem setPort_mgmt (q : PortIx) (r : PortRecord) : (p.setPort q r).mgmt = p.mgmt := rfl
@[simp] theorem setPort_porn (q : PortIx) (r : PortRecord) : (p.setPort q r).porn = p.porn := rfl
@[simp] theorem setPort_wrst (q : PortIx) (r : PortRecord) : (p.setPort q r).wrst = p.wrst := rfl
@[simp] theorem setPort_record (q : PortIx) (r : PortRecord) (j : RecordIx) :
    (p.setPort q r).record j = p.record j := rfl
@[simp] theorem setPort_slot (q : PortIx) (r : PortRecord) (j : SlotIx) : (p.setPort q r).slot j = p.slot j := rfl
@[simp] theorem setPort_input (q : PortIx) (r : PortRecord) (j : SlotIx) : (p.setPort q r).input j = p.input j := rfl
@[simp] theorem setPort_engine (q : PortIx) (r : PortRecord) (j : PortIx) :
    (p.setPort q r).engine j = p.engine j := rfl
@[simp] theorem setPort_pair (q : PortIx) (r : PortRecord) (j : PairIx) : (p.setPort q r).pair j = p.pair j := rfl
@[simp] theorem setPort_held (q : PortIx) (r : PortRecord) : (p.setPort q r).held = p.held := rfl

theorem port_setPort (q j : PortIx) (r : PortRecord) :
    (p.setPort q r).port j = if q = j then r else p.port j := by
  simp only [Part.port, Part.setPort, Vector.getElem_set, Fin.val_inj]

@[simp] theorem port_setPort_self (q : PortIx) (r : PortRecord) : (p.setPort q r).port q = r := by simp [port_setPort]

theorem port_setPort_ne {q j : PortIx} (h : q ≠ j) (r : PortRecord) : (p.setPort q r).port j = p.port j := by
  simp [port_setPort, h]

/-! ## Writing one record of `engines` -/

@[simp] theorem setEngine_tb (q : PortIx) (r : Engine) : (p.setEngine q r).tb = p.tb := rfl
@[simp] theorem setEngine_osc (q : PortIx) (r : Engine) : (p.setEngine q r).osc = p.osc := rfl
@[simp] theorem setEngine_lineClock (q : PortIx) (r : Engine) : (p.setEngine q r).lineClock = p.lineClock := rfl
@[simp] theorem setEngine_inputs (q : PortIx) (r : Engine) : (p.setEngine q r).inputs = p.inputs := rfl
@[simp] theorem setEngine_slots (q : PortIx) (r : Engine) : (p.setEngine q r).slots = p.slots := rfl
@[simp] theorem setEngine_selected (q : PortIx) (r : Engine) : (p.setEngine q r).selected = p.selected := rfl
@[simp] theorem setEngine_hub (q : PortIx) (r : Engine) : (p.setEngine q r).hub = p.hub := rfl
@[simp] theorem setEngine_records (q : PortIx) (r : Engine) : (p.setEngine q r).records = p.records := rfl
@[simp] theorem setEngine_ports (q : PortIx) (r : Engine) : (p.setEngine q r).ports = p.ports := rfl
@[simp] theorem setEngine_pairs (q : PortIx) (r : Engine) : (p.setEngine q r).pairs = p.pairs := rfl
@[simp] theorem setEngine_alarm (q : PortIx) (r : Engine) : (p.setEngine q r).alarm = p.alarm := rfl
@[simp] theorem setEngine_mgmt (q : PortIx) (r : Engine) : (p.setEngine q r).mgmt = p.mgmt := rfl
@[simp] theorem setEngine_porn (q : PortIx) (r : Engine) : (p.setEngine q r).porn = p.porn := rfl
@[simp] theorem setEngine_wrst (q : PortIx) (r : Engine) : (p.setEngine q r).wrst = p.wrst := rfl
@[simp] theorem setEngine_record (q : PortIx) (r : Engine) (j : RecordIx) :
    (p.setEngine q r).record j = p.record j := rfl
@[simp] theorem setEngine_slot (q : PortIx) (r : Engine) (j : SlotIx) : (p.setEngine q r).slot j = p.slot j := rfl
@[simp] theorem setEngine_input (q : PortIx) (r : Engine) (j : SlotIx) : (p.setEngine q r).input j = p.input j := rfl
@[simp] theorem setEngine_port (q : PortIx) (r : Engine) (j : PortIx) : (p.setEngine q r).port j = p.port j := rfl
@[simp] theorem setEngine_pair (q : PortIx) (r : Engine) (j : PairIx) : (p.setEngine q r).pair j = p.pair j := rfl
@[simp] theorem setEngine_held (q : PortIx) (r : Engine) : (p.setEngine q r).held = p.held := rfl

theorem engine_setEngine (q j : PortIx) (r : Engine) :
    (p.setEngine q r).engine j = if q = j then r else p.engine j := by
  simp only [Part.engine, Part.setEngine, Vector.getElem_set, Fin.val_inj]

@[simp] theorem engine_setEngine_self (q : PortIx) (r : Engine) : (p.setEngine q r).engine q = r := by simp [engine_setEngine]

theorem engine_setEngine_ne {q j : PortIx} (h : q ≠ j) (r : Engine) : (p.setEngine q r).engine j = p.engine j := by
  simp [engine_setEngine, h]

/-! ## Writing one record of `pairs` -/

@[simp] theorem setPair_tb (k : PairIx) (r : PairRecord) : (p.setPair k r).tb = p.tb := rfl
@[simp] theorem setPair_osc (k : PairIx) (r : PairRecord) : (p.setPair k r).osc = p.osc := rfl
@[simp] theorem setPair_lineClock (k : PairIx) (r : PairRecord) : (p.setPair k r).lineClock = p.lineClock := rfl
@[simp] theorem setPair_inputs (k : PairIx) (r : PairRecord) : (p.setPair k r).inputs = p.inputs := rfl
@[simp] theorem setPair_slots (k : PairIx) (r : PairRecord) : (p.setPair k r).slots = p.slots := rfl
@[simp] theorem setPair_selected (k : PairIx) (r : PairRecord) : (p.setPair k r).selected = p.selected := rfl
@[simp] theorem setPair_hub (k : PairIx) (r : PairRecord) : (p.setPair k r).hub = p.hub := rfl
@[simp] theorem setPair_records (k : PairIx) (r : PairRecord) : (p.setPair k r).records = p.records := rfl
@[simp] theorem setPair_ports (k : PairIx) (r : PairRecord) : (p.setPair k r).ports = p.ports := rfl
@[simp] theorem setPair_engines (k : PairIx) (r : PairRecord) : (p.setPair k r).engines = p.engines := rfl
@[simp] theorem setPair_alarm (k : PairIx) (r : PairRecord) : (p.setPair k r).alarm = p.alarm := rfl
@[simp] theorem setPair_mgmt (k : PairIx) (r : PairRecord) : (p.setPair k r).mgmt = p.mgmt := rfl
@[simp] theorem setPair_porn (k : PairIx) (r : PairRecord) : (p.setPair k r).porn = p.porn := rfl
@[simp] theorem setPair_wrst (k : PairIx) (r : PairRecord) : (p.setPair k r).wrst = p.wrst := rfl
@[simp] theorem setPair_record (k : PairIx) (r : PairRecord) (j : RecordIx) :
    (p.setPair k r).record j = p.record j := rfl
@[simp] theorem setPair_slot (k : PairIx) (r : PairRecord) (j : SlotIx) : (p.setPair k r).slot j = p.slot j := rfl
@[simp] theorem setPair_input (k : PairIx) (r : PairRecord) (j : SlotIx) : (p.setPair k r).input j = p.input j := rfl
@[simp] theorem setPair_port (k : PairIx) (r : PairRecord) (j : PortIx) : (p.setPair k r).port j = p.port j := rfl
@[simp] theorem setPair_engine (k : PairIx) (r : PairRecord) (j : PortIx) :
    (p.setPair k r).engine j = p.engine j := rfl
@[simp] theorem setPair_held (k : PairIx) (r : PairRecord) : (p.setPair k r).held = p.held := rfl

theorem pair_setPair (k j : PairIx) (r : PairRecord) :
    (p.setPair k r).pair j = if k = j then r else p.pair j := by
  simp only [Part.pair, Part.setPair, Vector.getElem_set, Fin.val_inj]

@[simp] theorem pair_setPair_self (k : PairIx) (r : PairRecord) : (p.setPair k r).pair k = r := by simp [pair_setPair]

theorem pair_setPair_ne {k j : PairIx} (h : k ≠ j) (r : PairRecord) : (p.setPair k r).pair j = p.pair j := by
  simp [pair_setPair, h]

/-! ## A report and a loading change the Alarm Unit alone -/

@[simp] theorem report_tb (r : Report) : (report r p).tb = p.tb := rfl
@[simp] theorem report_osc (r : Report) : (report r p).osc = p.osc := rfl
@[simp] theorem report_lineClock (r : Report) : (report r p).lineClock = p.lineClock := rfl
@[simp] theorem report_inputs (r : Report) : (report r p).inputs = p.inputs := rfl
@[simp] theorem report_slots (r : Report) : (report r p).slots = p.slots := rfl
@[simp] theorem report_selected (r : Report) : (report r p).selected = p.selected := rfl
@[simp] theorem report_hub (r : Report) : (report r p).hub = p.hub := rfl
@[simp] theorem report_records (r : Report) : (report r p).records = p.records := rfl
@[simp] theorem report_ports (r : Report) : (report r p).ports = p.ports := rfl
@[simp] theorem report_engines (r : Report) : (report r p).engines = p.engines := rfl
@[simp] theorem report_pairs (r : Report) : (report r p).pairs = p.pairs := rfl
@[simp] theorem report_mgmt (r : Report) : (report r p).mgmt = p.mgmt := rfl
@[simp] theorem report_porn (r : Report) : (report r p).porn = p.porn := rfl
@[simp] theorem report_wrst (r : Report) : (report r p).wrst = p.wrst := rfl
@[simp] theorem report_record (r : Report) (j : RecordIx) : (report r p).record j = p.record j := rfl
@[simp] theorem report_slot (r : Report) (j : SlotIx) : (report r p).slot j = p.slot j := rfl
@[simp] theorem report_input (r : Report) (j : SlotIx) : (report r p).input j = p.input j := rfl
@[simp] theorem report_port (r : Report) (j : PortIx) : (report r p).port j = p.port j := rfl
@[simp] theorem report_engine (r : Report) (j : PortIx) : (report r p).engine j = p.engine j := rfl
@[simp] theorem report_pair (r : Report) (j : PairIx) : (report r p).pair j = p.pair j := rfl
@[simp] theorem report_held (r : Report) : (report r p).held = p.held := rfl
@[simp] theorem report_alarm (r : Report) : (report r p).alarm = p.alarm.take r := rfl

/-- A loading that is due changes the Alarm Unit alone. -/
theorem loadIfDue_frame : loadIfDue p = { p with alarm := (loadIfDue p).alarm } := by
  unfold loadIfDue; split <;> rfl

/-- The end of a command changes the Alarm Unit alone. -/
theorem settle_frame (waiting : List Instr) : settle waiting p = { p with alarm := (settle waiting p).alarm } := by
  unfold settle; split
  · rfl
  · exact loadIfDue_frame p

@[simp] theorem settle_tb (w : List Instr) : (settle w p).tb = p.tb := by rw [settle_frame]
@[simp] theorem settle_osc (w : List Instr) : (settle w p).osc = p.osc := by rw [settle_frame]
@[simp] theorem settle_lineClock (w : List Instr) : (settle w p).lineClock = p.lineClock := by rw [settle_frame]
@[simp] theorem settle_inputs (w : List Instr) : (settle w p).inputs = p.inputs := by rw [settle_frame]
@[simp] theorem settle_slots (w : List Instr) : (settle w p).slots = p.slots := by rw [settle_frame]
@[simp] theorem settle_selected (w : List Instr) : (settle w p).selected = p.selected := by rw [settle_frame]
@[simp] theorem settle_hub (w : List Instr) : (settle w p).hub = p.hub := by rw [settle_frame]
@[simp] theorem settle_records (w : List Instr) : (settle w p).records = p.records := by rw [settle_frame]
@[simp] theorem settle_ports (w : List Instr) : (settle w p).ports = p.ports := by rw [settle_frame]
@[simp] theorem settle_engines (w : List Instr) : (settle w p).engines = p.engines := by rw [settle_frame]
@[simp] theorem settle_pairs (w : List Instr) : (settle w p).pairs = p.pairs := by rw [settle_frame]
@[simp] theorem settle_mgmt (w : List Instr) : (settle w p).mgmt = p.mgmt := by rw [settle_frame]
@[simp] theorem settle_porn (w : List Instr) : (settle w p).porn = p.porn := by rw [settle_frame]
@[simp] theorem settle_wrst (w : List Instr) : (settle w p).wrst = p.wrst := by rw [settle_frame]
@[simp] theorem settle_record (w : List Instr) (j : RecordIx) :
    (settle w p).record j = p.record j := by rw [settle_frame]; rfl
@[simp] theorem settle_slot (w : List Instr) (j : SlotIx) :
    (settle w p).slot j = p.slot j := by rw [settle_frame]; rfl
@[simp] theorem settle_input (w : List Instr) (j : SlotIx) :
    (settle w p).input j = p.input j := by rw [settle_frame]; rfl
@[simp] theorem settle_port (w : List Instr) (j : PortIx) :
    (settle w p).port j = p.port j := by rw [settle_frame]; rfl
@[simp] theorem settle_engine (w : List Instr) (j : PortIx) :
    (settle w p).engine j = p.engine j := by rw [settle_frame]; rfl
@[simp] theorem settle_pair (w : List Instr) (j : PairIx) :
    (settle w p).pair j = p.pair j := by rw [settle_frame]; rfl
@[simp] theorem settle_held (w : List Instr) : (settle w p).held = p.held := by rw [settle_frame]; rfl

/-! ## The outcome of a command -/

/-- A command is done: it answers a next state, its effect is the one given, the loading that is due follows, and the
queue stays. -/
theorem commandDone_next (f : Part → Part) (s : State) :
    commandDone f s = .next { s with part := settle s.pending (f s.part) } := rfl

/-- A loading leaves no notice unloaded while the buffer is empty (R177). -/
theorem AlarmUnit.load_empty (a : AlarmUnit) (h : a.load.buffer = none) : a.load.list = [] := by
  unfold AlarmUnit.load at *
  split at h
  · cases h
  · next hne =>
    cases hl : a.list with
    | nil => rfl
    | cons e rest => exact absurd hl (fun hl => hne e rest h hl)

end Sys2Proof.Machine
end

