-- ==== Sys2Proof/Laws/Commands.lean ====
section
/-! SUPPORT. What a command, a request and a loading can do, said once each. -/

namespace Sys2Proof.Machine

/-! ## Commands -/

/-- The work of a command on the part, the loading that its reports make due apart: what `exec` makes of a state whose
queue schedules that loading. -/
def commandWork (c : Instr) (p : Part) : Part :=
  match exec c { part := p, pending := [.alarmBufferLoad] } with
  | .next t => t.part
  | .fault _ => p
  | .refused _ => p

/-- Every command is done on the part alone: a next state, with the queue as it stands. -/
theorem exec_done (c : Instr) (s : State) : exec c s = commandDone (commandWork c) s := by
  cases c <;> rfl

/-- A step with a command in front is that command's work on the rest of the queue. -/
theorem step_cons (c : Instr) (rest : List Instr) (p : Part) :
    step { part := p, pending := c :: rest } = exec c { part := p, pending := rest } := rfl

/-- What a step leaves: the same state when nothing waits, and otherwise the front command's effect on the part, with the
rest of the queue. -/
theorem step_cases {s t : State} (h : step s = .next t) :
    (s.pending = [] ∧ t = s) ∨
      ∃ (c : Instr) (rest : List Instr), s.pending = c :: rest ∧
        t = { part := settle rest (commandWork c s.part), pending := rest } := by
  obtain ⟨p, queue⟩ := s
  cases queue with
  | nil =>
    simp only [step, Host.Outcome.next.injEq] at h
    exact .inl ⟨rfl, h.symm⟩
  | cons c rest =>
    rw [step_cons, exec_done] at h
    simp only [commandDone, Host.Outcome.next.injEq] at h
    exact .inr ⟨c, rest, rfl, h.symm⟩

/-! ## Loading -/

/-- Loading takes the head of the list into an empty buffer, and changes nothing otherwise. -/
theorem load_cases (a : AlarmUnit) :
    (a.buffer = none ∧ ∃ e rest, a.list = e :: rest ∧
        a.load =
          { a with
            buffer := some { entry := e, standing := a.standingOf e.owner }, list := rest
            alm := a.alm.load a.settings.almMode a.settings.pulseWidth }) ∨
      ((a.buffer ≠ none ∨ a.list = []) ∧ a.load = a) := by
  unfold AlarmUnit.load
  cases hb : a.buffer with
  | none =>
    cases hl : a.list with
    | nil => exact .inr ⟨.inr rfl, rfl⟩
    | cons e rest => exact .inl ⟨rfl, e, rest, rfl, rfl⟩
  | some n => exact .inr ⟨.inl (by simp), rfl⟩

/-- With a notice in the buffer or nothing in the list there is nothing to load. -/
theorem loadIfDue_idle (p : Part) (h : p.alarm.buffer ≠ none ∨ p.alarm.list = []) : loadIfDue p = p := by
  unfold loadIfDue
  split
  · rfl
  · obtain ⟨hb, e, rest, hl, _⟩ | ⟨_, he⟩ := load_cases p.alarm
    · rcases h with h | h
      · exact absurd hb h
      · simp [hl] at h
    · rw [he]

/-! ## Channel M -/

/-- A waiting request is taken when the reply buffer is empty and no reset input is asserted, and waits otherwise. -/
theorem takeWaiting_cases (p : Part) :
    (∃ frame, p.mgmt.inbound = some frame ∧ p.mgmt.reply = none ∧ p.held = false ∧
        takeWaiting p = takeRequest frame { p with mgmt := { p.mgmt with inbound := none } }) ∨
      ((p.mgmt.inbound = none ∨ p.mgmt.reply ≠ none ∨ p.held = true) ∧ takeWaiting p = p) := by
  unfold takeWaiting
  cases hi : p.mgmt.inbound with
  | none => exact .inr ⟨.inl rfl, rfl⟩
  | some frame =>
    cases hr : p.mgmt.reply with
    | some r => exact .inr ⟨.inr (.inl (by simp)), rfl⟩
    | none =>
      cases hh : p.held with
      | true => exact .inr ⟨.inr (.inr rfl), by simp⟩
      | false => exact .inl ⟨frame, rfl, rfl, rfl, by simp⟩

/-- With both buffers of channel M empty and no reset input asserted, a request is taken as it is placed (R189, R190). -/
theorem placeRequest_taken (frame : List Byte) (p : Part) (hh : p.held = false) (hi : p.mgmt.inbound = none)
    (hr : p.mgmt.reply = none) (hl : frame.length ≤ 255) :
    placeRequest frame p = loadReply frame (dealWith frame p).2 (dealWith frame p).1 := by
  obtain ⟨tb, osc, lineClock, inputs, slots, selected, hub, records, ports, engines, pairs, alarm, m, porn, wrst⟩ := p
  obtain ⟨inbound, reply, resetSeen, lastReset, mgt, transaction, spiOut⟩ := m
  simp only at hi hr
  subst hi hr
  have hheld : (porn || wrst) = false := hh
  simp only [placeRequest, takeWaiting, Part.held, hheld, Bool.false_eq_true, if_false, List.take_of_length_le hl,
    takeRequest]

/-- While the reply buffer is full a request that finds the inbound buffer empty waits in it (R189, R190). -/
theorem placeRequest_waits (frame : List Byte) (p : Part) (r : List Byte) (hh : p.held = false)
    (hi : p.mgmt.inbound = none) (hr : p.mgmt.reply = some r) :
    placeRequest frame p = { p with mgmt := { p.mgmt with inbound := some (frame.take 255) } } := by
  unfold placeRequest takeWaiting
  simp [hh, hi, hr]

/-- With the inbound buffer full a request is discarded (R189). -/
theorem placeRequest_discarded (frame f : List Byte) (p : Part) (hi : p.mgmt.inbound = some f) :
    placeRequest frame p = p := by
  unfold placeRequest
  split <;> simp [hi]

/-! ## The choice -/

/-- A choice either finds the selection as it should be, or issues one selection report. -/
theorem choose_cases (loss : SelectionCause) (p : Part) :
    (p.choice = p.selected ∧ choose loss p = p) ∨
      (p.choice ≠ p.selected ∧
        choose loss p = selectionReport p.choice (p.reportCause loss) { p with selected := p.choice }) := by
  unfold choose
  by_cases h : p.choice = p.selected
  · exact .inl ⟨h, by simp [h]⟩
  · exact .inr ⟨h, by simp [h]⟩

end Sys2Proof.Machine
end

