-- ==== Sys2Proof/Laws/Formats.lean ====
section
/-! SUPPORT. Laws of the characters and bits of the lines: what one character does at a serial input, what an accepted
response is, and which bits of a frame can be read back wrong. -/

namespace Sys2Proof.Machine

/-! ## Characters of a TD line (R200) -/

@[simp] theorem dataOf_characterOf (b : Byte) : dataOf (characterOf b) = b := by
  ext i hi
  simp only [dataOf, characterOf, BitVec.getElem_extractLsb', BitVec.getLsbD_append]
  rw [if_neg (by omega), if_pos (by omega)]
  simp [BitVec.getLsbD_eq_getElem hi]

@[simp] theorem stopsRight_characterOf (b : Byte) : stopsRight (characterOf b) = true := by
  unfold stopsRight characterOf
  rw [BitVec.getLsbD_append]
  simp

@[simp] theorem map_dataOf_characterOf (bytes : List Byte) : (bytes.map characterOf).map dataOf = bytes := by
  induction bytes with
  | nil => rfl
  | cons b rest ih => simp only [List.map_cons, dataOf_characterOf, ih]

/-- The ten levels of a character. -/
theorem characterLevels_length (c : LineChar) : (characterLevels c).length = 10 := rfl

/-! ## Read-back (R130) -/

/-- A bit differs exactly when it is a bit of the frame and the level read is not the one driven. -/
theorem differs_iff (f : LineFrame) (bit : Nat) (level : LineLevel) :
    f.differs bit level = true ↔ ∃ driven, f.levels[bit]? = some driven ∧ driven ≠ level := by
  unfold LineFrame.differs
  cases f.levels[bit]? <;> simp

/-! ## Responses (R125) -/

/-- An accepted response shows no error, and its payload spells it. -/
theorem acceptedResponse_some {openSlot : Bool} {characters : List LineChar} {r : Response}
    (h : acceptedResponse openSlot characters = some r) :
    responseError openSlot characters = none ∧
      decodeResponse ((receivedOf characters).map dataOf).dropLast = some r := by
  unfold acceptedResponse at h
  split at h
  · exact ⟨‹_›, h⟩
  · simp at h

/-- An accepted ECHO is an accepted response of an address slot. -/
theorem acceptedEcho_some {characters : List LineChar} {fields : EchoFields} :
    acceptedEcho characters = some fields ↔ acceptedResponse false characters = some (.echo fields) := by
  unfold acceptedEcho
  split
  · rename_i f h
    simp [h]
  · rename_i h
    constructor
    · intro k
      simp at k
    · intro k
      exact absurd k (h fields)

/-! ## Characters of a serial input (R201) -/

@[simp] theorem receiveCharacters_nil (length : Nat) (current : Option OpenMessage) :
    receiveCharacters length [] current = (current, []) := rfl

theorem receiveCharacters_cons (length : Nat) (c : SerialChar) (rest : List SerialChar) (current : Option OpenMessage) :
    receiveCharacters length (c :: rest) current =
      ((receiveCharacters length rest (receiveCharacter length c current).1).1,
        (receiveCharacter length c current).2.toList ++
          (receiveCharacters length rest (receiveCharacter length c current).1).2) := rfl

/-- Everything that one character can do: begin a message, be ignored, lengthen the open message, or make it whole. -/
theorem receiveCharacter_cases (length : Nat) (c : SerialChar) (current : Option OpenMessage) :
    (startsMessage c = true ∧ receiveCharacter length c current = (some {}, none)) ∨
      (startsMessage c = false ∧ current = none ∧ receiveCharacter length c current = (none, none)) ∨
      ∃ m : OpenMessage, startsMessage c = false ∧ current = some m ∧
        ((m.bytes.length + 1 < length ∧
            receiveCharacter length c current = (some { m with bytes := m.bytes ++ [messageByte c] }, none)) ∨
          (length ≤ m.bytes.length + 1 ∧
            receiveCharacter length c current = (none, some { m with bytes := m.bytes ++ [messageByte c] }))) := by
  unfold receiveCharacter
  cases hs : startsMessage c
  · cases current with
    | none => simp
    | some m =>
      by_cases h : length ≤ m.bytes.length + 1
      · simp [h]
      · simp [h, Nat.lt_of_not_le h]
  · simp

end Sys2Proof.Machine
end

