-- ==== Sys2Proof/Laws/Frames.lean ====
section
/-! SUPPORT. What the shared operations leave as they stand: one frame for the Discipline Unit and the choice, and one
for the work of a slot's samples. -/

namespace Sys2Proof.Machine

/-- Everything but the hub record, the selection, the alarms and what the Discipline Unit hands to the Time Base. -/
structure HubFrame (p q : Part) : Prop where
  tb        : { q.tb with next := p.tb.next, pendingStep := p.tb.pendingStep } = p.tb
  osc       : q.osc = p.osc
  lineClock : q.lineClock = p.lineClock
  inputs    : q.inputs = p.inputs
  slots     : q.slots = p.slots
  records   : q.records = p.records
  ports     : q.ports = p.ports
  engines   : q.engines = p.engines
  pairs     : q.pairs = p.pairs
  mgmt      : q.mgmt = p.mgmt
  porn      : q.porn = p.porn
  wrst      : q.wrst = p.wrst

namespace HubFrame

variable {p q r : Part}

theorem refl (p : Part) : HubFrame p p := by constructor <;> rfl

theorem trans (h : HubFrame p q) (k : HubFrame q r) : HubFrame p r where
  tb := by
    have a := h.tb; have b := k.tb
    have e : { r.tb with next := p.tb.next, pendingStep := p.tb.pendingStep } =
        { ({ r.tb with next := q.tb.next, pendingStep := q.tb.pendingStep } : TimeBase) with
          next := p.tb.next, pendingStep := p.tb.pendingStep } := rfl
    rw [e, b, a]
  osc := k.osc.trans h.osc
  lineClock := k.lineClock.trans h.lineClock
  inputs := k.inputs.trans h.inputs
  slots := k.slots.trans h.slots
  records := k.records.trans h.records
  ports := k.ports.trans h.ports
  engines := k.engines.trans h.engines
  pairs := k.pairs.trans h.pairs
  mgmt := k.mgmt.trans h.mgmt
  porn := k.porn.trans h.porn
  wrst := k.wrst.trans h.wrst

theorem withHub (h : HubFrame p q) (f : HubRecord → HubRecord) : HubFrame p (withHub f q) :=
  h.trans (by constructor <;> rfl)

theorem report (h : HubFrame p q) (r : Report) : HubFrame p (report r q) := h.trans (by constructor <;> rfl)

theorem handOver (h : HubFrame p q) : HubFrame p (handOver q) := h.trans (by constructor <;> rfl)

theorem requestStep (h : HubFrame p q) (d : Int) : HubFrame p (requestStep d q) := h.trans (by constructor <;> rfl)

theorem select (h : HubFrame p q) (s : Option SlotIx) : HubFrame p { q with selected := s } :=
  h.trans (by constructor <;> rfl)

theorem raiseHub (h : HubFrame p q) (c : Condition) : HubFrame p (raiseHub c q) := h.report _

theorem clearHub (h : HubFrame p q) (c : Condition) : HubFrame p (clearHub c q) := h.report _

theorem advanceCause (h : HubFrame p q) : HubFrame p (advanceCause q) := h.withHub _

theorem followLimit (h : HubFrame p q) (b : Bool) : HubFrame p (followLimit b q) := by
  unfold Machine.followLimit
  split
  · split
    · exact h
    · exact h.raiseHub _
  · exact h.clearHub _

theorem correctionToF (h : HubFrame p q) : HubFrame p (correctionToF q) := (h.withHub _).handOver

theorem loopUpdate (h : HubFrame p q) (g : Gains) (e : Int) : HubFrame p (loopUpdate g e q) :=
  ((h.withHub _).handOver).followLimit _

theorem filterUpdate (h : HubFrame p q) (x : Int) : HubFrame p (filterUpdate x q) :=
  ((h.withHub _).handOver).followLimit _

theorem averageUpdate (h : HubFrame p q) : HubFrame p (averageUpdate q) := h.trans (by constructor <;> rfl)

theorem setBound (h : HubFrame p q) (u : Int) : HubFrame p (setBound u q) := h.withHub _

theorem startPrediction (h : HubFrame p q) : HubFrame p (startPrediction q) := h.withHub _

theorem advancePrediction (h : HubFrame p q) : HubFrame p (advancePrediction q) := h.withHub _

theorem predictCorrection (h : HubFrame p q) : HubFrame p (predictCorrection q) := by
  unfold Machine.predictCorrection
  split
  · exact h
  · exact ((h.withHub _).handOver).followLimit _

theorem startLineCount (h : HubFrame p q) : HubFrame p (startLineCount q) := h.withHub _

theorem advanceLineCount (h : HubFrame p q) : HubFrame p (advanceLineCount q) := h.withHub _

theorem enterFreeRun (h : HubFrame p q) : HubFrame p (enterFreeRun q) := ((h.withHub _).correctionToF).raiseHub _

theorem enterAcquire (h : HubFrame p q) (g : Grade) : HubFrame p (enterAcquire g q) := h.withHub _

theorem enterLocked (h : HubFrame p q) : HubFrame p (enterLocked q) := h.withHub _

theorem enterLockedFreq (h : HubFrame p q) : HubFrame p (enterLockedFreq q) := (h.withHub _).startLineCount

theorem enterBridging (h : HubFrame p q) (o : BridgedFrom) : HubFrame p (enterBridging o q) :=
  (((h.withHub _).advanceCause).raiseHub _).correctionToF.startPrediction

theorem compareBound (h : HubFrame p q) (b : Bool) : HubFrame p (compareBound b q) := by
  unfold Machine.compareBound
  split
  · cases b
    · exact (h.withHub _).raiseHub _
    · exact ((h.advanceCause).withHub _).raiseHub _
  · exact h

theorem enterHoldover (h : HubFrame p q) : HubFrame p (enterHoldover q) := by
  unfold Machine.enterHoldover
  by_cases hb : q.hub.state = .bridging
  · simp only [hb, decide_true, if_true]
    exact (((h.withHub _).raiseHub _).clearHub _).predictCorrection.compareBound _
  · simp only [hb, decide_false, Bool.false_eq_true, if_false]
    exact ((h.startPrediction.withHub _).raiseHub _).predictCorrection.compareBound _

theorem leaveState (h : HubFrame p q) : HubFrame p (leaveState q) := by
  unfold Machine.leaveState
  split
  · exact h.clearHub _
  · exact h
  · exact h
  · exact h
  · exact (h.withHub _).clearHub _
  · exact (h.withHub _).clearHub _
  · exact ((h.withHub _).clearHub _).clearHub _

theorem moveOnReport (h : HubFrame p q) (new : Option SlotIx) : HubFrame p (moveOnReport new q) := by
  unfold Machine.moveOnReport
  split
  all_goals first
    | exact h
    | exact h.enterAcquire _
    | exact h.leaveState.enterAcquire _
    | exact h.leaveState.enterLockedFreq
    | exact h.enterHoldover
    | (split
       · exact h.enterHoldover
       · exact h.enterFreeRun)

theorem selectionReport (h : HubFrame p q) (new : Option SlotIx) (c : SelectionCause) :
    HubFrame p (selectionReport new c q) :=
  ((h.withHub _).advanceCause.report _).moveOnReport _

theorem choose (h : HubFrame p q) (c : SelectionCause) : HubFrame p (choose c q) := by
  unfold Machine.choose
  split
  · exact h
  · exact (h.select _).selectionReport _ _

/-- A test that leads to one of two kept outcomes. -/
theorem ite {c : Prop} [Decidable c] (h : HubFrame p q) (k : HubFrame p r) : HubFrame p (if c then q else r) := by
  split
  · exact h
  · exact k

theorem acquireGood (h : HubFrame p q) (e a : Int) : HubFrame p (acquireGood e a q) :=
  ite (((h.loopUpdate _ _).setBound _).withHub _).enterLocked (((h.loopUpdate _ _).setBound _).withHub _)

theorem lockedGood (h : HubFrame p q) (e a : Int) : HubFrame p (lockedGood e a q) :=
  ite (((((h.loopUpdate _ _).setBound _).averageUpdate).withHub _).enterAcquire _)
    ((((h.loopUpdate _ _).setBound _).averageUpdate).withHub _)

theorem lockedFreqGood (h : HubFrame p q) (x : Int) : HubFrame p (lockedFreqGood x q) :=
  ((h.filterUpdate _).averageUpdate).advanceLineCount

theorem bridgingGood (h : HubFrame p q) (x a : Int) : HubFrame p (bridgingGood x a q) := by
  unfold Machine.bridgingGood
  dsimp only
  split
  · exact h.leaveState.enterLocked.lockedGood _ _
  · exact h.leaveState.enterLockedFreq.lockedFreqGood _

theorem actOnTake (h : HubFrame p q) (b : Bool) (t : Option Take) : HubFrame p (actOnTake b t q) := by
  unfold Machine.actOnTake
  dsimp only
  split
  · exact h
  · refine ite h ?_
    split
    · exact ite (((h.requestStep _).correctionToF).withHub _) (h.acquireGood _ _)
    · exact h.correctionToF.withHub _
  · split
    · exact h.lockedGood _ _
    · exact h.enterBridging _
  · split
    · exact h.lockedFreqGood _
    · exact h.enterBridging _
  · split
    · exact h.advancePrediction.bridgingGood _ _
    · exact h.advancePrediction
  · exact h.advancePrediction.predictCorrection.compareBound _
  · exact h.advancePrediction.predictCorrection

end HubFrame

/-- The choice changes no slot. -/
theorem choose_slot (c : SelectionCause) (p : Part) (k : SlotIx) : (choose c p).slot k = p.slot k := by
  simp only [Part.slot, ((HubFrame.refl p).choose c).slots]

/-- The choice changes no input. -/
theorem choose_input (c : SelectionCause) (p : Part) (k : SlotIx) : (choose c p).input k = p.input k := by
  simp only [Part.input, ((HubFrame.refl p).choose c).inputs]

/-- The choice changes no record. -/
theorem choose_record (c : SelectionCause) (p : Part) (i : RecordIx) : (choose c p).record i = p.record i := by
  simp only [Part.record, ((HubFrame.refl p).choose c).records]

/-! ## The line clock and the raw count at a boundary -/

/-- No elapsed time takes no raw time. -/
@[simp] theorem TimeBase.rawTime_zero (tb : TimeBase) : tb.rawTime 0 = 0 := by
  obtain h | h : ((qPerSecond : Int) + tb.applied).toNat = 0 ∨ 0 < ((qPerSecond : Int) + tb.applied).toNat := by omega
  · simp [TimeBase.rawTime, roundDiv, h]
  · simp only [TimeBase.rawTime, roundDiv, Nat.zero_mul, Nat.cast_zero, mul_zero, zero_add, le_refl, if_true]
    rw [Int.ediv_eq_zero_of_lt (by omega) (by omega)]
    rfl

/-- The raw time of `e` q with its rate written out (R7). -/
theorem TimeBase.rawTime_eq (tb : TimeBase) (e : Nat) :
    tb.rawTime e = (roundDiv (e * 65536000000000 : Nat) ((65536000000000 : Int) + tb.applied).toNat).toNat := by
  have h : qPerSecond = 65536000000000 := by decide
  have k : ((65536000000000 : Nat) : Int) = (65536000000000 : Int) := by norm_num
  rw [TimeBase.rawTime, h, k]

@[simp] theorem TimeBase.boundary_elapsed (tb : TimeBase) : tb.boundary.elapsed = 0 := by
  unfold TimeBase.boundary; split <;> rfl

/-- At a boundary the count has grown by the raw time of the second that ends. -/
@[simp] theorem TimeBase.boundary_raw (tb : TimeBase) :
    tb.boundary.raw = tb.raw + tb.rawTime (tb.lengthNs * 65536) := by
  unfold TimeBase.boundary; split <;> rfl

/-- The Time Base at a boundary presents the count of the boundary before and the raw time of the second between. -/
@[simp] theorem TimeBase.boundary_rawCount (tb : TimeBase) :
    tb.boundary.rawCount = tb.raw + tb.rawTime (tb.lengthNs * 65536) := by
  rw [TimeBase.rawCount, TimeBase.boundary_elapsed, TimeBase.rawTime_zero, TimeBase.boundary_raw, Nat.add_zero]

/-- The count of the edges moves the line clock alone, and only while the slot runs (R29, R21). -/
theorem countEdges_frame (e : LineEdges) (p : Part) :
    countEdges e p =
      { p with lineClock := if p.running lineSlot then p.lineClock.count p.tb.rawCount e else p.lineClock } := by
  unfold countEdges; split <;> rfl

@[simp] theorem countEdges_tb (e : LineEdges) (p : Part) : (countEdges e p).tb = p.tb := by rw [countEdges_frame]
@[simp] theorem countEdges_osc (e : LineEdges) (p : Part) : (countEdges e p).osc = p.osc := by rw [countEdges_frame]
@[simp] theorem countEdges_inputs (e : LineEdges) (p : Part) : (countEdges e p).inputs = p.inputs := by
  rw [countEdges_frame]
@[simp] theorem countEdges_slots (e : LineEdges) (p : Part) : (countEdges e p).slots = p.slots := by rw [countEdges_frame]
@[simp] theorem countEdges_selected (e : LineEdges) (p : Part) : (countEdges e p).selected = p.selected := by
  rw [countEdges_frame]
@[simp] theorem countEdges_hub (e : LineEdges) (p : Part) : (countEdges e p).hub = p.hub := by rw [countEdges_frame]
@[simp] theorem countEdges_records (e : LineEdges) (p : Part) : (countEdges e p).records = p.records := by
  rw [countEdges_frame]
@[simp] theorem countEdges_ports (e : LineEdges) (p : Part) : (countEdges e p).ports = p.ports := by rw [countEdges_frame]
@[simp] theorem countEdges_engines (e : LineEdges) (p : Part) : (countEdges e p).engines = p.engines := by
  rw [countEdges_frame]
@[simp] theorem countEdges_pairs (e : LineEdges) (p : Part) : (countEdges e p).pairs = p.pairs := by rw [countEdges_frame]
@[simp] theorem countEdges_alarm (e : LineEdges) (p : Part) : (countEdges e p).alarm = p.alarm := by rw [countEdges_frame]
@[simp] theorem countEdges_mgmt (e : LineEdges) (p : Part) : (countEdges e p).mgmt = p.mgmt := by rw [countEdges_frame]
@[simp] theorem countEdges_porn (e : LineEdges) (p : Part) : (countEdges e p).porn = p.porn := by rw [countEdges_frame]
@[simp] theorem countEdges_wrst (e : LineEdges) (p : Part) : (countEdges e p).wrst = p.wrst := by rw [countEdges_frame]

/-- The phase of a line clock whose edges have been counted: all its cycles, and the raw time since the latest edge (R29). -/
theorem LineClock.phase_count (c : LineClock) (raw : Nat) (e : LineEdges) :
    (c.count raw e).phase raw =
      if e.cycles = 0 then c.phase raw else toQ ((c.cycles + e.cycles : Nat) * 100) + e.since := by
  unfold LineClock.count LineClock.phase
  split
  · rfl
  · simp

/-- The count of the edges says nothing of the clock's presence (R30). -/
@[simp] theorem LineClock.count_present (c : LineClock) (raw : Nat) (e : LineEdges) :
    (c.count raw e).present = c.present := by
  unfold LineClock.count; split <;> rfl

end Sys2Proof.Machine
end

