-- ==== Sys2Proof/Laws/WorkFrames.lean ====
section
/-! SUPPORT. Two wider frames: what the work on samples and records leaves as it stands, and what the work of the ports
and pairs leaves as it stands. -/

namespace Sys2Proof.Machine

/-- Every step of a run over indices keeps a relation to the start. -/
theorem forEach_induct {α : Type} {R : Part → Prop} (step : α → Part → Part)
    (keep : ∀ i q, R q → R (step i q)) : ∀ (l : List α) (p : Part), R p → R (forEach l step p)
  | [], _, h => h
  | i :: l, p, h => forEach_induct step keep l (step i p) (keep i p h)

/-! ## Samples and records -/

/-- Everything but the inputs, the Reference Table, the Record Table, the hub record and the alarms. -/
structure WorkFrame (p q : Part) : Prop where
  tb        : { q.tb with next := p.tb.next, pendingStep := p.tb.pendingStep } = p.tb
  osc       : q.osc = p.osc
  lineClock : q.lineClock = p.lineClock
  ports     : q.ports = p.ports
  engines   : q.engines = p.engines
  pairs     : q.pairs = p.pairs
  mgmt      : q.mgmt = p.mgmt
  porn      : q.porn = p.porn
  wrst      : q.wrst = p.wrst

theorem HubFrame.work {p q : Part} (h : HubFrame p q) : WorkFrame p q :=
  ⟨h.tb, h.osc, h.lineClock, h.ports, h.engines, h.pairs, h.mgmt, h.porn, h.wrst⟩

namespace WorkFrame

variable {p q r : Part}

theorem refl (p : Part) : WorkFrame p p := (HubFrame.refl p).work

theorem trans (h : WorkFrame p q) (k : WorkFrame q r) : WorkFrame p r where
  tb := by
    have a := h.tb; have b := k.tb
    have e : { r.tb with next := p.tb.next, pendingStep := p.tb.pendingStep } =
        { ({ r.tb with next := q.tb.next, pendingStep := q.tb.pendingStep } : TimeBase) with
          next := p.tb.next, pendingStep := p.tb.pendingStep } := rfl
    rw [e, b, a]
  osc := k.osc.trans h.osc
  lineClock := k.lineClock.trans h.lineClock
  ports := k.ports.trans h.ports
  engines := k.engines.trans h.engines
  pairs := k.pairs.trans h.pairs
  mgmt := k.mgmt.trans h.mgmt
  porn := k.porn.trans h.porn
  wrst := k.wrst.trans h.wrst

/-- A test that leads to one of two kept outcomes. -/
theorem ite {c : Prop} [Decidable c] (h : WorkFrame p q) (k : WorkFrame p r) : WorkFrame p (if c then q else r) := by
  split
  · exact h
  · exact k

theorem report (h : WorkFrame p q) (x : Report) : WorkFrame p (report x q) := h.trans (by constructor <;> rfl)

theorem withHub (h : WorkFrame p q) (f : HubRecord → HubRecord) : WorkFrame p (withHub f q) :=
  h.trans (by constructor <;> rfl)

theorem withSlot (h : WorkFrame p q) (k : SlotIx) (f : SlotRecord → SlotRecord) : WorkFrame p (withSlot k f q) :=
  h.trans (by constructor <;> rfl)

theorem withInput (h : WorkFrame p q) (k : SlotIx) (f : SlotInput → SlotInput) : WorkFrame p (withInput k f q) :=
  h.trans (by constructor <;> rfl)

theorem withRecord (h : WorkFrame p q) (i : RecordIx) (f : ServiceRecord → ServiceRecord) :
    WorkFrame p (withRecord i f q) :=
  h.trans (by constructor <;> rfl)

theorem setReturnBinding (h : WorkFrame p q) (i : RecordIx) (b : Option SlotIx) :
    WorkFrame p (setReturnBinding i b q) :=
  h.trans (by constructor <;> rfl)

theorem choose (h : WorkFrame p q) (c : SelectionCause) : WorkFrame p (choose c q) :=
  h.trans ((HubFrame.refl q).choose c).work

theorem raiseSlot (h : WorkFrame p q) (c : Condition) (k : SlotIx) : WorkFrame p (raiseSlot c k q) := h.report _

theorem clearSlot (h : WorkFrame p q) (c : Condition) (k : SlotIx) : WorkFrame p (clearSlot c k q) := h.report _

theorem enterQualified (h : WorkFrame p q) (k : SlotIx) : WorkFrame p (enterQualified k q) :=
  (h.withSlot _ _).raiseSlot _ _

theorem enterFailed (h : WorkFrame p q) (k : SlotIx) : WorkFrame p (enterFailed k q) := (h.withSlot _ _).raiseSlot _ _

theorem candidateGood (h : WorkFrame p q) (k : SlotIx) : WorkFrame p (candidateGood k q) :=
  ite ((h.withSlot _ _).enterQualified _ |>.choose _) (h.withSlot _ _)

theorem qualifiedSample (h : WorkFrame p q) (k : SlotIx) (o : SampleOutcome) : WorkFrame p (qualifiedSample k o q) := by
  unfold Machine.qualifiedSample
  split
  · exact h.withSlot _ _
  all_goals exact ite ((h.enterFailed _).choose _) (h.withSlot _ _)

theorem failedGood (h : WorkFrame p q) (k : SlotIx) : WorkFrame p (failedGood k q) :=
  WorkFrame.choose (ite (((h.withSlot _ _).clearSlot _ _).enterQualified _) ((h.withSlot _ _).clearSlot _ _)) _

theorem applySample (h : WorkFrame p q) (k : SlotIx) (o : SampleOutcome) : WorkFrame p (applySample k o q) := by
  unfold Machine.applySample
  split
  · exact h
  · split
    · exact h
    · exact ite (h.candidateGood _) (h.withSlot _ _)
    · exact h.qualifiedSample _ _
    · exact ite (h.failedGood _) h

theorem completeSample (h : WorkFrame p q) (k : SlotIx) (s : Sample) : WorkFrame p (completeSample k s q) :=
  (h.withInput _ _).applySample _ _

theorem completeJudged (h : WorkFrame p q) (k : SlotIx) (v : Int) (a s : Option Int) (n : Nat) :
    WorkFrame p (completeJudged k v a s n q) :=
  (h.withInput _ _).completeSample _ _

theorem completeRead (h : WorkFrame p q) (k : SlotIx) (b : Bool) (v : Int) (a s : Option Int) (n : Nat) :
    WorkFrame p (completeRead k b v a s n q) :=
  ite (h.completeSample _ _) (h.completeJudged _ _ _ _ _)

theorem completeLine (h : WorkFrame p q) (n : Nat) : WorkFrame p (completeLine n q) := by
  unfold Machine.completeLine
  split
  · exact h
  · exact ite (h.completeRead _ _ _ _ _ _) h

theorem completeMissing (h : WorkFrame p q) (n : Nat) (k : SlotIx) : WorkFrame p (completeMissing n k q) :=
  ite (h.completeSample _ _) h

theorem newSecond (h : WorkFrame p q) (k : SlotIx) : WorkFrame p (newSecond k q) := h.trans (by constructor <;> rfl)

theorem inputsBoundary (h : WorkFrame p q) (n : Nat) : WorkFrame p (inputsBoundary n q) :=
  forEach_induct (R := WorkFrame p) _ (fun k _ h => h.newSecond k) _ _
    ((forEach_induct (R := WorkFrame p) _ (fun k _ h => h.completeMissing n k) _ _ (h.completeLine n)).withInput _ _)

theorem offerEcho (h : WorkFrame p q) (k : SlotIx) (i : RecordIx) (g : Generation) (x : EchoFields) (f : Bool) :
    WorkFrame p (offerEcho k i g x f q) := by
  unfold Machine.offerEcho
  split
  · exact h
  · exact ite (h.completeRead _ _ _ _ _ _) h

theorem enterDisabled (h : WorkFrame p q) (k : SlotIx) : WorkFrame p (enterDisabled k q) :=
  (((h.withSlot _ _).withInput _ _).clearSlot _ _).clearSlot _ _

theorem unbindSlot (h : WorkFrame p q) (c : SelectionCause) (k : SlotIx) : WorkFrame p (unbindSlot c k q) := by
  unfold Machine.unbindSlot
  refine (WorkFrame.enterDisabled (WorkFrame.withSlot ?_ _ _) _).choose _
  split
  · exact h.setReturnBinding _ _
  · exact h

theorem recordLost (h : WorkFrame p q) (i : RecordIx) (g : Generation) : WorkFrame p (recordLost i g q) :=
  ite (h.unbindSlot _ _) (ite (h.unbindSlot _ _) h)

theorem clearStandings (h : WorkFrame p q) (i : RecordIx) : WorkFrame p (clearStandings i q) :=
  (((h.report _).report _).report _).report _

theorem vacate (h : WorkFrame p q) (i : RecordIx) : WorkFrame p (vacate i q) :=
  ((ite (h.recordLost _ _) h).clearStandings _).withRecord _ _

theorem endLeft (h : WorkFrame p q) (port : PortIx) (i : RecordIx) : WorkFrame p (endLeft port i q) :=
  (h.vacate _).report _

theorem endRetired (h : WorkFrame p q) (d : Detail) (i : RecordIx) : WorkFrame p (endRetired d i q) :=
  (h.vacate _).report _

theorem recordBoundary (h : WorkFrame p q) (i : RecordIx) : WorkFrame p (recordBoundary i q) :=
  ite ((h.withRecord _ _).endRetired _ _) (h.withRecord _ _)

theorem recordsBoundary (h : WorkFrame p q) : WorkFrame p (recordsBoundary q) :=
  forEach_induct (R := WorkFrame p) _ (fun i _ h => h.recordBoundary i) _ _ h

theorem reportPair (h : WorkFrame p q) (c : Bool) (a b : Report) : WorkFrame p (reportPair c a b q) :=
  ite (h.trans (by constructor <;> rfl)) (ite ((h.report _).report _) ((h.report _).report _))

theorem reportVerdict (h : WorkFrame p q) (a b : TeState) (te : Int) (x : Bool) (port : PortIx) (i : RecordIx) :
    WorkFrame p (reportVerdict a b te x port i q) := by
  unfold Machine.reportVerdict
  split
  all_goals first
    | exact h
    | exact h.report _
    | exact h.reportPair _ _ _

theorem judgeTe (h : WorkFrame p q) (port : PortIx) (i : RecordIx) : WorkFrame p (judgeTe port i q) := by
  unfold Machine.judgeTe
  dsimp only
  split
  · exact h
  · exact (h.withRecord _ _).reportVerdict _ _ _ _ _ _

theorem takeDelay (h : WorkFrame p q) (rtd : Int) (port : PortIx) (i : RecordIx) : WorkFrame p (takeDelay rtd port i q) := by
  unfold Machine.takeDelay
  refine WorkFrame.withRecord ?_ _ _
  split
  · exact (h.withRecord _ _).report _
  all_goals exact h.withRecord _ _

theorem measureEcho (h : WorkFrame p q) (rtd : Option Int) (port : PortIx) (i : RecordIx) :
    WorkFrame p (measureEcho rtd port i q) := by
  unfold Machine.measureEcho
  refine WorkFrame.judgeTe ?_ _ _
  split
  · exact h.withRecord _ _
  · exact ite ((h.report _).withRecord _ _) (h.takeDelay _ _ _)

theorem recordEcho (h : WorkFrame p q) (port : PortIx) (i : RecordIx) : WorkFrame p (recordEcho port i q) :=
  ite ((h.withRecord _ _).report _) (h.withRecord _ _)

theorem takeEcho (h : WorkFrame p q) (port : PortIx) (t : SlotTarget) (a b : Option Stamp) (x : EchoFields) :
    WorkFrame p (takeEcho port t a b x q) :=
  (((h.measureEcho _ _ _).recordEcho _ _).offerEcho _ _ _ _ _).offerEcho _ _ _ _ _

theorem countMissing (h : WorkFrame p q) (port : PortIx) (i : RecordIx) : WorkFrame p (countMissing port i q) :=
  ite (ite ((h.withRecord _ _).report _) (h.withRecord _ _)) h

theorem takeDistress (h : WorkFrame p q) (port : PortIx) (i : RecordIx) : WorkFrame p (takeDistress port i q) := by
  unfold Machine.takeDistress
  dsimp only
  exact ((((h.report _).report _).report _).report _).withRecord _ _

theorem liveOutcome (h : WorkFrame p q) (port : PortIx) (t : SlotTarget) (a b : Option Stamp) (o : SlotOutcome) :
    WorkFrame p (liveOutcome port t a b o q) := by
  unfold Machine.liveOutcome
  split
  · exact h.takeEcho _ _ _ _ _
  · exact h.takeDistress _ _
  · exact h.endLeft _ _
  · exact ((h.withRecord _ _).judgeTe _ _).countMissing _ _

theorem retiringOutcome (h : WorkFrame p q) (t : SlotTarget) (o : SlotOutcome) : WorkFrame p (retiringOutcome t o q) :=
  ite (h.endRetired _ _) (ite (h.endRetired _ _) h)

theorem recordOutcome (h : WorkFrame p q) (port : PortIx) (t : SlotTarget) (a b : Option Stamp) (o : SlotOutcome) :
    WorkFrame p (recordOutcome port t a b o q) := by
  unfold Machine.recordOutcome
  split
  · split
    · exact h
    · exact h
    · exact h.liveOutcome _ _ _ _ _
    · exact h.liveOutcome _ _ _ _ _
    · exact h.liveOutcome _ _ _ _ _
    · exact h.retiringOutcome _ _
  · exact h

theorem clearFresh (h : WorkFrame p q) : WorkFrame p (clearFresh q) := h.trans (by constructor <;> rfl)

theorem actOnTake (h : WorkFrame p q) (b : Bool) (t : Option Take) : WorkFrame p (actOnTake b t q) :=
  h.trans ((HubFrame.refl q).actOnTake b t).work

theorem hubSecondEvent (h : WorkFrame p q) : WorkFrame p (hubSecondEvent q) := by
  unfold Machine.hubSecondEvent
  refine WorkFrame.actOnTake ?_ _ _
  have c : ∀ {r : Part} (t : Take), WorkFrame p r → WorkFrame p (copyScale t r) := by
    intro r t hr
    unfold copyScale
    split
    · exact ite (hr.withHub _) hr
    · exact hr
  have s : WorkFrame p (if q.tb.stepMark = true then completeStep q else q) := ite ((h.withHub _).report _) h
  split
  · exact ite s.clearFresh (c _ s.clearFresh)
  · exact s.clearFresh

end WorkFrame

/-! ## Ports and pairs -/

/-- Everything but the tables, the hub record, the ports, the pairs and the alarms. -/
structure PortFrame (p q : Part) : Prop where
  tb        : { q.tb with next := p.tb.next, pendingStep := p.tb.pendingStep } = p.tb
  osc       : q.osc = p.osc
  lineClock : q.lineClock = p.lineClock
  mgmt      : q.mgmt = p.mgmt
  porn      : q.porn = p.porn
  wrst      : q.wrst = p.wrst

theorem WorkFrame.port {p q : Part} (h : WorkFrame p q) : PortFrame p q :=
  ⟨h.tb, h.osc, h.lineClock, h.mgmt, h.porn, h.wrst⟩

namespace PortFrame

variable {p q r : Part}

theorem refl (p : Part) : PortFrame p p := (WorkFrame.refl p).port

theorem trans (h : PortFrame p q) (k : PortFrame q r) : PortFrame p r where
  tb := by
    have a := h.tb; have b := k.tb
    have e : { r.tb with next := p.tb.next, pendingStep := p.tb.pendingStep } =
        { ({ r.tb with next := q.tb.next, pendingStep := q.tb.pendingStep } : TimeBase) with
          next := p.tb.next, pendingStep := p.tb.pendingStep } := rfl
    rw [e, b, a]
  osc := k.osc.trans h.osc
  lineClock := k.lineClock.trans h.lineClock
  mgmt := k.mgmt.trans h.mgmt
  porn := k.porn.trans h.porn
  wrst := k.wrst.trans h.wrst

/-- A test that leads to one of two kept outcomes. -/
theorem ite {c : Prop} [Decidable c] (h : PortFrame p q) (k : PortFrame p r) : PortFrame p (if c then q else r) := by
  split
  · exact h
  · exact k

theorem work (h : PortFrame p q) (k : WorkFrame q r) : PortFrame p r := h.trans k.port

theorem report (h : PortFrame p q) (x : Report) : PortFrame p (report x q) := h.trans (by constructor <;> rfl)

theorem withRecord (h : PortFrame p q) (i : RecordIx) (f : ServiceRecord → ServiceRecord) :
    PortFrame p (withRecord i f q) :=
  h.trans (by constructor <;> rfl)

theorem bindPort (h : PortFrame p q) (k : PortIx) : PortFrame p (bindPort k q) := h.trans (by constructor <;> rfl)

theorem withPair (h : PortFrame p q) (k : PairIx) (f : PairRecord → PairRecord) : PortFrame p (withPair k f q) :=
  h.trans (by constructor <;> rfl)

theorem withPort (h : PortFrame p q) (k : PortIx) (f : PortRecord → PortRecord) : PortFrame p (withPort k f q) :=
  h.trans (by constructor <;> rfl)

theorem withEngine (h : PortFrame p q) (k : PortIx) (f : Engine → Engine) : PortFrame p (withEngine k f q) :=
  h.trans (by constructor <;> rfl)

theorem considerRecord (h : PortFrame p q) (k : PairIx) (i : RecordIx) : PortFrame p (considerRecord k i q) :=
  ite (ite ((((h.withRecord _ _).report _).report _).bindPort _) (h.withRecord _ _)) h

theorem switchPass (h : PortFrame p q) (k : PairIx) : PortFrame p (switchPass k q) :=
  forEach_induct (R := PortFrame p) _ (fun i _ h => h.considerRecord k i) _ _ h

theorem returnRecord (h : PortFrame p q) (k : PairIx) (i : RecordIx) : PortFrame p (returnRecord k i q) :=
  ite (((h.withRecord _ _).report _).report _) h

theorem clearBlocked (h : PortFrame p q) (k : PairIx) : PortFrame p (clearBlocked k q) :=
  forEach_induct (R := PortFrame p) _ (fun _ _ h => ite (h.withRecord _ _) h) _ _ h

theorem returnPair (h : PortFrame p q) (k : PairIx) : PortFrame p (returnPair k q) :=
  ((forEach_induct (R := PortFrame p) _ (fun i _ h => h.returnRecord k i) _ _ h).withPair _ _).clearBlocked _

theorem enterWait (h : PortFrame p q) (k : PairIx) : PortFrame p (enterWait k q) :=
  ite (((h.withPair _ _).clearBlocked _).returnPair _) ((h.withPair _ _).clearBlocked _)

theorem markFaulted (h : PortFrame p q) (k : PortIx) : PortFrame p (markFaulted k q) :=
  forEach_induct (R := PortFrame p) _ (fun _ _ h => ite (h.report _) h) _ _ h

theorem clearFaulted (h : PortFrame p q) (k : PortIx) : PortFrame p (clearFaulted k q) :=
  forEach_induct (R := PortFrame p) _ (fun _ _ h => ite (h.report _) h) _ _ h

theorem portEntersFault (h : PortFrame p q) (k : PortIx) : PortFrame p (portEntersFault k q) := by
  refine PortFrame.markFaulted (ite ?_ ?_) _
  · unfold Machine.workingFault
    split
    · exact (h.switchPass _).withPair _ _
    · exact h.switchPass _
    · exact h.switchPass _
    · exact (h.switchPass _).withPair _ _
  · unfold Machine.protectFault
    split
    · exact h
    all_goals exact ite h (h.returnPair _)

theorem portLeavesFault (h : PortFrame p q) (k : PortIx) : PortFrame p (portLeavesFault k q) := by
  refine ite ?_ (h.clearFaulted _)
  unfold Machine.workingClean
  split
  · exact ite ((h.clearFaulted _).returnPair _) (ite ((h.clearFaulted _).enterWait _) (h.clearFaulted _))
  all_goals exact h.clearFaulted _

theorem pairWaits (h : PortFrame p q) (l : List PairIx) : PortFrame p (pairWaits l q) :=
  forEach_induct (R := PortFrame p) _
    (fun _ _ h => ite (ite ((h.withPair _ _).returnPair _) (h.withPair _ _)) h) _ _ h

theorem clearStale (h : PortFrame p q) (k : PairIx) : PortFrame p (clearStale k q) :=
  forEach_induct (R := PortFrame p) _ (fun _ _ h => ite (h.withRecord _ _) h) _ _ h

theorem sweepBoundary (h : PortFrame p q) : PortFrame p (sweepBoundary q) := by
  refine forEach_induct (R := PortFrame p) _ (fun _ _ h => ite (h.markFaulted _) h) _ _
    (forEach_induct (R := PortFrame p) _ (fun k r h => ?_) _ _ h)
  unfold Machine.sweepPair
  split
  · exact (h.clearStale _).switchPass _
  · exact (h.clearStale _).switchPass _
  · exact h
  · exact h

theorem reportOutcome (h : PortFrame p q) (k : PortIx) (o : SlotOutcome) : PortFrame p (reportOutcome k o q) := by
  unfold Machine.reportOutcome
  dsimp only
  split
  · exact h.withEngine _ _
  · exact (h.withEngine _ _).work ((WorkFrame.refl _).recordOutcome _ _ _ _ _)

theorem decideSlot (h : PortFrame p q) (k : PortIx) (o : SlotOutcome) (e : SlotError) :
    PortFrame p (decideSlot k o e q) :=
  (h.withPort _ _).reportOutcome _ _

theorem endSlot (h : PortFrame p q) (k : PortIx) : PortFrame p (endSlot k q) := by
  unfold Machine.endSlot
  dsimp only
  split
  · exact h
  · exact h.decideSlot _ _ _
  · exact h.decideSlot _ _ _
  · exact ite (h.decideSlot _ _ _) (h.withEngine _ _)

theorem judgePort (h : PortFrame p q) (k : PortIx) : PortFrame p (judgePort k q) := by
  unfold Machine.judgePort
  dsimp only
  split
  · exact ((h.withPort _ _).report _).portEntersFault _
  · exact ((h.withPort _ _).report _).portLeavesFault _
  · exact h.withPort _ _
  · exact h.withPort _ _

theorem beginPortSecond (h : PortFrame p q) (k : PortIx) : PortFrame p (beginPortSecond k q) :=
  h.trans (by constructor <;> rfl)

theorem portBoundary (h : PortFrame p q) (l : List PortIx) (k : PortIx) : PortFrame p (portBoundary l k q) :=
  (((h.endSlot _).judgePort _).withPort _ _).beginPortSecond _

theorem portsBoundary (h : PortFrame p q) (l m : List PortIx) : PortFrame p (portsBoundary l m q) :=
  forEach_induct (R := PortFrame p) _ (fun k _ h => h.portBoundary l k) _ _ h

/-- Each block's work at a boundary. -/
theorem boundaryWork (h : PortFrame p q) (c : BoundaryContext) (b : BoundaryArgs) (w : BoundaryWork) :
    PortFrame p (boundaryWork c b w q) := by
  cases w
  · exact h.work ((WorkFrame.refl _).inputsBoundary _)
  · exact h.work (WorkFrame.refl _).hubSecondEvent
  · exact h.work (WorkFrame.refl _).recordsBoundary
  · exact h.portsBoundary _ _
  · exact h.pairWaits _
  · exact h.sweepBoundary

/-- The boundary event as a whole: the Time Base, the oscillator record, the line clock, the Management Port and the
reset inputs stay as they stand, but for what the Discipline Unit hands over or requests. -/
theorem boundaryEvent (h : PortFrame p q) (c : BoundaryContext) (b : BoundaryArgs) :
    PortFrame p (boundaryEvent c b q) :=
  forEach_induct (R := PortFrame p) _ (fun w _ h => h.boundaryWork c b w) _ _ h

end PortFrame

end Sys2Proof.Machine
end

