-- ==== Sys2Proof/Tests/Slice0.lean ====
section
/-! SUPPORT. The package's own tests: terms that `wellFormed` refuses, single steps against figures of the spec, and for
every statement with hypotheses a concrete state that meets them. -/

namespace Sys2Proof.Tests

open Sys2Proof Sys2Proof.Machine

/-! ## Well-formed commands -/

/-- A header of 2, 3 or 4 names another operation (Figure 11-1). -/
theorem test_status_header_refused : wellFormed (.status 3#8) = false := by decide

theorem test_frame_length_refused : wellFormed (.writeM 0 (List.replicate 256 0#8)) = false := by decide +kernel

theorem test_unknown_frame_length_refused : wellFormed (.unknownRequest (List.replicate 256 0#8)) = false := by decide +kernel

theorem test_item_value_refused :
    wellFormed (.setPair 0 0 [{ field := 2, value := List.replicate 256 0#8 }]) = false := by decide +kernel

theorem test_items_room_refused :
    wellFormed (.setHubRecord 0 0 (List.replicate 84 { field := 2, value := [0#8] })) = false := by decide +kernel

theorem test_boundary_order_refused :
    wellFormed (.hubSecondBoundary { line := ⟨0, 0⟩, order := [.inputs, .inputs], portOrder := [] }) = false := by decide

theorem test_port_order_refused :
    wellFormed (.lockEntry { line := ⟨0, 0⟩, order := [], portOrder := [3, 3] }) = false := by decide

/-- The longest response is a long ECHO of 12 characters (Figure 11-7). -/
theorem test_response_length_refused :
    wellFormed (.responseError 0 (List.replicate 13 (characterOf 0x12#8))) = false := by decide +kernel

/-- A character of a response begins with a dominant start bit (R200). -/
theorem test_start_bit_refused : wellFormed (.leave 0 [0x3FF#10]) = false := by decide

theorem test_echo_length_refused :
    wellFormed (.delayStep 0 (List.replicate 13 (characterOf 0x12#8))) = false := by decide +kernel

theorem test_cause_refused : wellFormed (.slotQualify 2 (.boundary ⟨⟨0, 0⟩, [.sweep, .sweep], []⟩)) = false := by decide

theorem test_cause_frame_refused : wellFormed (.silentEntry 0 (.request (List.replicate 256 0#8))) = false := by decide +kernel

theorem test_cause_line_refused :
    wellFormed (.retireUnacknowledged 0 (.line 0 (.responseError (List.replicate 13 (characterOf 0x20#8))))) = false := by
  decide +kernel

theorem test_wellFormed_admits : wellFormed (.create 1 2 3 [{ field := 2, value := [0, 0, 5, 220] }]) = true := by decide

/-! ## States the tests start from -/

/-- The part after reset. -/
def base : Part := State.reset.part

/-- A state with nothing waiting. -/
def alone (p : Part) : State := { part := p, pending := [] }

/-- What a command makes of the part. -/
def after (c : Instr) (p : Part) : Part :=
  match exec c (alone p) with
  | .next t => t.part
  | .fault _ => p
  | .refused _ => p

/-- A boundary with the blocks in the usual order. -/
def tick : BoundaryArgs := { line := ⟨0, 0⟩, order := [], portOrder := [] }

/-- An ACTIVE record at address 1 on port 0, with a filter of 1,000 ns. -/
def terminal : ServiceRecord :=
  { state := .active, generation := 1, homePort := 0, currentPort := 0, address := 1, identity := some 0xA1
    filter := some 65536000, compensation := 65536000 }

/-- Record 3 as given, on a RUNNING port 0. -/
def withTerminal (r : ServiceRecord) : Part := (base.setRecord 3 r).setPort 0 { state := .running }

/-- The slot of record 3 is in progress on port 0. -/
def inSlot (r : ServiceRecord) (a : Activity) : Part :=
  (withTerminal r).setEngine 0
    { slot := .address 1, activity := a
      target := some { record := 3, generation := 1, dismiss := r.state == .retiring, filterHeld := true }
      t1 := some { time := { sec := 10, ns := 200000000 }, inHold := false }
      t4 := some { time := { sec := 10, ns := 200010000 }, inHold := false } }

/-- The OPEN slot of port 0, with an ENROL being received. -/
def inOpenSlot (mode : EnrolmentMode) (r : ServiceRecord) : Part :=
  ((base.setRecord 3 r).setPort 0 { state := .running, mode := mode }).setEngine 0
    { slot := .openSlot, activity := .response }

/-- Return slot 4 runs, bound to record 3 of generation 1. -/
def boundRunning : Part :=
  ((withTerminal { terminal with returnBinding := some 4 }).setSlot 4 { binding := some (3, 1) }).setInput 4
    { wholeSecond := true }

/-- The packet slot as given, with its input as given. -/
def withPkt (r : SlotRecord) (x : SlotInput) : Part := (base.setSlot 2 r).setInput 2 x

/-- A packet message: sequence 17, valid, offset 42 ns (2,752,512 q), error bound 30 ns. -/
def pktGood : List Byte := [17, 1, 0, 0, 0, 0, 0, 42, 0, 0, 0, 0, 0, 30, 36]

/-- The same message with the valid flag off. -/
def pktOff : List Byte := [17, 0, 0, 0, 0, 0, 0, 42, 0, 0, 0, 0, 0, 30, 37]

def pktGoodFields : PktMessage := { sequence := 17, valid := true, offset := 2752512, bound := 30, sound := true }
def pktOffFields : PktMessage := { sequence := 17, valid := false, offset := 2752512, bound := 30, sound := true }

/-- A ToD message: second 100, tracking, estimate 20 ns, scale 0. -/
def tod : List Byte := [0, 0, 0, 0, 0, 100, 1, 0, 0, 0, 20, 0, 0, 113]

def todFields : TodMessage := { seconds := 100, tracking := true, estimate := 20, scale := 0, sound := true }

/-- The hub in a state, following the packet slot, with a fresh sample there. -/
def following (state : HubState) (sample : Sample) (h : HubRecord) : Part :=
  { withPkt { state := .qualified } { last := some sample, completed := true, wholeSecond := true } with
    selected := some 2, hub := { h with state := state, selected := some 2 } }

/-- A sample of 10 ns. -/
def sampleNear : Sample := { outcome := .good, value := some 655360, accuracy := some 50 }

/-- A sample of 60 ns, outside the lock window of 50 ns. -/
def sampleOut : Sample := { outcome := .good, value := some 3932160, accuracy := some 50 }

/-- A sample of 2,000 ns, beyond the step threshold of 1,000 ns. -/
def sampleFar : Sample := { outcome := .good, value := some 131072000, accuracy := some 50 }

/-- An entry of an owner. -/
def entryOf (o : Owner) : Entry :=
  { owner := o, generation := none, raised := 1#16, cleared := 0#16, severity := .minor, ancillary := false, cause := 3 }

/-- The law of one record: with every other record VACANT the two laws of R94 hold. -/
theorem recordLaws_of_one (p : Part) (i : RecordIx) (h : ∀ j, j ≠ i → (p.record j).state = .vacant) : RecordLaws p := by
  have one : ∀ j, (p.record j).state ≠ .vacant → j = i := fun j hj => by
    by_contra hne
    exact hj (h j hne)
  have counted : ∀ (q : PortIx) j, (p.record j).counts q = true → (p.record j).state ≠ .vacant := by
    intro q j hc hv
    simp [ServiceRecord.counts, hv] at hc
  exact ⟨fun q i j hi hj _ => (one i (counted q i hi)).trans (one j (counted q j hj)).symm,
    fun x i j hi hj _ _ => (one i hi).trans (one j hj).symm⟩

/-- With no slot bound and no record that names a slot, the two halves of every binding agree. -/
theorem bindingsAgree_of_none (p : Part) (hs : ∀ k, (p.slot k).binding = none)
    (hr : ∀ i, (p.record i).returnBinding = none) : BindingsAgree p :=
  ⟨fun k _ => hs k, fun k i g h => by simp [hs k] at h, fun i k h => by simp [hr i] at h⟩

/-- With record 3 of generation 1 bound to slot 4, and nothing else bound, the two halves of every binding agree. -/
theorem agrees_of_slot4 (p : Part) (hs : ∀ k : SlotIx, (p.slot k).binding = if k = 4 then some (3, 1) else none)
    (hr : ∀ i : RecordIx, (p.record i).returnBinding = if i = 3 then some 4 else none)
    (hg : (p.record 3).generation = 1 ∧ (p.record 3).state ≠ .vacant ∧ (p.record 3).state ≠ .retiring) :
    BindingsAgree p := by
  refine ⟨fun k hk => ?_, fun k i g h => ?_, fun i k h => ?_⟩
  · rw [hs, if_neg]
    rintro rfl
    exact absurd hk (by decide)
  · rw [hs] at h
    split at h
    · rename_i e
      simp only [Option.some.injEq, Prod.mk.injEq] at h
      obtain ⟨rfl, rfl⟩ := h
      exact ⟨by rw [hr, e]; rfl, hg⟩
    · exact absurd h (by simp)
  · rw [hr] at h
    split at h
    · rename_i e
      simp only [Option.some.injEq] at h
      subst h
      rw [hs, e, hg.1]
      rfl
    · exact absurd h (by simp)

/-! ## The premises of the statements: machine, resets, Time Base -/

/-- EveryCommandCompletesAndLoadsTheBuffer: a read of the RESTART notice leaves an empty buffer and no reset asserted. -/
theorem witness_EveryCommand :
    (after .readA base).held = false ∧ (alone base).pending.head? ≠ some .alarmBufferLoad ∧
      (after .readA base).alarm.buffer = none := by decide +kernel

theorem witness_PowerOnReset : (alone base).part.wrst = false ∧ (alone base).part.mgmt.transaction = none := by decide

def oncelocked : Part := { base with hub := { base.hub with wasLocked := true, state := .locked, bound := 65536000 } }

theorem witness_WarmReset :
    oncelocked.held = false ∧ oncelocked.hub.wasLocked = true ∧ base.held = false ∧ base.hub.wasLocked = false := by decide

def warmHeld : Part := after .wrstnAssert base

theorem witness_WarmRelease :
    warmHeld.wrst = true ∧ warmHeld.porn = false ∧ warmHeld.alarm.buffer = none ∧ ∃ e, warmHeld.alarm.list = [e] := by
  refine ⟨by decide +kernel, by decide +kernel, by decide +kernel, _, rfl⟩

theorem witness_Ready : base.Ready := by unfold Part.Ready; decide

theorem witness_BoundaryAdvances : base.porn = false ∧ base.tb.pendingStep = none := by decide

def stepping : Part := { base with tb := { base.tb with second := 5000, pendingStep := some 2700000000 } }

theorem witness_BoundaryApplies :
    stepping.porn = false ∧ stepping.tb.pendingStep = some 2700000000 ∧
      (2700000000 : Int) = 3 * 1000000000 + -300000000 ∧ (-500000000 : Int) ≤ -300000000 ∧
      (-300000000 : Int) < 500000000 := by decide

def inHold : Part := { base with tb := { base.tb with holdNs := 1200, lengthNs := 1000001200, elapsed := 65536 } }

theorem witness_HoldEnds :
    inHold.porn = false ∧ inHold.tb.holding = true ∧ inHold.tb.holdNs < inHold.tb.lengthNs ∧ base.porn = false ∧
      base.tb.hso = true ∧ base.tb.elapsed ≤ 100 * qPerMs ∧ 100000000 < base.tb.lengthNs := by decide

def slowed : Part := { base with tb := { base.tb with applied := -3276800000 } }

theorem witness_RawSecond :
    slowed.porn = false ∧ magnitude slowed.tb.applied ≤ correctionLimit ∧ slowed.tb.remainder < qPerSecond ∧
      (slowed.tb.elapsed : Int) + qPerSecond + slowed.tb.applied < (slowed.tb.lengthNs : Int) * 65536 := by decide

def oscLocked : Part := { base with osc := { base.osc with locked := true } }

/-- S and W of the oscillator record in one SET; the second lies outside its range. -/
def oscillatorItems : List RawItem := [{ field := 1, value := [0, 0, 0, 5] }, { field := 4, value := [0, 0, 0, 17] }]

theorem witness_LockedOscillator :
    oscLocked.Ready ∧ oscLocked.osc.locked = true ∧ oscillatorItems ≠ [] ∧ itemsFit 251 oscillatorItems = true ∧
      oscillatorAdmits oscillatorItems = true := by
  unfold Part.Ready; decide

theorem witness_OscillatorRecordStays :
    ({ part := oscLocked, pending := [.wrstnAssert] } : State).part.osc.locked = true ∧
      ({ part := oscLocked, pending := [.wrstnAssert] } : State).pending.head? ≠ some .pornAssert ∧
      ∃ t, step { part := oscLocked, pending := [.wrstnAssert] } = .next t := by
  refine ⟨by decide, by decide, _, rfl⟩

/-! ## Reference Inputs -/

theorem witness_Edges : base.held = false ∧ base.running (SatIx.slot 0) = true := by decide

def withEdge : Part :=
  base.setInput 0 { pendingEdge := some { reading := { sec := 100 }, interval := some 65536000000000 } }

theorem witness_Tod :
    withEdge.held = false ∧ withEdge.running (SatIx.slot 0) = true ∧ decodeTod tod = some todFields ∧
      todFields.sound = true ∧
      (withEdge.input (SatIx.slot 0)).pendingEdge =
        some { reading := { sec := 100 }, interval := some 65536000000000 } ∧
      (withEdge.input (SatIx.slot 0)).completed = false ∧ todFields.tracking = true ∧
      ¬ ((withEdge.slot 0).acceptLimit < todFields.estimate) := by decide

/-- A message whose checksum fails. -/
theorem witness_Tod_unsound :
    decodeTod [0, 0, 0, 0, 0, 100, 1, 0, 0, 0, 20, 0, 0, 0] = some { todFields with sound := false } := by decide

theorem witness_Pkt : base.TakesPkt pktGood pktGoodFields := by unfold Part.TakesPkt; decide

theorem witness_Pkt_invalid : base.TakesPkt pktOff pktOffFields ∧ pktOffFields.valid = false := by
  unfold Part.TakesPkt; decide

/-- A measurement that began at the release of PORn, at an edge. -/
def measuring : Part :=
  { base.setInput 3 { lineStart := some ⟨0, 0⟩, wholeSecond := true } with lineClock := { present := true } }

/-- Ten million edges in a raw second, the latest 0.75 ns before the boundary. -/
def lineTick : BoundaryArgs := { line := ⟨10000000, 49152⟩, order := [], portOrder := [] }

theorem witness_BoundaryCompletesLine :
    measuring.held = false ∧ measuring.running lineSlot = true ∧ measuring.lineClock.present = true ∧
      (measuring.input lineSlot).lineStart = some ⟨0, 0⟩ ∧
      (0 : Int) < (measuring.tb.raw + (roundDiv (measuring.tb.lengthNs * 65536 * 65536000000000 : Nat)
        ((65536000000000 : Int) + measuring.tb.applied).toNat).toNat : Nat) ∧
      lineTick.line.cycles ≠ 0 ∧ tick.line.cycles = 0 := by decide

theorem witness_BoundaryCompletesMissing :
    base.held = false ∧ base.running 1 = true ∧ (base.input 1).wholeSecond = true ∧ (base.input 1).completed = false := by
  decide

/-- LINE has run the whole second with no measurement; return slot 4 runs with no slot open and no record that retires. -/
theorem witness_BoundaryCompletesMissing_others :
    base.running lineSlot = true ∧ (base.input lineSlot).wholeSecond = true ∧ (base.input lineSlot).completed = false ∧
      (base.input lineSlot).lineStart = none ∧ base.lineClock.present = false ∧ boundRunning.held = false ∧
      boundRunning.running 4 = true ∧ (boundRunning.input 4).wholeSecond = true ∧
      (boundRunning.input 4).completed = false ∧ boundRunning.NoSlotOpen ∧ boundRunning.NoneRetires := by
  unfold Part.NoSlotOpen Part.NoneRetires; decide +kernel

/-- A message that has half arrived at slot 0, and began before the edge. -/
def halfMessage : Part := base.setInput 0 { message := some { bytes := tod.take 6, afterEdge := false } }

theorem witness_SerialCharacters :
    ([1#8, 2#8] : List Byte).length < 14 ∧ (0 : Nat) < 14 ∧ tod.length = 14 ∧ (tod.take 13).length < 14 ∧
      pktGood.length = 15 ∧ (pktGood.take 14).length < 15 ∧ base.held = false ∧ base.running (SatIx.slot 1) = true ∧
      base.running pktSlot = true ∧ halfMessage.running (SatIx.slot 0) = true ∧
      (halfMessage.input (SatIx.slot 0)).message = some { bytes := tod.take 6, afterEdge := false } ∧
      0 < (tod.drop 6).length ∧ (tod.take 6).length + (tod.drop 6).length = 14 ∧
      decodeTod (tod.take 6 ++ tod.drop 6) = some todFields ∧
      (halfMessage.input (SatIx.slot 0)).pendingEdge = none := by decide

/-- The ranges of the fields of R201, at their ends. -/
theorem witness_SerialFields :
    (2 ^ 48 - 1 : Nat) < 2 ^ 48 ∧ (2 ^ 32 - 1 : Nat) < 2 ^ 32 ∧ (-32768 : Int) ≤ -32768 ∧ (32767 : Int) < 32768 ∧
      (-(2 ^ 63) : Int) ≤ -(2 ^ 63) ∧ (2 ^ 63 - 1 : Int) < 2 ^ 63 := by decide

def aboutToQualify : Part := withPkt { wtr := 10, goodRun := 9 } {}
def aboutToFail : Part := withPkt { state := .qualified, badRun := 2 } {}
def aboutToOutlie : Part := withPkt { state := .qualified, outlierRun := 2 } { jumpReference := some 0, jumpRun := 2 }

/-- A record of slot `k` in each state, at its thresholds and short of them. -/
theorem witness_Thresholds_samples (k : SlotIx) (r : SlotRecord) : (base.setSlot k r).slot k = r := by
  simp [Part.slot, Part.setSlot]

theorem witness_Thresholds_records :
    (∃ r : SlotRecord, r.forced = false ∧ r.state = .candidate ∧ r.wtr = 10 ∧ min (r.goodRun + 1) 65535 = 10) ∧
      (∃ r : SlotRecord, r.forced = false ∧ r.state = .candidate ∧ min (r.goodRun + 1) 65535 < r.wtr) ∧
      (∃ r : SlotRecord, r.forced = false ∧ r.state = .qualified ∧ r.badRun + 1 = r.holdOff ∧ r.outlierRun + 1 < 3) ∧
      (∃ r : SlotRecord, r.forced = false ∧ r.state = .qualified ∧ r.holdOff < r.badRun + 1 ∧ 3 ≤ r.outlierRun + 1) ∧
      (∃ r : SlotRecord, r.forced = false ∧ r.state = .failed ∧ r.wtr = 1) ∧
      (∃ r : SlotRecord, r.forced = false ∧ r.state = .failed ∧ r.wtr = 2) ∧
      (∃ r : SlotRecord, r.forced = true) ∧ ∃ r : SlotRecord, r.state = .disabled :=
  ⟨⟨{ wtr := 10, goodRun := 9 }, by decide⟩, ⟨{ wtr := 10 }, by decide⟩,
    ⟨{ state := .qualified, holdOff := 2, badRun := 1 }, by decide⟩,
    ⟨{ state := .qualified, holdOff := 2, badRun := 2, outlierRun := 2 }, by decide⟩,
    ⟨{ state := .failed, wtr := 1 }, by decide⟩, ⟨{ state := .failed, wtr := 2 }, by decide⟩,
    ⟨{ forced := true }, rfl⟩, ⟨{ state := .disabled }, rfl⟩⟩

theorem witness_Thresholds_qualify :
    aboutToQualify.TakesPkt pktGood pktGoodFields ∧ pktGoodFields.valid = true ∧
      magnitude pktGoodFields.offset ≤ 32768000000000 ∧ (aboutToQualify.input pktSlot).jumpReference = none ∧
      (aboutToQualify.slot pktSlot).forced = false ∧ (aboutToQualify.slot pktSlot).state = .candidate ∧
      (aboutToQualify.slot pktSlot).wtr ≤ min ((aboutToQualify.slot pktSlot).goodRun + 1) 65535 := by
  unfold Part.TakesPkt; decide

theorem witness_Thresholds_holdOff :
    aboutToFail.TakesPkt pktOff pktOffFields ∧ pktOffFields.valid = false ∧ (aboutToFail.slot pktSlot).forced = false ∧
      (aboutToFail.slot pktSlot).state = .qualified ∧
      (aboutToFail.slot pktSlot).holdOff < (aboutToFail.slot pktSlot).badRun + 1 := by
  unfold Part.TakesPkt; decide

/-- The jump limit of slot 2 is 500 ns by default; a limit of 20 ns is one its range admits. -/
def narrow : Part := aboutToOutlie.setSlot 2 { aboutToOutlie.slot 2 with jumpLimit := 20 }

theorem witness_Thresholds_outlier :
    narrow.TakesPkt pktGood pktGoodFields ∧ (narrow.input pktSlot).jumpReference = some 0 ∧
      (narrow.slot pktSlot).jumpLimit * 65536 < magnitude (pktGoodFields.offset - 0) ∧
      (narrow.slot pktSlot).forced = false ∧ (narrow.slot pktSlot).state = .qualified ∧
      3 ≤ (narrow.slot pktSlot).outlierRun + 1 ∧ 2 ≤ (narrow.input pktSlot).jumpRun := by
  unfold Part.TakesPkt; decide

/-- Slot 1 at the boundary whose MISSING sample takes the bad run over the hold-off. -/
def aboutToMiss : Part := base.setSlot 1 { state := .qualified, badRun := 2 }

/-- Return slot 4 there, with its record auto-retiring at the same boundary. -/
def missingAndRetiring : Part :=
  (boundRunning.setSlot 4 { state := .qualified, badRun := 2, binding := some (3, 1) }).setRecord 3
    { boundRunning.record 3 with state := .silent, autoRetire := 5, silentSeconds := 4 }

theorem witness_Thresholds_boundary :
    aboutToMiss.held = false ∧ aboutToMiss.running 1 = true ∧ (aboutToMiss.input 1).wholeSecond = true ∧
      (aboutToMiss.input 1).completed = false ∧ (aboutToMiss.slot 1).forced = false ∧
      (aboutToMiss.slot 1).state = .qualified ∧ (aboutToMiss.slot 1).holdOff < (aboutToMiss.slot 1).badRun + 1 := by
  decide

theorem witness_Thresholds_retiring :
    missingAndRetiring.held = false ∧ missingAndRetiring.running 4 = true ∧
      (missingAndRetiring.input 4).wholeSecond = true ∧ (missingAndRetiring.input 4).completed = false ∧
      missingAndRetiring.NoSlotOpen ∧ standsBefore (worksOf tick) .inputs .records = true ∧
      (missingAndRetiring.slot 4).forced = false ∧ (missingAndRetiring.slot 4).state = .qualified ∧
      (missingAndRetiring.slot 4).holdOff < (missingAndRetiring.slot 4).badRun + 1 ∧
      (missingAndRetiring.slot 4).binding = some (3, 1) ∧ retiresNow (missingAndRetiring.record 3) = true := by
  unfold Part.NoSlotOpen; decide +kernel

theorem missingAndRetiring_agrees : BindingsAgree missingAndRetiring :=
  agrees_of_slot4 _ (by decide +kernel) (by decide +kernel) (by decide +kernel)

/-! ## Reference Selector -/

theorem witness_ForceFail :
    base.Ready ∧ indexOf 6 2#8 = some 2 ∧ (base.slot 2).state ≠ .disabled ∧ (base.slot 2).forced = false := by
  unfold Part.Ready; decide

def forced : Part := base.setSlot 2 { state := .failed, forced := true }

theorem witness_Release : forced.Ready ∧ indexOf 6 2#8 = some 2 ∧ (forced.slot 2).forced = true ∧ 6 ≤ (6#8).toNat := by
  unfold Part.Ready; decide

theorem witness_Lockout : base.Ready ∧ indexOf 6 0#8 = some 0 ∧ (base.slot 0).lockout = false := by
  unfold Part.Ready; decide

/-- Slots 0 and 2 stand QUALIFIED, slot 0 is selected, and the choice is revertive. -/
def twoQualified : Part :=
  { (base.setSlot 0 { state := .qualified, priority := 1 }).setSlot 2 { state := .qualified, priority := 3 } with
    selected := some 0, hub := { base.hub with state := .acquire, selected := some 0 } }

theorem witness_Prefer :
    twoQualified.Ready ∧ indexOf 6 2#8 = some 2 ∧ twoQualified.hub.settings.preferred ≠ some 2 ∧
      twoQualified.hub.settings.revertive = true ∧ twoQualified.eligible 2 = true := by
  unfold Part.Ready; decide

theorem witness_Bind :
    (withTerminal terminal).Ready ∧ indexOf 6 4#8 = some 4 ∧ 4 ≤ (4 : SlotIx).val ∧ indexOf 48 3#8 = some 3 ∧
      ((withTerminal terminal).record 3).state ≠ .vacant ∧ ((withTerminal terminal).record 3).state ≠ .retiring ∧
      ((withTerminal terminal).slot 4).binding = none ∧ ((withTerminal terminal).record 3).returnBinding = none := by
  unfold Part.Ready; decide

def boundSlot : Part :=
  (withTerminal { terminal with returnBinding := some 4 }).setSlot 4 { binding := some (3, 1) }

theorem witness_Unbind :
    boundSlot.Ready ∧ indexOf 6 4#8 = some 4 ∧ (boundSlot.slot 4).binding = some (3, 1) ∧ boundSlot.selected ≠ some 4 ∧
      (boundSlot.slot 4).binding ≠ none ∧ { boundSlot with selected := some 4 }.selected = some 4 := by
  unfold Part.Ready; decide

/-! ## Discipline Unit -/

theorem witness_SelectionReport :
    (∃ k : SlotIx, (some 2 : Option SlotIx) = some k ∧ k ≠ lineSlot) ∧ base.hub.state ≠ .lockedFreq ∧
      (following .acquire sampleNear {}).hub.state = .acquire ∧ (following .acquire sampleNear {}).hub.wasLocked = false ∧
      (following .bridging sampleNear {}).hub.state = .bridging ∧ base.alarm.settings.hubThreshold = some .note := by
  decide

theorem witness_Steps :
    (following .acquire sampleFar {}).take =
        some { outcome := .good, value := some 131072000, accuracy := some 50, scale := none } ∧
      (following .acquire sampleFar {}).hub.state = .acquire ∧ (following .acquire sampleFar {}).tb.stepMark = false ∧
      (following .acquire sampleFar {}).hub.settings.stepThreshold * 65536 < magnitude 131072000 ∧
      (following .acquire sampleFar {}).hub.stepPermission = true ∧
      { following .acquire sampleFar {} with tb := { stepMark := true } }.tb.stepMark = true := by decide

theorem witness_Locked :
    (following .locked sampleNear {}).hub.state = .locked ∧ (following .locked sampleNear {}).tb.stepMark = false ∧
      (following .locked sampleNear {}).take =
        some { outcome := .good, value := some 655360, accuracy := some 50, scale := none } ∧
      (following .locked sampleNear {}).selected ≠ none := by decide

/-- The same hub at a take that is not GOOD. -/
theorem witness_Locked_bad :
    (following .locked { sampleNear with outcome := .invalid } {}).take =
      some { outcome := .invalid, value := some 655360, accuracy := some 50, scale := none } := by decide

def drifting : Part :=
  { base with
    hub := { base.hub with
      state := .holdover, bound := 65536000
      prediction := some { uEntry := 65536000, base := 0, stability := 4096, aging := 32768, drift := 0 } } }

theorem witness_Holdover :
    drifting.hub.state = .holdover ∧ drifting.tb.stepMark = false ∧ drifting.selected = none ∧
      drifting.hub.prediction =
        some { uEntry := 65536000, base := 0, stability := 4096, aging := 32768, drift := 0 } ∧ drifting.hub.t = 0 ∧
      ¬ drifting.hub.settings.holdoverLimit * 65536 < 65536000 + 4096 := by decide

/-- A prediction that has passed H. -/
def expiring : Part :=
  { drifting with
    hub := { drifting.hub with
      prediction := some { uEntry := 72089600, base := 0, stability := 4096, aging := 32768, drift := 0 } } }

theorem witness_Holdover_expiry :
    expiring.hub.state = .holdover ∧ expiring.hub.settings.holdoverLimit * 65536 < 72089600 + 4096 := by decide

/-- The hub following LINE in a state, with a fresh offset of 16 ppb there. -/
def followingLine (h : HubRecord) (outcome : SampleOutcome) : Part :=
  { base.setInput 3 { last := some { outcome := outcome, value := some 1048576 }, completed := true } with
    selected := some 3, hub := { h with selected := some 3 } }

theorem witness_LineFollowed :
    (followingLine { state := .lockedFreq, lineCount := some ⟨65536000, 6554⟩ } .good).hub.state = .lockedFreq ∧
      (followingLine { state := .lockedFreq, lineCount := some ⟨65536000, 6554⟩ } .good).selected = some lineSlot ∧
      (followingLine { state := .lockedFreq, lineCount := some ⟨65536000, 6554⟩ } .good).take =
        some { outcome := .good, value := some 1048576, accuracy := none, scale := none } ∧
      (followingLine { state := .lockedFreq, lineCount := some ⟨65536000, 6554⟩ } .good).hub.lineCount =
        some ⟨65536000, 6554⟩ ∧
      (followingLine { state := .lockedFreq } .missing).take =
        some { outcome := .missing, value := some 1048576, accuracy := none, scale := none } ∧
      (followingLine { state := .lockedFreq } .missing).selected ≠ none := by decide

def prediction : Prediction := { uEntry := 65536000, base := 0, stability := 4096, aging := 32768, drift := 0 }

theorem witness_Bridging :
    (following .bridging sampleNear { prediction := some prediction }).hub.state = .bridging ∧
      (following .bridging sampleNear { prediction := some prediction }).hub.bridgedFrom = .locked ∧
      (following .bridging sampleNear { prediction := some prediction }).hub.prediction = some prediction ∧
      (following .bridging sampleNear { prediction := some prediction }).take =
        some { outcome := .good, value := some 655360, accuracy := some 50, scale := none } ∧
      (following .bridging { sampleNear with outcome := .invalid } { prediction := some prediction }).take =
        some { outcome := .invalid, value := some 655360, accuracy := some 50, scale := none } ∧
      (following .bridging { sampleNear with outcome := .invalid } { prediction := some prediction }).selected ≠ none ∧
      (followingLine { state := .bridging, bridgedFrom := .lockedFreq, prediction := some prediction } .good).take =
        some { outcome := .good, value := some 1048576, accuracy := none, scale := none } ∧
      (followingLine { state := .bridging, bridgedFrom := .lockedFreq, prediction := some prediction } .good).selected =
        some lineSlot := by decide

theorem witness_Expired :
    ({ drifting with hub := { drifting.hub with state := .holdoverExpired } } : Part).hub.state = .holdoverExpired ∧
      ({ drifting with hub := { drifting.hub with state := .holdoverExpired } } : Part).selected = none ∧
      ({ drifting with hub := { drifting.hub with state := .holdoverExpired } } : Part).hub.prediction =
        some prediction := by decide

def aboutToLock : Part := following .acquire sampleNear { inWindow := 15 }

theorem witness_Lock_entry :
    aboutToLock.held = false ∧ aboutToLock.NoSlotOpen ∧ aboutToLock.NoneRetires ∧
      (beforeWork tick .discipline aboutToLock).hub.state = .acquire ∧
      (beforeWork tick .discipline aboutToLock).tb.stepMark = false ∧
      (beforeWork tick .discipline aboutToLock).take =
        some { outcome := .good, value := some 655360, accuracy := some 50, scale := none } ∧
      magnitude 655360 ≤ (beforeWork tick .discipline aboutToLock).hub.settings.stepThreshold * 65536 ∧
      magnitude 655360 ≤ (beforeWork tick .discipline aboutToLock).hub.settings.lockWindow * 65536 ∧
      16 ≤ (beforeWork tick .discipline aboutToLock).hub.inWindow + 1 := by
  unfold Part.NoSlotOpen Part.NoneRetires; decide +kernel

def aboutToReacquire : Part := following .locked sampleOut { outOfWindow := 63 }

theorem witness_Reacquire :
    aboutToReacquire.held = false ∧ aboutToReacquire.NoSlotOpen ∧ aboutToReacquire.NoneRetires ∧
      (beforeWork tick .discipline aboutToReacquire).hub.state = .locked ∧
      (beforeWork tick .discipline aboutToReacquire).tb.stepMark = false ∧
      (beforeWork tick .discipline aboutToReacquire).take =
        some { outcome := .good, value := some 3932160, accuracy := some 50, scale := none } ∧
      (beforeWork tick .discipline aboutToReacquire).hub.settings.lockWindow * 65536 < magnitude 3932160 ∧
      64 ≤ (beforeWork tick .discipline aboutToReacquire).hub.outOfWindow + 1 := by
  unfold Part.NoSlotOpen Part.NoneRetires; decide +kernel

/-! ## Requests on the tables, and the Record Table -/

theorem witness_Looks :
    (withTerminal terminal).Ready ∧ indexOf 48 3#8 = some 3 ∧ ((withTerminal terminal).record 3).state ≠ .vacant ∧
      indexOf 48 4#8 = some 4 ∧ ((withTerminal terminal).record 4).state = .vacant ∧ indexOf 6 5#8 = some 5 ∧
      indexOf 12 11#8 = some 11 ∧ 48 ≤ (48#8).toNat ∧ 12 ≤ (12#8).toNat ∧ 6 ≤ (6#8).toNat := by
  unfold Part.Ready; decide

theorem base_empty :
    (∀ j, (base.record j).state = .vacant) ∧ (∀ j, (base.record j).returnBinding = none) ∧
      ∀ k, (base.slot k).binding = none := by decide

theorem other_record (r : ServiceRecord) (j : RecordIx) (hj : j ≠ 3) : (base.setRecord 3 r).record j = base.record j := by
  simp only [Part.record, Part.setRecord]
  exact Vector.getElem_set_ne _ _ (by intro h; exact hj (Fin.ext h.symm))

theorem terminal_alone (r : ServiceRecord) (j : RecordIx) (hj : j ≠ 3) : ((withTerminal r).record j).state = .vacant :=
  (congrArg ServiceRecord.state (other_record r j hj)).trans (base_empty.1 j)

theorem witness_Find :
    (withTerminal terminal).Ready ∧ RecordLaws (withTerminal terminal) ∧ indexOf 12 0#8 = some 0 ∧
      indexOf 4 1#8 = some 1 ∧ ((withTerminal terminal).record 3).state ≠ .vacant ∧
      ((withTerminal terminal).record 3).address = 1 ∧ ((withTerminal terminal).record 3).homePort = 0 ∧
      ((withTerminal terminal).record 3).identity = some 0xA1 := by
  refine ⟨by unfold Part.Ready; decide, recordLaws_of_one _ 3 (terminal_alone _), ?_⟩
  decide

/-- No record matches: port 5 carries none, and no record holds identity 2. -/
theorem witness_Find_none :
    (∀ i : RecordIx, ((withTerminal terminal).record i).state ≠ .vacant → ((withTerminal terminal).record i).address = 1 →
        ((withTerminal terminal).record i).homePort ≠ 5 ∧ ((withTerminal terminal).record i).currentPort ≠ 5) ∧
      ∀ i : RecordIx, ((withTerminal terminal).record i).state ≠ .vacant →
        ((withTerminal terminal).record i).identity ≠ some 2 := by decide +kernel

/-- A budget below its range, an identity made absent, the statistics off, and a static offset below its range. -/
def recordItems : List RawItem :=
  [{ field := 2, value := [0, 0, 0, 19] }, { field := 1, value := [] }, { field := 10, value := [0] },
    { field := 5, value := [0xFF, 0xFE, 0x79, 0x5F] }]

/-- The identity A1. -/
def identityItem : List RawItem := [{ field := 1, value := [0, 0, 0, 0, 0, 0xA1] }]

/-- Record 3 holds A1, and record 47 is RESERVED. -/
def twoRecords : Part := (withTerminal terminal).setRecord 47 { state := .reserved, homePort := 5, currentPort := 5 }

theorem witness_SetRecord :
    (withTerminal terminal).Ready ∧ recordItems ≠ [] ∧ itemsFit 251 recordItems = true ∧ recordAdmits recordItems = true ∧
      recordAdmits [{ field := 7, value := [2] }] = false ∧ 48 ≤ (48#8).toNat ∧ indexOf 48 47#8 = some 47 ∧
      indexOf 48 3#8 = some 3 ∧ ((withTerminal terminal).record 47).state = .vacant ∧
      ((withTerminal { terminal with state := .retiring }).record 3).state = .retiring ∧
      ((withTerminal terminal).record 3).state = .active ∧ named recordItems 1 = true ∧
      ((withTerminal { terminal with state := .reserved }).record 3).state = .reserved ∧
      valueOf recordItems 10 = some [0] ∧ clampsAny recordRanges recordItems = true := by
  unfold Part.Ready; decide +kernel

theorem witness_SetRecord_identity :
    (twoRecords.record 47).state = .reserved ∧ valueOf identityItem 1 = some [0, 0, 0, 0, 0, 0xA1] ∧
      recordAdmits identityItem = true ∧ (3 : RecordIx) ≠ 47 ∧ (twoRecords.record 3).state ≠ .vacant ∧
      (twoRecords.record 3).identity = some (BitVec.ofNat 48 (numberOf [0, 0, 0, 0, 0, 0xA1])) ∧
      named oscillatorItems 1 = true ∧ named [{ field := 2, value := [0, 0, 0, 19] }] 1 = false := by decide +kernel

theorem witness_SetSlot :
    base.Ready ∧ indexOf 6 5#8 = some 5 ∧ 6 ≤ (6#8).toNat ∧ slotAdmits 0 [{ field := 7, value := [0, 0, 0, 1] }] = true ∧
      slotAdmits 2 [{ field := 7, value := [0, 0, 0, 1] }] = false ∧
      slotAdmits 0 [{ field := 1, value := [0] }, { field := 2, value := [0, 0, 0, 9] }] = true ∧
      (base.slot 0).state ≠ .disabled ∧ valueOf [{ field := 1, value := [0] }] 1 = some [0] ∧
      ((base.setSlot 0 { state := .disabled }).slot 0).state = .disabled ∧
      heldNumber (slotRanges 0) [{ field := 7, value := [0, 0, 0, 1] }] 2 (base.slot 0).priority = (base.slot 0).priority := by
  unfold Part.Ready; decide +kernel

theorem witness_SetPort :
    base.Ready ∧ portAdmits [{ field := 2, value := [1] }] = true ∧ portAdmits [{ field := 2, value := [2] }] = false ∧
      12 ≤ (12#8).toNat ∧ indexOf 12 11#8 = some 11 ∧ (base.port 11).state ≠ .disabled ∧
      ((base.setPort 11 { state := .disabled }).port 11).state = .disabled := by
  unfold Part.Ready; decide

/-- A pair in a state, with its revertive setting. -/
def paired (state : PairState) (revertive : Bool) : Part :=
  base.setPair 0 { state := state, revertive := revertive, waitCount := 9 }

theorem witness_SetPair :
    base.Ready ∧ pairAdmits [{ field := 1, value := [0] }] = true ∧ pairAdmits [{ field := 3, value := [0] }] = false ∧
      6 ≤ (6#8).toNat ∧ indexOf 6 0#8 = some 0 ∧ (base.pair 0).state = .normal ∧
      ((paired .restoreWait true).pair 0).state = .restoreWait ∧ ((paired .restoreWait true).pair 0).revertive = true ∧
      heldFlag [{ field := 1, value := [0] }] 1 true = false ∧
      ((paired .switchedAuto false).pair 0).state = .switchedAuto ∧ ((paired .switchedAuto false).pair 0).revertive = false ∧
      heldFlag [{ field := 1, value := [1] }] 1 false = true ∧ ((paired .switchedAuto false).port (workingPort 0)).line = .clean ∧
      (0 : Int) < ((paired .switchedAuto false).pair 0).wtr ∧
      heldNumber pairRanges [{ field := 2, value := [0, 0, 0, 0] }] 2 300 ≤ 0 := by
  unfold Part.Ready; decide

theorem witness_SetHub :
    base.Ready ∧ hubAdmits [{ field := 6, value := [5] }, { field := 1, value := [2] }] = true ∧
      hubAdmits [{ field := 1, value := [3] }] = false ∧ hubAdmits [{ field := 6, value := [6] }] = true ∧
      valueOf [{ field := 6, value := [6] }] 6 = some [6#8] ∧ 6 ≤ (6#8).toNat ∧ (6#8 : Byte) ≠ 0xFF#8 ∧
      (5#8).toNat < 6 ∧ heldCode [{ field := 2, value := [0, 0, 0, 60] }] 6 (fun c => indexOf 6 c) none = none := by
  unfold Part.Ready; decide

theorem witness_SetOscillatorAndAlarm :
    base.Ready ∧ base.osc.locked = false ∧ oscillatorAdmits oscillatorItems = true ∧
      oscillatorAdmits [{ field := 6, value := [0, 0, 0, 1] }] = false ∧
      alarmAdmits [{ field := 1, value := [5] }, { field := 9, value := [0, 0, 0, 9] }] = true ∧
      alarmAdmits [{ field := 1, value := [6] }] = false := by
  unfold Part.Ready; decide

theorem witness_Create :
    (withTerminal terminal).Ready ∧ itemsFit 251 recordItems = true ∧ recordAdmits recordItems = true ∧
      recordAdmits [{ field := 7, value := [2] }] = false ∧ 4 ≤ (4#8).toNat ∧ (3#8).toNat < 4 ∧ 12 ≤ (12#8).toNat ∧
      indexOf 12 0#8 = some 0 ∧ indexOf 4 2#8 = some 2 ∧
      (withTerminal terminal).addressFree 0 2 = true ∧ ((withTerminal terminal).record 0).state = .vacant ∧
      (withTerminal terminal).recordHeld 0 = false ∧ indexOf 4 1#8 = some 1 ∧
      (withTerminal terminal).addressFree 0 1 = false ∧ ((withTerminal terminal).record 3).state ≠ .vacant ∧
      ((withTerminal terminal).record 3).identity = some (BitVec.ofNat 48 (numberOf [0, 0, 0, 0, 0, 0xA1])) := by
  unfold Part.Ready; decide +kernel

/-- Every record RESERVED, twelve ports of four addresses each. -/
def fullTable : Part :=
  { base with
    records := Vector.ofFn (fun i : Fin 48 =>
      ({ state := .reserved, homePort := ⟨i.val / 4, by omega⟩, currentPort := ⟨i.val / 4, by omega⟩
         address := ⟨i.val % 4, by omega⟩ } : ServiceRecord)) }

/-- Every VACANT record held by news of the table's last occupants: an affected mask of all ones in the buffer. -/
def allHeld : Part :=
  { base with
    alarm := { base.alarm with
      buffer := some { entry := { entryOf .hub with affected := some (BitVec.allOnes 48) }, standing := 0 } } }

theorem witness_Create_full :
    allHeld.Ready ∧ allHeld.addressFree 0 2 = true ∧
      (∀ i, (allHeld.record i).state ≠ .vacant ∨ allHeld.recordHeld i = true) ∧
      ∀ i, (fullTable.record i).state ≠ .vacant := by
  unfold Part.Ready; decide +kernel

theorem bindings_terminal (r : ServiceRecord) (h : r.returnBinding = none) : BindingsAgree (withTerminal r) := by
  refine bindingsAgree_of_none _ base_empty.2.2 (fun i => ?_)
  by_cases hi : i = 3
  · subst hi
    exact h
  · exact (congrArg ServiceRecord.returnBinding (other_record r i hi)).trans (base_empty.2.1 i)

theorem witness_Retire :
    (withTerminal terminal).Ready ∧ indexOf 48 3#8 = some 3 ∧ BindingsAgree (withTerminal terminal) ∧
      ((withTerminal terminal).record 3).state = .active ∧ ((withTerminal terminal).record 3).returnBinding = none := by
  refine ⟨by unfold Part.Ready; decide, by decide, bindings_terminal _ rfl, by decide⟩

theorem witness_Retire_immediate :
    BindingsAgree (withTerminal { terminal with state := .silent }) ∧
      ((withTerminal { terminal with state := .silent }).record 3).state = .silent ∧
      (withTerminal { terminal with state := .silent }).alarm.settings.recordThreshold = some .note := by
  refine ⟨bindings_terminal _ rfl, by decide⟩

/-- The one record is bound to slot 4, and the two halves agree. -/
theorem boundSlot_agrees : BindingsAgree boundSlot :=
  agrees_of_slot4 _ (by decide +kernel) (by decide +kernel) (by decide +kernel)

theorem witness_Retire_bound :
    ({ boundSlot with selected := some 4 } : Part).Ready ∧ BindingsAgree { boundSlot with selected := some 4 } ∧
      (boundSlot.record 3).state ≠ .vacant ∧ (boundSlot.record 3).state ≠ .retiring ∧
      (boundSlot.record 3).returnBinding ≠ none ∧
      (boundSlot.record 3).returnBinding = ({ boundSlot with selected := some 4 } : Part).selected := by
  refine ⟨by unfold Part.Ready; decide, boundSlot_agrees, by decide⟩

/-- The characters of an ENROL of an identity with a wish byte (Figure 11-7). -/
def enrolOf (x : Identity) (wish : Byte) : List LineChar := responseCharacters (0x40#8 :: (bytesOf 6 x.toNat ++ [wish]))

theorem witness_Enrol :
    acceptedResponse true (enrolOf 0xB2 1#8) = some (.enrol 0xB2 (some 1)) ∧
      acceptedResponse true (enrolOf 0xA1 0xFF#8) = some (.enrol 0xA1 none) := by decide +kernel

/-- Two records with a clash: record 3 holds identity A1 on port 0, and A1 enrols again. -/
theorem witness_Enrol_duplicate :
    (inOpenSlot .closed terminal).held = false ∧ ((inOpenSlot .closed terminal).engine 0).activity = .response ∧
      ((inOpenSlot .closed terminal).engine 0).slot = .openSlot ∧
      ((inOpenSlot .closed terminal).record 3).identity = some 0xA1 ∧
      ((inOpenSlot .closed terminal).record 3).state ≠ .vacant ∧
      ((inOpenSlot .closed terminal).record 3).state ≠ .reserved := by decide

theorem openSlot_laws (m : EnrolmentMode) (r : ServiceRecord) : RecordLaws (inOpenSlot m r) := by
  exact recordLaws_of_one _ 3 (terminal_alone r)

theorem witness_Enrol_reserved :
    RecordLaws (inOpenSlot .closed { terminal with state := .reserved }) ∧
      ((inOpenSlot .closed { terminal with state := .reserved }).record 3).state = .reserved ∧
      ((inOpenSlot .closed { terminal with state := .reserved }).record 3).currentPort = 0 ∧
      ((inOpenSlot .closed { terminal with state := .reserved }).record 3).identity = some 0xA1 := by
  refine ⟨openSlot_laws _ _, by decide⟩

/-- Record 3 is RESERVED on port 0 at address 1 without an identity; B2 enrols with the wish 1, with none, or with 2. -/
theorem witness_Enrol_unnamed :
    ((inOpenSlot .closed { terminal with state := .reserved, identity := none }).record 3).identity = none ∧
      ((inOpenSlot .closed { terminal with state := .reserved, identity := none }).record 3).address = 1 ∧
      (∀ j : RecordIx, ((inOpenSlot .closed { terminal with state := .reserved, identity := none }).record j).state ≠ .vacant →
        ((inOpenSlot .closed { terminal with state := .reserved, identity := none }).record j).identity ≠ some 0xB2) ∧
      ∀ j : RecordIx, j < 3 →
        ((inOpenSlot .closed { terminal with state := .reserved, identity := none }).record j).state = .reserved →
        ((inOpenSlot .closed { terminal with state := .reserved, identity := none }).record j).currentPort = 0 →
        ((inOpenSlot .closed { terminal with state := .reserved, identity := none }).record j).identity ≠ none := by
  decide +kernel

/-- Identity B2 enrols: no record holds it, and none is reserved on port 0. In OPEN mode the lowest free address is 0, and
the wish 1 is not free. -/
theorem witness_Enrol_open :
    (∀ i : RecordIx, ((inOpenSlot .open terminal).record i).state ≠ .vacant →
        ((inOpenSlot .open terminal).record i).identity ≠ some 0xB2) ∧
      (∀ i : RecordIx, ((inOpenSlot .open terminal).record i).state = .reserved →
        ((inOpenSlot .open terminal).record i).currentPort ≠ 0) ∧
      ((inOpenSlot .open terminal).port 0).mode = .open ∧ ((inOpenSlot .closed terminal).port 0).mode = .closed ∧
      ((inOpenSlot .open terminal).record 0).state = .vacant ∧ (inOpenSlot .open terminal).recordHeld 0 = false ∧
      (inOpenSlot .open terminal).addressFree 0 1 = false ∧
      (inOpenSlot .open terminal).addressFree 0 0 = true ∧ (inOpenSlot .open terminal).addressFree 0 3 = true ∧
      ∀ w : Address, w < 0 → (inOpenSlot .open terminal).addressFree 0 w = false := by decide +kernel

/-- The OPEN slot of port 0 in OPEN mode, with no address free there, or with no record to take. -/
theorem witness_Enrol_full :
    (∀ a : Address, ({ inOpenSlot .open {} with records := fullTable.records } : Part).addressFree 0 a = false) ∧
      (∀ i : RecordIx, (({ inOpenSlot .open {} with alarm := allHeld.alarm } : Part).record i).state ≠ .vacant ∨
        ({ inOpenSlot .open {} with alarm := allHeld.alarm } : Part).recordHeld i = true) ∧
      ∀ i : RecordIx, (({ inOpenSlot .open {} with alarm := allHeld.alarm } : Part).record i).state ≠ .reserved := by
  decide +kernel

/-! ## Slot outcomes -/

def target (dismiss : Bool) : SlotTarget := { record := 3, generation := 1, dismiss := dismiss, filterHeld := true }

/-- A round trip of 3,000 ns: 10,000 ns on the line less a turnaround of 7,000 ns. -/
def turnaround : EchoFields := { turnaround := 7000, ret := none }

/-- The characters of that short ECHO. -/
def echoShort : List LineChar := responseCharacters (0x11#8 :: bytesOf 4 7000)

theorem witness_Echo :
    (inSlot terminal .response).LiveSlot 0 (target false) ∧
      ((inSlot terminal .response).engine 0).activity = .response ∧
      ((inSlot terminal .response).engine 0).t1 = some { time := { sec := 10, ns := 200000000 }, inHold := false } ∧
      ((inSlot terminal .response).engine 0).t4 = some { time := { sec := 10, ns := 200010000 }, inHold := false } := by
  unfold Part.LiveSlot; decide

/-- RTD = 10,000 − 7,000 = 3,000 ns is 196,608,000 q, within 0 and 1,000,000 ns; d is 1,500 ns, beyond 200 ns of 1,000.
A turnaround of 10,000 ns would make RTD 0, one of 7,000 ns after 1,007,001 ns on the line takes it over 1,000,000 ns. -/
theorem witness_Echo_step :
    acceptedEcho echoShort = some turnaround ∧
      (HubTime.toQ { sec := 10, ns := 200010000 } - HubTime.toQ { sec := 10, ns := 200000000 } -
        turnaround.turnaround.toNat * 65536) = 196608000 ∧
      (0 : Int) < 196608000 ∧ (196608000 : Int) ≤ 65536000000 ∧ roundDiv (196608000 * 32768) 65536 = 98304000 ∧
      (13107200 : Int) < magnitude (98304000 - 65536000) ∧
      5 ≤ ({ terminal with outlierRun := 4 } : ServiceRecord).outlierRun + 1 ∧ ((10000 - 10000) * 65536 : Int) ≤ 0 ∧
      (65536000000 : Int) < (1007001 - 7000) * 65536 := by decide +kernel

/-- The same slot with t4 taken in a hold. -/
def heldEcho : Part :=
  (inSlot terminal .response).setEngine 0
    { (inSlot terminal .response).engine 0 with t4 := some { time := { sec := 10, ns := 200010000 }, inHold := true } }

theorem witness_Echo_hold :
    heldEcho.LiveSlot 0 (target false) ∧ (heldEcho.engine 0).activity = .response ∧
      (heldEcho.engine 0).t4 = some { time := { sec := 10, ns := 200010000 }, inHold := true } := by
  unfold Part.LiveSlot; decide

/-- A long ECHO with an offset of −1 ns, an accuracy of 40 ns and validity on. -/
def echoLong : List LineChar :=
  responseCharacters (0x12#8 :: (bytesOf 4 7000 ++ [0xFF, 0xFF, 0xFF] ++ [0, 40] ++ [1]))

/-- The slot of the bound record 3 is in progress on port 0, with return slot 4 running. -/
def boundEcho : Part := boundRunning.setEngine 0 ((inSlot terminal .response).engine 0)

theorem witness_LongEcho :
    boundEcho.LiveSlot 0 (target false) ∧ (boundEcho.engine 0).activity = .response ∧
      acceptedEcho echoLong =
        some
          { turnaround := 7000
            ret := some { offset := 0xFFFFFF, accuracy := 40, validity := 1 } } ∧
      BindingsAgree boundEcho ∧ (boundEcho.slot 4).binding = some ((target false).record, (target false).generation) ∧
      boundEcho.running 4 = true ∧ (boundEcho.input 4).completed = false ∧ (target false).filterHeld = true ∧
      turnaround.ret = none := by
  refine ⟨by unfold Part.LiveSlot; decide, by decide, by decide +kernel,
    agrees_of_slot4 _ (by decide +kernel) (by decide +kernel) (by decide +kernel), by decide⟩

/-- A long ECHO to a slot that has its sample already, of validity other than 1, or of a record without a filter. -/
theorem witness_LongEcho_others :
    ((boundEcho.setInput 4 { completed := true }).input 4).completed = true ∧ (0#8 : Byte) ≠ 1 ∧
      ({ target false with filterHeld := false } : SlotTarget).filterHeld = false := by decide

theorem slot_bindings (r : ServiceRecord) (a : Activity) (h : r.returnBinding = none) : BindingsAgree (inSlot r a) := by
  obtain ⟨h1, h2, h3⟩ := bindings_terminal r h
  exact ⟨h1, h2, h3⟩

/-- The characters of a LEAVE and of a DISTRESS are accepted in an address slot. -/
theorem witness_LeaveAndDistress :
    acceptedResponse false (responseCharacters [0x20#8]) = some .leave ∧
      acceptedResponse false (responseCharacters [0x30#8]) = some .distress := by decide +kernel

theorem witness_Leave : BindingsAgree (inSlot terminal .response) := slot_bindings _ _ rfl

theorem witness_Leave_retiring :
    (inSlot { terminal with state := .retiring } .response).held = false ∧
      ((inSlot { terminal with state := .retiring } .response).engine 0).activity = .response ∧
      ((inSlot { terminal with state := .retiring } .response).engine 0).slot.isAddress = true ∧
      ((inSlot { terminal with state := .retiring } .response).engine 0).target = some (target true) ∧
      ((inSlot { terminal with state := .retiring } .response).record 3).generation = (target true).generation ∧
      ((inSlot { terminal with state := .retiring } .response).record 3).state = .retiring := by decide

theorem witness_Missing :
    (inSlot terminal .window).LiveSlot 0 (target false) ∧ ((inSlot terminal .window).record 3).state ≠ .silent ∧
      (inSlot terminal .window).MissesSlot 0 (.responseWindowClose 0) .windowClose .noResponse ∧
      (inSlot terminal .response).MissesSlot 0 (.responseError 0 [characterOf 0x55#8])
        (.responseError [characterOf 0x55#8]) .range ∧
      (inSlot terminal .response).MissesSlot 0 (.quietSlotStart 0) .quietSlotStart .overrun := by
  unfold Part.LiveSlot
  exact ⟨by decide, by decide, Or.inl (by decide),
    Or.inr (Or.inl ⟨_, rfl, rfl, by decide +kernel, by decide⟩), Or.inr (Or.inr (Or.inl (by decide)))⟩

/-- The first bit of the break, and the first recessive bit after it, read back at the other level. -/
theorem witness_Missing_readback :
    (inSlot terminal (.driving (delayFrame 1 0 false))).LiveSlot 0 (target false) ∧
      (inSlot terminal (.driving (delayFrame 1 0 false))).MissesSlot 0 (.readbackMismatch 0 0 .recessive)
        (.readbackMismatch 0 .recessive) .readback ∧
      (inSlot terminal (.driving (delayFrame 1 0 false))).MissesSlot 0 (.readbackMismatch 0 16 .dominant)
        (.readbackMismatch 16 .dominant) .readback := by
  unfold Part.LiveSlot
  exact ⟨by decide, Or.inr (Or.inr (Or.inr ⟨_, _, _, .dominant, rfl, rfl, rfl, rfl, by decide +kernel, by decide⟩)),
    Or.inr (Or.inr (Or.inr ⟨_, _, _, .recessive, rfl, rfl, rfl, rfl, by decide +kernel, by decide⟩))⟩

/-- The eighth missing slot, and one before it. -/
theorem witness_Missing_limit :
    ({ terminal with silentCount := 7 } : ServiceRecord).silentLimit ≤ ({ terminal with silentCount := 7 } : ServiceRecord).silentCount + 1 ∧
      terminal.silentCount + 1 < terminal.silentLimit := by decide

/-- A RETIRING record at its last DISMISS attempt. -/
def lastAttempt : ServiceRecord := { terminal with state := .retiring, dismissAttempts := 3 }

theorem witness_ThirdDismiss (a : Activity) :
    (inSlot lastAttempt a).held = false ∧ ((inSlot lastAttempt a).engine 0).slot.isAddress = true ∧
      ((inSlot lastAttempt a).engine 0).target = some (target true) ∧ (target true).dismiss = true ∧
      ((inSlot lastAttempt a).record 3).generation = (target true).generation ∧
      ((inSlot lastAttempt a).record 3).state = .retiring ∧ 3 ≤ ((inSlot lastAttempt a).record 3).dismissAttempts ∧
      ((inSlot { lastAttempt with dismissAttempts := 2 } a).record 3).dismissAttempts < 3 := by
  refine ⟨rfl, rfl, rfl, rfl, rfl, rfl, by exact Nat.le_refl 3, by exact Nat.lt_succ_self 2⟩

/-- The ends of a DISMISS slot without a LEAVE: the window, an error, an ECHO, a DISTRESS and a read-back. -/
theorem witness_ThirdDismiss_ends :
    (inSlot lastAttempt .window).EndsWithoutLeave 0 (.responseWindowClose 0) (.line 0 .windowClose) .noResponse ∧
      (inSlot lastAttempt .response).EndsWithoutLeave 0 (.responseError 0 [characterOf 0x55#8])
        (.line 0 (.responseError [characterOf 0x55#8])) .range ∧
      (inSlot lastAttempt .response).EndsWithoutLeave 0 (.echo 0 (responseCharacters [0x11#8, 0#8, 0#8, 0#8, 1#8]))
        (.line 0 (.echo (responseCharacters [0x11#8, 0#8, 0#8, 0#8, 1#8]))) .none ∧
      (inSlot lastAttempt .response).EndsWithoutLeave 0 (.distress 0 (responseCharacters [0x30#8]))
        (.line 0 (.distress (responseCharacters [0x30#8]))) .none ∧
      (inSlot lastAttempt (.driving (dismissFrame 1))).EndsWithoutLeave 0 (.readbackMismatch 0 0 .recessive)
        (.line 0 (.readbackMismatch 0 .recessive)) .readback :=
  ⟨Or.inl ⟨_, Or.inl ⟨rfl, rfl, rfl, rfl⟩, rfl⟩,
    Or.inl ⟨_, Or.inr (Or.inl ⟨_, rfl, rfl, by decide +kernel, rfl⟩), rfl⟩,
    Or.inr (Or.inl ⟨_, Or.inl ⟨rfl, rfl, by decide +kernel⟩, rfl, rfl⟩),
    Or.inr (Or.inl ⟨_, Or.inr ⟨rfl, rfl, by decide +kernel⟩, rfl, rfl⟩),
    Or.inl ⟨_, Or.inr (Or.inr (Or.inr ⟨_, _, _, .dominant, rfl, rfl, rfl, rfl, by decide +kernel, by decide⟩)), rfl⟩⟩

/-- The ends at the next slot start and at the boundary, and what is not one of them. -/
theorem witness_ThirdDismiss_starts :
    (inSlot lastAttempt .response).EndsWithoutLeave 0 (.quietSlotStart 0) (.line 0 .quietSlotStart) .overrun ∧
      (inSlot lastAttempt .window).EndsWithoutLeave 0 (.delaySlotStart 0 2) (.line 0 (.delaySlotStart 2)) .noResponse ∧
      (inSlot lastAttempt (.driving (dismissFrame 1))).EndsWithoutLeave 0 (.openSlotStart 0) (.line 0 .openSlotStart)
        .overrun ∧
      (inSlot lastAttempt .response).EndsWithoutLeave 0 (.hubSecondBoundary tick) (.boundary tick) .overrun ∧
      ¬(inSlot lastAttempt .window).StartsSlot 0 (.responseWindowClose 0) (.line 0 .windowClose) := by
  refine ⟨Or.inr (Or.inr ⟨Or.inl ⟨rfl, rfl⟩, Or.inr (Or.inl ⟨rfl, rfl⟩)⟩),
    Or.inr (Or.inr ⟨Or.inr (Or.inl ⟨_, rfl, rfl⟩), Or.inl ⟨rfl, rfl⟩⟩),
    Or.inr (Or.inr ⟨Or.inr (Or.inr (Or.inl ⟨rfl, rfl, by decide⟩)), Or.inr (Or.inr ⟨_, rfl, rfl, rfl⟩)⟩),
    Or.inr (Or.inr ⟨Or.inr (Or.inr (Or.inr (Or.inr ⟨_, rfl, rfl⟩))), Or.inr (Or.inl ⟨rfl, rfl⟩)⟩), ?_⟩
  unfold Part.StartsSlot
  simp

/-- A RETIRING record on a port in FAULT, between slots, with two attempts made and with one. -/
theorem witness_ThirdDismiss_unsent (n : Nat) (p : Part)
    (h : p = (withTerminal { lastAttempt with dismissAttempts := n }).setPort 0 { state := .running, line := .fault }) :
    p.held = false ∧ (p.engine 0).activity = .idle ∧ RecordLaws p ∧ (p.record 3).currentPort = 0 ∧
      (p.record 3).address = 1 ∧ (p.record 3).state = .retiring ∧ (p.port 0).line = .fault ∧
      (p.record 3).dismissAttempts = n := by
  subst h
  exact ⟨rfl, rfl, recordLaws_of_one _ 3 (terminal_alone _), rfl, rfl, rfl, rfl, rfl⟩

/-- A record whose window has counted 63 slots, with two good ones. -/
def nearlyClosed : ServiceRecord :=
  { terminal with window := { count := 63, minRtd := some 65536000, maxRtd := some 65601537, good := 2, missed := 1 } }

theorem witness_SixtyFourth :
    (inSlot nearlyClosed .window).LiveSlot 0 (target false) ∧
      (inSlot nearlyClosed .window).MissesSlot 0 (.responseWindowClose 0) .windowClose .noResponse ∧
      nearlyClosed.statistics = true ∧ nearlyClosed.window.count = 63 ∧ 2 ≤ nearlyClosed.window.good ∧
      ¬ 2 ≤ ({ nearlyClosed with window := { count := 63, good := 1 } } : ServiceRecord).window.good := by
  unfold Part.LiveSlot; exact ⟨by decide, Or.inl (by decide), by decide⟩

/-- The same record on a port in FAULT, where its slot ends with no frame sent. -/
theorem witness_SixtyFourth_unsent :
    ((withTerminal nearlyClosed).setPort 0 { line := .fault, state := .running }).held = false ∧
      (((withTerminal nearlyClosed).setPort 0 { line := .fault, state := .running }).engine 0).activity = .idle ∧
      RecordLaws ((withTerminal nearlyClosed).setPort 0 { line := .fault, state := .running }) ∧
      nearlyClosed.currentPort = 0 ∧ nearlyClosed.address = 1 ∧ nearlyClosed.state = .active := by
  refine ⟨by decide, by decide, recordLaws_of_one _ 3 (terminal_alone _), by decide⟩

/-- The same record's ECHO of 3,000 ns. -/
theorem witness_SixtyFourth_echo :
    (inSlot nearlyClosed .response).LiveSlot 0 (target false) ∧
      ((inSlot nearlyClosed .response).engine 0).activity = .response ∧ acceptedEcho echoShort = some turnaround ∧
      ((inSlot nearlyClosed .response).engine 0).t1 = some { time := { sec := 10, ns := 200000000 }, inHold := false } ∧
      ((inSlot nearlyClosed .response).engine 0).t4 = some { time := { sec := 10, ns := 200010000 }, inHold := false } := by
  unfold Part.LiveSlot; decide +kernel

/-- A record whose time error reaches MARGINAL or EXCEEDED, with no earlier link term or one that L does not exceed; an entry
of another owner waits. U is 1,000 ns, the budget 1,500 ns, and L the 0 ns of the asymmetry, or 400 or 600 ns. -/
theorem witness_TimeErrors :
    (inSlot terminal .window).LiveSlot 0 (target false) ∧ terminal.filter ≠ none ∧
      (terminal.statistics = false ∨ terminal.window.count + 1 < 64) ∧ terminal.silentCount + 1 < terminal.silentLimit ∧
      4 * (65536000 : Int) ≤ 3 * (1500 * 65536) ∧ ¬ 4 * (65536000 + 400 * 65536 : Int) ≤ 3 * (1500 * 65536) ∧
      (65536000 + 400 * 65536 : Int) ≤ 1500 * 65536 ∧ ¬ (65536000 + 600 * 65536 : Int) ≤ 1500 * 65536 ∧
      TeState.marginal ≠ terminal.teState ∧ (400 * 65536 : Int) ≤ 400 * 65536 ∧ (3 : Nat) ≠ 0 ∧
      ∀ e ∈ [entryOf .hub], e.owner ≠ .record 3 := by
  unfold Part.LiveSlot; decide

/-- A record in MARGINAL, with its condition standing. -/
theorem witness_TimeErrors_clear :
    hasCondition
        (({ base.alarm with recordStanding := base.alarm.recordStanding.set 3 1#16 } : AlarmUnit).standingOf (.record 3))
        .teMarginal = true ∧ TeState.within ≠ .marginal ∧
      hasCondition
        (({ base.alarm with recordStanding := base.alarm.recordStanding.set 3 2#16 } : AlarmUnit).standingOf (.record 3))
        .teExceeded = true := by decide

/-- The ECHO of 3,000 ns of a record with a filter, which lies beyond the gate: a quiet outlier, the fifth of a run, or
unmeasured in a hold. -/
theorem witness_TimeErrors_echo :
    (inSlot terminal .response).LiveSlot 0 (target false) ∧ ((inSlot terminal .response).engine 0).activity = .response ∧
      acceptedEcho echoShort = some turnaround ∧ terminal.filter = some 65536000 ∧ terminal.outlierRun + 1 < 5 ∧
      (13107200 : Int) < magnitude (98304000 - 65536000) ∧
      5 ≤ ({ terminal with outlierRun := 4 } : ServiceRecord).outlierRun + 1 ∧ heldEcho.LiveSlot 0 (target false) := by
  unfold Part.LiveSlot; decide +kernel

theorem witness_Staged :
    (withTerminal { terminal with stagedOffset := some (-40) }).held = false ∧
      (withTerminal { terminal with stagedOffset := some (-40) }).NoSlotOpen ∧
      retiresNow ((withTerminal { terminal with stagedOffset := some (-40) }).record 3) = false ∧
      ((withTerminal { terminal with stagedOffset := some (-40) }).record 3).state ≠ .vacant := by
  unfold Part.NoSlotOpen; decide

theorem witness_AutoRetire :
    BindingsAgree (withTerminal { terminal with state := .silent, autoRetire := 5, silentSeconds := 4 }) ∧
      ((withTerminal { terminal with state := .silent, autoRetire := 5, silentSeconds := 4 }).record 3).state = .silent ∧
      ((withTerminal { terminal with state := .silent, autoRetire := 5, silentSeconds := 4 }).record 3).autoRetire ≠ 0 ∧
      ((withTerminal { terminal with state := .silent, autoRetire := 5, silentSeconds := 4 }).record 3).autoRetire ≤
        min (((withTerminal { terminal with state := .silent, autoRetire := 5, silentSeconds := 4 }).record 3).silentSeconds + 1)
          65535 := by
  refine ⟨bindings_terminal _ rfl, by decide⟩

/-! ## Port Engines -/

theorem witness_AddressSlots :
    (withTerminal terminal).held = false ∧ ((withTerminal terminal).engine 0).activity = .idle ∧
      RecordLaws (withTerminal terminal) ∧ ((withTerminal terminal).record 3).currentPort = 0 ∧
      ((withTerminal terminal).record 3).address = 1 ∧ ((withTerminal terminal).record 3).state = .active ∧
      ((withTerminal terminal).port 0).state = .running ∧ ((withTerminal terminal).port 0).line = .clean := by
  refine ⟨by decide, by decide, recordLaws_of_one _ 3 (terminal_alone _), by decide⟩

theorem witness_AddressSlots_others :
    ((withTerminal { terminal with state := .retiring }).record 3).state = .retiring ∧
      (((withTerminal terminal).setPort 0 { line := .fault, state := .running }).port 0).line = .fault ∧
      (((withTerminal terminal).setPort 0 { state := .disabled }).port 0).state = .disabled ∧
      ∀ i : RecordIx, ((withTerminal terminal).record i).state ≠ .vacant →
        ((withTerminal terminal).record i).state ≠ .reserved → ((withTerminal terminal).record i).currentPort = 0 →
        ((withTerminal terminal).record i).address ≠ 2 := by decide +kernel

/-- Port 0 in OPEN mode between slots, with a verdict to send. -/
def betweenSlots (mode : EnrolmentMode) (v : Option Verdict) : Part :=
  (base.setPort 0 { state := .running, mode := mode }).setEngine 0 { slot := .address 3, verdict := v }

theorem witness_OpenSlot :
    (betweenSlots .open none).held = false ∧ ((betweenSlots .open none).engine 0).activity = .idle ∧
      800000000 ≤ (betweenSlots .open none).tb.lengthNs ∧ ((betweenSlots .open none).port 0).state = .running ∧
      ((betweenSlots .open none).port 0).line = .clean ∧ ((betweenSlots .open none).port 0).mode = .open ∧
      (betweenSlots .open none).addressFree 0 2 = true ∧ ((betweenSlots .open none).record 0).state = .vacant ∧
      (betweenSlots .open none).recordHeld 0 = false := by decide

def refusal : Verdict := { identity := 0xB2, result := .refuse .closed }

theorem witness_VerdictSlot :
    ((betweenSlots .closed (some refusal)).engine 0).verdict = some refusal ∧
      ((betweenSlots .closed (some refusal)).port 0).state = .running ∧ (base.port 0).state ≠ .running ∧
      ({ base with tb := { base.tb with lengthNs := 799999999 } } : Part).tb.lengthNs < 800000000 := by decide

theorem witness_FramesSent :
    ((inSlot terminal (.driving (delayFrame 1 0 true))).engine 0).activity = .driving (delayFrame 1 0 true) ∧
      (delayFrame 1 0 true).kind = .delay ∧
      ((inSlot terminal (.driving (delayFrame 1 0 true))).engine 0).target = some (target false) ∧
      ((inSlot terminal (.driving (delayFrame 1 0 true))).record 3).state ≠ .vacant ∧
      (dismissFrame 1).kind = .dismiss ∧ (openFrame []).kind = .openFrame ∧ base.epoch.kind = .epoch ∧
      (verdictFrame refusal).kind = .verdict ∧ ((inSlot terminal .window).engine 0).activity = .window := by decide

/-- A LEAVE: its payload, a sum that is not its checksum, and its checksum character without a stop bit. -/
theorem witness_LineCharacters :
    decodeResponse [0x20#8] = some .leave ∧ (0xE1#8 : Byte) ≠ -(byteSum [0x20#8]) ∧
      [0x20#8] ++ [-(byteSum [0x20#8])] = [0x20#8] ++ dataOf (characterOf 0xE0#8 &&& 0x3FE#10) :: [] ∧
      (characterOf 0xE0#8 &&& 0x3FE#10).getLsbD 0 = false ∧ (3#8).toNat < 4 ∧ 4 ≤ (4#8).toNat ∧ (4#8 : Byte) ≠ 0xFF#8 ∧
      (0x55#8 : Byte) ≠ 0x11#8 ∧ decodeResponse (0x40#8 :: (bytesOf 6 0xB2 ++ [3#8])) = some (.enrol 0xB2 (some 3)) := by
  decide +kernel

/-- Only an ENROL belongs to the OPEN slot. -/
theorem witness_LineCharacters_slot :
    (false = true ↔ ∃ x w, Response.leave = .enrol x w) ∧
      (true = true ↔ ∃ x w, Response.enrol 0xB2 (some 3) = .enrol x w) := by
  simp

theorem witness_Wake :
    base.held = false ∧ (base.port 0).state = .parked ∧ ((withTerminal terminal).port 0).state = .running ∧
      ((withTerminal terminal).engine 0).activity = .idle ∧ ((base.setPort 0 { state := .disabled }).port 0).state = .disabled ∧
      ((inSlot terminal .window).port 0).state = .running ∧ ((inSlot terminal .window).engine 0).activity ≠ .idle := by
  decide

theorem witness_TurnOff :
    (withTerminal terminal).Ready ∧ indexOf 12 0#8 = some 0 ∧ ((withTerminal terminal).port 0).state ≠ .disabled ∧
      ((withTerminal terminal).engine 0).target = none ∧
      (base.setPort 0 { enabled := false, state := .disabled }).Ready ∧
      ((base.setPort 0 { enabled := false, state := .disabled }).port 0).state = .disabled := by
  unfold Part.Ready; decide

/-- Port 0 turned off with a slot of record 3 in progress: a record short of its silent limit and at it, a SILENT one, a
RETIRING one at its last attempt and before it, and a slot whose record has a new occupant. -/
theorem witness_TurnOff_slot (r : ServiceRecord) (a : Activity) (h : r.generation = 1) :
    (inSlot r a).Ready ∧ ((inSlot r a).port 0).state ≠ .disabled ∧
      ((inSlot r a).engine 0).target = some (target (r.state == .retiring)) ∧
      ((inSlot r a).record 3).generation = (target (r.state == .retiring)).generation ∧ (inSlot r a).record 3 = r := by
  unfold Part.Ready
  exact ⟨⟨rfl, rfl, rfl⟩, show PortState.running ≠ .disabled by decide, rfl, h, rfl⟩

theorem witness_TurnOff_records :
    terminal.generation = 1 ∧ terminal.state = .active ∧ terminal.silentCount + 1 < terminal.silentLimit ∧
      ({ terminal with silentCount := 7 } : ServiceRecord).silentLimit ≤ 8 ∧
      ({ terminal with state := .silent } : ServiceRecord).state = .silent ∧ lastAttempt.state = .retiring ∧
      3 ≤ lastAttempt.dismissAttempts ∧ ({ lastAttempt with dismissAttempts := 1 } : ServiceRecord).dismissAttempts < 3 ∧
      ((inSlot { terminal with generation := 2 } .window).record 3).generation ≠ (target false).generation := by decide

/-- Port 0 at the end of a port second. -/
def atEnd (r : PortRecord) (sent aborted : Bool) : Part :=
  ((withTerminal terminal).setPort 0 r).setEngine 0 { sent := sent, aborted := aborted }

/-- The working port of pair 0 on its third failing second. -/
def aboutToFault : Part := atEnd { state := .running, failRun := 2 } true true

/-- The working port of pair 0 on its tenth clean second in FAULT. -/
def aboutToClear : Part := atEnd { state := .running, line := .fault, cleanRun := 9 } true false

theorem witness_LineRuns :
    aboutToFault.held = false ∧ aboutToFault.Faulting 0 ∧ aboutToClear.held = false ∧ aboutToClear.Clearing 0 := by
  unfold Part.Faulting Part.Clearing; decide

/-- The pair follows its working port: protect port 1 is CLEAN, or in FAULT and failing; the pair is revertive or not. -/
theorem witness_PairFollowsWorking :
    (aboutToFault.engine (protectPort 0)).aborted = false ∧ workingPort 0 = 0 ∧
      aboutToClear.StaysClean (protectPort 0) ∧
      ((aboutToClear.setPort 1 { line := .fault }).setEngine 1 { aborted := true }).StaysFaulted (protectPort 0) ∧
      ({ state := .switchedAuto } : PairRecord).revertive = true ∧ 0 < ({ state := .switchedAuto } : PairRecord).wtr ∧
      ((aboutToClear.setPair 0 { state := .switchedAuto, revertive := false, wtr := 0 }).pair 0).revertive = false ∧
      ((aboutToClear.setPair 0 { state := .switchedAuto, wtr := 0 }).pair 0).wtr ≤ 0 ∧
      ((aboutToClear.setPair 0 { state := .switchedManual }).pair 0).state = .switchedManual := by
  unfold Part.StaysClean Part.StaysFaulted; decide

/-- The protect port of pair 0 on its third failing second, with the working port CLEAN or in FAULT. -/
def protectFails (working : PortRecord) (aborted : Bool) : Part :=
  (((atEnd working true aborted).setPort 1 { state := .running, failRun := 2 }).setEngine 1 { aborted := true }).setPair 0
    { state := .switchedAuto }

theorem witness_PairFollowsProtect :
    (protectFails { state := .running } false).Faulting (protectPort 0) ∧
      (protectFails { state := .running } false).StaysClean (workingPort 0) ∧
      ((protectFails { state := .running } false).pair 0).state ≠ .normal ∧
      (protectFails { state := .running, line := .fault } true).Faulting (protectPort 0) ∧
      (protectFails { state := .running, line := .fault } true).StaysFaulted (workingPort 0) ∧
      ((protectFails { state := .running, line := .fault } true).pair 0).state ≠ .restoreWait := by
  unfold Part.Faulting Part.StaysClean Part.StaysFaulted; decide

/-- Port 10, not bound, one boundary before it parks (the example of section 6.7.1). -/
def idlePort : Part := base.setPort 10 { state := .running, idleCount := 63, wakeWindow := 1 }

theorem witness_Park :
    idlePort.held = false ∧ (idlePort.port 10).state = .running ∧ (idlePort.port 10).line = .clean ∧
      (idlePort.engine 10).aborted = false ∧ 64 ≤ (idlePort.port 10).idleCount + 1 ∧ (idlePort.port 10).wakeWindow ≤ 1 ∧
      ∀ i : RecordIx, (idlePort.record i).state ≠ .vacant →
        pairOf (idlePort.record i).homePort ≠ pairOf 10 ∧ pairOf (idlePort.record i).currentPort ≠ pairOf 10 := by decide

theorem witness_Epoch :
    (withTerminal terminal).NoSlotOpen ∧ standsBefore (worksOf tick) .discipline .ports = true ∧
      ((withTerminal terminal).port 0).state = .running ∧ ((withTerminal terminal).record 3).counts 0 = true ∧
      retiresNow ((withTerminal terminal).record 3) = false := by
  unfold Part.NoSlotOpen; decide

/-! ## Protection pairs -/

def protectable : ServiceRecord := { terminal with eligible := true, protectOffset := 25 }

theorem witness_Switch :
    (withTerminal protectable).Ready ∧ indexOf 6 0#8 = some 0 ∧
      ((withTerminal protectable).port (protectPort 0)).enabled = true ∧
      ((withTerminal protectable).port (protectPort 0)).line = .clean ∧
      ((withTerminal protectable).pair 0).state ≠ .switchedManual ∧
      ((withTerminal protectable).record 3).candidate 0 = true ∧
      (∀ j, j < 3 → ((withTerminal protectable).record j).candidate 0 = false) ∧
      ((withTerminal protectable).setPort 1 { line := .fault }).Ready ∧
      (((withTerminal protectable).setPort 1 { line := .fault }).port (protectPort 0)).line = .fault ∧
      (((withTerminal protectable).setPair 0 { state := .switchedManual }).pair 0).state = .switchedManual := by
  unfold Part.Ready; decide

/-- An eligible record on the working port, in a pair that is switched, or whose working port faults at the boundary. -/
def sweeping : Part := (withTerminal protectable).setPair 0 { state := .switchedAuto }
def faulting : Part :=
  ((withTerminal protectable).setPort 0 { state := .running, failRun := 2 }).setEngine 0 { aborted := true }

theorem witness_Sweep :
    sweeping.held = false ∧ sweeping.NoSlotOpen ∧ sweeping.NoneRetires ∧
      (sweeping.engine (protectPort 0)).aborted = false ∧ (sweeping.pair 0).state = .switchedAuto ∧
      (sweeping.port (workingPort 0)).line = .clean ∧ faulting.Faulting (workingPort 0) ∧ faulting.NoSlotOpen ∧
      faulting.NoneRetires ∧ (sweeping.record 3).candidate 0 = true ∧
      (sweeping.port (protectPort 0)).enabled = true ∧ sweeping.portCount (protectPort 0) < 4 ∧
      sweeping.addressFree (protectPort 0) (sweeping.record 3).address = true ∧
      (∀ j, j < 3 → (sweeping.record j).candidate 0 = false) ∧ (sweeping.record 3).stagedOffset = none ∧
      (sweeping.record 3).stagedShare = none ∧ (sweeping.record 3).state ≠ .silent ∧
      pairOf (sweeping.record 0).homePort = 0 ∧ (sweeping.record 0).candidate 0 = false ∧
      (sweeping.record 0).state ≠ .retiring := by
  unfold Part.NoSlotOpen Part.NoneRetires Part.Faulting; decide +kernel

/-- The record stands on the protect port. -/
def switchedOver (state : PairState) : Part :=
  (withTerminal { protectable with currentPort := 1 }).setPair 0 { state := state, waitCount := 299 }

theorem witness_Restore :
    (switchedOver .switchedAuto).Ready ∧ indexOf 6 0#8 = some 0 ∧
      ((switchedOver .switchedAuto).port (workingPort 0)).line = .clean ∧
      ((switchedOver .switchedAuto).pair 0).state ≠ .normal ∧
      ((switchedOver .switchedAuto).record 3).switched 0 = true ∧ (base.pair 0).state = .normal ∧
      (((switchedOver .switchedAuto).setPort 0 { line := .fault }).port (workingPort 0)).line = .fault := by
  unfold Part.Ready; decide

theorem witness_WaitExpires :
    (switchedOver .restoreWait).held = false ∧ ((switchedOver .restoreWait).pair 0).state = .restoreWait ∧
      ((switchedOver .restoreWait).pair 0).wtr ≤ ((switchedOver .restoreWait).pair 0).waitCount + 1 ∧
      ((switchedOver .restoreWait).engine (workingPort 0)).aborted = false ∧
      ((switchedOver .restoreWait).engine (protectPort 0)).aborted = false ∧ (switchedOver .restoreWait).NoSlotOpen ∧
      ((switchedOver .restoreWait).record 3).switched 0 = true ∧
      retiresNow ((switchedOver .restoreWait).record 3) = false := by
  unfold Part.NoSlotOpen; decide

/-! ## Alarm Unit -/

def silentReport : Report :=
  { owner := .record 3, condition := .silent, isRaise := true, cause := 3, generation := some 1, ports := some 1#12 }

theorem witness_Reports :
    ({ list := [entryOf .hub, entryOf (.record 3)] } : AlarmUnit).passesOn silentReport = true ∧
      ({ list := [entryOf .hub, entryOf (.record 3)] } : AlarmUnit).atThreshold silentReport = true ∧
      (∀ x ∈ [entryOf .hub] ++ ([] : List Entry), x.owner ≠ silentReport.owner) ∧
      ({} : AlarmUnit).settings.coalescing = false ∧
      ({ settings := { recordThreshold := none } } : AlarmUnit).atThreshold silentReport = false := by decide

/-- An ancillary TE_MARGINAL with coalescing on. -/
theorem witness_Reports_coalesced :
    ({ settings := { coalescing := true }, list := [entryOf .hub] } : AlarmUnit).settings.coalescing = true ∧
      ({ silentReport with condition := .teMarginal, ancillary := true } : Report).isRaise = true ∧
      ({ settings := { coalescing := true }, list := [entryOf .hub] } : AlarmUnit).atThreshold
        { silentReport with condition := .teMarginal, ancillary := true } = true ∧
      (∀ x ∈ [entryOf .hub], x.owner ≠ .record 3) := by decide

/-- A notice in the buffer, or none; the entries that wait; the ALM line. -/
def alarms (buffer : Option Notice) (list : List Entry) (alm : PulseLine) : Part :=
  { base with alarm := { base.alarm with buffer := buffer, list := list, alm := alm } }

theorem witness_BufferLoads :
    (alarms none [entryOf .hub] {}).held = false ∧ (alarms none [entryOf .hub] {}).alarm.buffer = none ∧
      (alarms none [entryOf .hub] {}).alarm.list = [entryOf .hub] ∧ base.alarm.buffer ≠ none ∧
      (alarms none [] { phase := .pulse }).alarm.alm.phase = .pulse ∧
      (alarms none [] { phase := .gap, owed := 1 }).alarm.alm.phase = .gap ∧
      ({ base with mgmt := { base.mgmt with mgt := { phase := .gap } } } : Part).mgmt.mgt.phase = .gap ∧
      ({ base with mgmt := { base.mgmt with mgt := { phase := .pulse } } } : Part).mgmt.mgt.phase = .pulse := by decide

theorem witness_Alm :
    base.held = false ∧ base.alarm.settings.almMode = .level ∧ base.alarm.settings.almPolarity = .activeHigh ∧
      base.mgmt.transaction = none ∧ base.alarm.buffer = some restartNotice ∧ base.alarm.list = [] ∧
      (alarms (some restartNotice) [entryOf .hub] {}).alarm.list ≠ [] := by decide

/-! ## Management Port -/

theorem witness_Transactions :
    base.held = false ∧ base.mgmt.transaction = none ∧ (1#8 : Byte) ≠ 2#8 ∧ (1#8 : Byte) ≠ 3#8 ∧ (1#8 : Byte) ≠ 4#8 ∧
      (after (.transactionBegin 3) base).mgmt.transaction ≠ none ∧ (after .wrstnAssert base).held = true ∧
      (after .wrstnAssert base).mgmt.transaction = none := by decide +kernel

/-- Channel M with a reply unread and a request waiting, or not. -/
def channel (inbound reply : Option (List Byte)) : Part :=
  { base with mgmt := { base.mgmt with inbound := inbound, reply := reply } }

theorem witness_Requests :
    (channel none (some noneFrame)).held = false ∧ (channel none (some noneFrame)).mgmt.transaction = none ∧
      [0x02#8, 9#8].length ≤ 255 ∧ (channel none (some noneFrame)).mgmt.inbound = none ∧
      (channel none (some noneFrame)).mgmt.reply ≠ none ∧ (channel (some []) (some noneFrame)).mgmt.inbound ≠ none ∧
      lengthAllowed (0x77#8).toNat (0 + 2) ≠ some true ∧ lengthAllowed (0x02#8).toNat (1 + 2) ≠ some true ∧
      base.Ready ∧ base.mgmt.transaction = none := by unfold Part.Ready; decide

/-- A transaction of an operation is open. -/
def opened (op : Operation) (judgedOk intact : Bool) (p : Part) : Part :=
  { p with
    mgmt := { p.mgmt with
      transaction := some { op := op, judgedOk := judgedOk, frame := [1, 0], intact := intact }, spiOut := [0] } }

theorem witness_OpenTransactions :
    (opened .writeM true true base).held = false ∧
      (opened .writeM true true base).mgmt.transaction =
        some { op := .writeM, judgedOk := true, frame := [1, 0], intact := true } ∧
      (opened .writeM true true base).mgmt.inbound = none ∧ (opened .writeM true true base).mgmt.reply = none ∧
      (opened .writeM true true (channel none (some noneFrame))).mgmt.reply ≠ none ∧
      (opened .readA true true (alarms (some restartNotice) [] {})).alarm.list = [] ∧ Operation.readM ≠ .writeM ∧
      Operation.status ≠ .readM ∧ Operation.status ≠ .readA := by decide

theorem witness_Reads :
    (channel none (some noneFrame)).mgmt.reply = some noneFrame ∧ base.mgmt.reply = none ∧
      (channel (some [0x77#8, 5#8]) (some noneFrame)).mgmt.inbound = some (0x77#8 :: 5#8 :: []) ∧
      (channel (some [0x51#8, 5#8]) (some noneFrame)).mgmt.inbound = some [0x51#8, 5#8] ∧
      base.alarm.buffer = some restartNotice ∧ base.alarm.list = [] ∧ (alarms none [] {}).alarm.buffer = none := by decide

/-! ## Invariants -/

theorem witness_Invariants :
    WithinLimits base ∧ CompensationInRange base ∧ SelectionAgrees base ∧ RecordLaws base ∧ BindingsAgree base ∧
      OneEntryPerOwner base ∧ ∃ t, step { part := base, pending := [.ident 7] } = .next t := by
  refine ⟨by unfold WithinLimits; decide, by unfold CompensationInRange; decide,
    ⟨by decide, by decide, Or.inl (by decide)⟩, recordLaws_of_one _ 3 (fun j _ => base_empty.1 j),
    bindingsAgree_of_none _ base_empty.2.2 base_empty.2.1, by unfold OneEntryPerOwner; decide, _, rfl⟩

/-! ## Single steps against the spec's own figures -/

/-- The three rows of section 1.4.1; the pending step of the first is written there without a factor that R11 asks for
(log entry 27). -/
theorem test_step_rows :
    (({ second := 4999, pendingStep := some 1250000000 } : TimeBase).boundary.counter =
        { sec := 5001, ns := 250000000, frac := 0 } ∧
      ({ second := 4999, pendingStep := some 1250000000 } : TimeBase).boundary.lengthNs = 750000000) ∧
    (({ second := 4999, pendingStep := some (-1200) } : TimeBase).boundary.holdNs = 1200 ∧
      ({ second := 4999, pendingStep := some (-1200) } : TimeBase).boundary.lengthNs = 1000001200) ∧
    ({ second := 4999, pendingStep := some 2700000000 } : TimeBase).boundary.counter =
        { sec := 5003, ns := 0, frac := 0 } ∧
      ({ second := 4999, pendingStep := some 2700000000 } : TimeBase).boundary.lengthNs = 1300000000 := by decide

/-- A terminal response in the hold is stamped with the step boundary's reading (section 1.4.1). -/
theorem test_stamp_in_hold :
    ({ second := 5000, holdNs := 1200, lengthNs := 1000001200 } : TimeBase).stampAt (700 * 65536) =
      { time := { sec := 5000, ns := 0, frac := 0 }, inHold := true } := by decide

/-- The line clock runs 0.75 ns ahead in a raw second: r is 49,152 q-ppb (section 2.4). The next measurement begins there. -/
theorem test_line_sample :
    ((after (.hubSecondBoundary lineTick) measuring).input 3).last =
        some { outcome := .good, value := some 49152, fresh := false } ∧
      ((after (.hubSecondBoundary lineTick) measuring).input 3).lineStart =
        some { phase := 65536000049152, raw := 65536000000000 } := by decide +kernel

/-- A raw second at +50,000 ppb is longer than the hub second that it makes (R7): 10^9 / 1.00005 ns, or 65,532,723,363,831.8 q,
rounded to nearest (R2). -/
theorem test_raw_count :
    ({ applied := 3276800000 } : TimeBase).boundary.rawCount = 65532723363832 ∧
      ({} : TimeBase).boundary.rawCount = 65536000000000 := by decide +kernel

/-- EXCEEDED to MARGINAL: the clear comes first, as the table of R152 lists it, so that the entry is not ancillary; MARGINAL
to EXCEEDED leaves it ancillary (R175). -/
theorem test_te_order :
    ((reportVerdict .exceeded .marginal 0 true 0 3
        { base with
          alarm := { base.alarm with recordStanding := base.alarm.recordStanding.set 3 2#16 } }).alarm.list.map
        (fun e => (e.raised, e.cleared, e.ancillary))) = [(1#16, 2#16, false)] ∧
      ((reportVerdict .marginal .exceeded 0 true 0 3
          { base with
            alarm := { base.alarm with recordStanding := base.alarm.recordStanding.set 3 1#16 } }).alarm.list.map
          (fun e => (e.raised, e.cleared, e.ancillary))) = [(2#16, 1#16, true)] := by decide +kernel

/-- A repeat of a sequence number is ignored (section 2.3.1). -/
theorem test_pkt_repeat_ignored :
    after (.pktMessage (messageCharacters 0 pktGood)) (withPkt {} { lastSeq := some 17 }) =
      withPkt {} { lastSeq := some 17 } := by
  decide +kernel

/-- A message whose checksum fails completes INVALID with no value, and keeps the sequence number (section 2.3.1). -/
theorem test_pkt_unsound :
    ((after (.pktMessage (messageCharacters 0 (pktGood.set 14 0))) (withPkt {} { lastSeq := some 19 })).input 2).lastSeq =
        some 19 ∧
      ((after (.pktMessage (messageCharacters 0 (pktGood.set 14 0))) (withPkt {} { lastSeq := some 19 })).input 2).last =
        some { outcome := .invalid } := by decide +kernel

/-- The ToD message of section 11.4: seconds 1,001, tracking on, estimate 35, scale offset 18, checksum 0xDA. -/
theorem test_tod_example :
    decodeTod [0x00, 0x00, 0x00, 0x00, 0x03, 0xE9, 0x01, 0x00, 0x00, 0x00, 0x23, 0x00, 0x12, 0xDA] =
      some { seconds := 1001, tracking := true, estimate := 35, scale := 18, sound := true } := by decide

/-- A ToD message interrupted by a start character is dropped; bytes after a whole one are ignored (R201). -/
theorem test_tod_interrupted :
    receiveCharacters 14 (messageCharacters 7 (tod.take 9) ++ messageCharacters 0 (tod ++ [1])) none =
      (none, [{ bytes := tod, afterEdge := true }]) := by decide +kernel

/-- The RESTART notice as a READ-A clocks it out after the release of PORn: status byte, length 36, kind 1, owner 54,
raised bits 9 and 3, standing bit 3, CRITICAL (R184, Figure 11-5). -/
theorem test_restart_notice :
    (after .readA base).mgmt.spiOut.take 11 =
      [0x2C#8, 36#8, 0x01#8, 54#8, 0#8, 0x02#8, 0x08#8, 0#8, 0#8, 0#8, 0x08#8] := by decide +kernel

/-- IDENT: length 13, kind 2, code 1, tag 9, DONE, no flags, then 4820 and the rest (R194, Figure 11-2). -/
theorem test_ident_reply :
    (after (.ident 9) base).mgmt.reply =
      some [13#8, 2#8, 1#8, 9#8, 0#8, 0#8, 0x12#8, 0xD4#8, 2#8, 48#8, 12#8, 6#8, 6#8, 0#8] := by decide +kernel

/-- The second of two requests waits until the first reply is read (R190, R192). -/
theorem test_second_request_waits :
    (after (.lockOsc 2) (after (.ident 1) base)).osc.locked = false ∧
      (after (.readM 0) (after (.lockOsc 2) (after (.ident 1) base))).osc.locked = true := by decide +kernel

/-- A pulse width of 5 is held as 4, and the reply is flagged clamped (R183, R191). -/
theorem test_pulse_width :
    (after (.setAlarmSettings 1 0 [{ field := 9, value := [0, 0, 0, 5] }]) base).alarm.settings.pulseWidth = 4 ∧
      (after (.setAlarmSettings 1 0 [{ field := 9, value := [0, 0, 0, 5] }]) base).mgmt.reply =
        some [5#8, 2#8, 0x11#8, 1#8, 0#8, 1#8] := by decide +kernel

/-- A field named twice is BAD_REQUEST and nothing is written (R120). -/
theorem test_field_named_twice :
    (after (.setPort 1 0 [{ field := 2, value := [1] }, { field := 2, value := [1] }]) base).ports = base.ports ∧
      (after (.setPort 1 0 [{ field := 2, value := [1] }, { field := 2, value := [1] }]) base).mgmt.reply =
        some [5#8, 2#8, 0x11#8, 1#8, 8#8, 0#8] := by decide +kernel

/-- The characters of a DISMISS at address 2: sync, identifier 64 + 16 + check 7, checksum (R121, R200). -/
theorem test_dismiss_bytes : (dismissFrame 2).bytes = [0x55#8, 87#8, 169#8] := by decide

/-- The DELAY of section 11.3: address 2, C = 832,823 sixteenths, flag clear; and EPOCH at address 0 has identifier 0x07. -/
theorem test_delay_example :
    (delayFrame 2 (832823 * 4096) false).bytes = [0x55#8, 0x30#8, 0x00#8, 0x0C#8, 0xB5#8, 0x37#8, 0x00#8, 0xD8#8] ∧
      ({ kind := .epoch, address := 0, payload := [] } : LineFrame).bytes.getD 1 0 = 0x07#8 := by decide +kernel

/-- The sync character on the line: start bit dominant, 0x55 from the most significant bit on, stop bit recessive. -/
theorem test_sync_levels :
    characterLevels (characterOf 0x55#8) =
      [.dominant, .dominant, .recessive, .dominant, .recessive, .dominant, .recessive, .dominant, .recessive,
        .recessive] := by decide

/-- The boundary at which port 10 parks (section 6.7.1). -/
theorem test_port_parks : ((after (.portPark 10 tick) idlePort).port 10).state = .parked := by decide +kernel

/-- A threshold command whose threshold is not reached does nothing (log entry 3). -/
theorem test_no_park : after (.portPark 0 tick) idlePort = idlePort := by decide +kernel

/-- A switch moves the filter of 1,000 ns by the protect offset of 25 ns (R147, R158). -/
theorem test_switch_moves_filter :
    ((after (.switchPair 1 0) (withTerminal protectable)).record 3).filter = some (1025 * 65536) ∧
      ((after (.switchPair 1 0) (withTerminal protectable)).record 3).currentPort = 1 := by decide +kernel

/-- The rounding of R2: ties away from zero. -/
theorem test_rounding : roundDiv 5 2 = 3 ∧ roundDiv (-5) 2 = -3 ∧ roundDiv 7 4 = 2 ∧ ceilDiv 7 2 = 4 := by decide

/-- No word spells a command, since the table gives no row bits. -/
theorem test_no_word : decodeTableWord 8 0 = none ∧ State.reset.withFetchWord 8 0 = State.reset := by decide

end Sys2Proof.Tests
end

/-! SUPPORT. The sample of a packet message (R27, R28): what the choice leaves of the Time Base, what the Selector can do
with a completed sample, what a sample leaves as it stands, and the message that characters make whole. -/

namespace Sys2Proof.Machine

/-! ## The choice requests no step

`HubFrame` leaves the pending step open, since the Discipline Unit may request one at a hub second event. The moves that a
selection report brings about never do (R68, R71). -/

section PendingStep

variable (p : Part)

@[simp] theorem raiseHub_tb (c : Condition) : (raiseHub c p).tb = p.tb := rfl
@[simp] theorem clearHub_tb (c : Condition) : (clearHub c p).tb = p.tb := rfl
@[simp] theorem withHub_tb (f : HubRecord → HubRecord) : (withHub f p).tb = p.tb := rfl
@[simp] theorem advanceCause_tb : (advanceCause p).tb = p.tb := rfl
@[simp] theorem startPrediction_tb : (startPrediction p).tb = p.tb := rfl
@[simp] theorem enterAcquire_tb (g : Grade) : (enterAcquire g p).tb = p.tb := rfl
@[simp] theorem enterLockedFreq_tb : (enterLockedFreq p).tb = p.tb := rfl
@[simp] theorem handOver_pendingStep : (handOver p).tb.pendingStep = p.tb.pendingStep := rfl
@[simp] theorem enterFreeRun_pendingStep : (enterFreeRun p).tb.pendingStep = p.tb.pendingStep := rfl

@[simp] theorem followLimit_tb (clamped : Bool) : (followLimit clamped p).tb = p.tb := by
  unfold followLimit
  split
  · split <;> rfl
  · rfl

@[simp] theorem leaveState_tb : (leaveState p).tb = p.tb := by
  unfold leaveState
  split <;> rfl

@[simp] theorem compareBound_tb (advance : Bool) : (compareBound advance p).tb = p.tb := by
  unfold compareBound
  split
  · cases advance <;> rfl
  · rfl

@[simp] theorem predictCorrection_pendingStep : (predictCorrection p).tb.pendingStep = p.tb.pendingStep := by
  unfold predictCorrection
  split <;> simp

@[simp] theorem enterHoldover_pendingStep : (enterHoldover p).tb.pendingStep = p.tb.pendingStep := by
  unfold enterHoldover
  by_cases h : p.hub.state = .bridging <;> simp [h]

@[simp] theorem moveOnReport_pendingStep (new : Option SlotIx) :
    (moveOnReport new p).tb.pendingStep = p.tb.pendingStep := by
  unfold moveOnReport
  split <;> simp [apply_ite Part.tb, apply_ite TimeBase.pendingStep]

@[simp] theorem selectionReport_pendingStep (new : Option SlotIx) (c : SelectionCause) :
    (selectionReport new c p).tb.pendingStep = p.tb.pendingStep := by
  simp [selectionReport]

@[simp] theorem choose_pendingStep (c : SelectionCause) : (choose c p).tb.pendingStep = p.tb.pendingStep := by
  obtain ⟨_, h⟩ | ⟨_, h⟩ := choose_cases c p <;> simp [h]

/-- Of the Time Base a choice moves at most the correction that waits for the next boundary. -/
theorem choose_tb (c : SelectionCause) : (choose c p).tb = { p.tb with next := (choose c p).tb.next } := by
  rw [← ((HubFrame.refl p).choose c).tb, ← choose_pendingStep p c]

end PendingStep

/-! ## What the Selector does with a sample (R42 to R46) -/

/-- The record of slot `k` is written and the Alarm Unit may have taken reports; all else is as it was. -/
def WritesSlot (k : SlotIx) (p q : Part) : Prop := ∃ r a, q = { p.setSlot k r with alarm := a }

/-- The record of slot `k` is written, with reports, and at most one choice follows. -/
def WritesThenChooses (k : SlotIx) (p q : Part) : Prop :=
  WritesSlot k p q ∨ ∃ c w, WritesSlot k p w ∧ q = choose c w

namespace WritesSlot

variable {k : SlotIx} {p q : Part}

theorem refl (k : SlotIx) (p : Part) : WritesSlot k p p :=
  ⟨p.slot k, p.alarm, by simp [Part.setSlot, Part.slot]⟩

theorem withSlot (h : WritesSlot k p q) (f : SlotRecord → SlotRecord) : WritesSlot k p (withSlot k f q) := by
  obtain ⟨r, a, rfl⟩ := h
  exact ⟨f r, a, by simp [Machine.withSlot, Part.setSlot, Part.slot]⟩

theorem withAlarm (h : WritesSlot k p q) (a : AlarmUnit) : WritesSlot k p { q with alarm := a } := by
  obtain ⟨r, _, rfl⟩ := h
  exact ⟨r, a, rfl⟩

theorem report (h : WritesSlot k p q) (x : Report) : WritesSlot k p (report x q) := h.withAlarm _

theorem clearSlot (h : WritesSlot k p q) (c : Condition) : WritesSlot k p (clearSlot c k q) := h.report _

theorem enterQualified (h : WritesSlot k p q) : WritesSlot k p (enterQualified k q) := (h.withSlot _).report _

theorem enterFailed (h : WritesSlot k p q) : WritesSlot k p (enterFailed k q) := (h.withSlot _).report _

theorem choose (h : WritesSlot k p q) (c : SelectionCause) : WritesThenChooses k p (choose c q) := .inr ⟨c, q, h, rfl⟩

end WritesSlot

section Applied

variable (k : SlotIx) (o : SampleOutcome) (p : Part)

theorem candidateGood_writes : WritesThenChooses k p (candidateGood k p) := by
  have run := (WritesSlot.refl k p).withSlot (fun r => { r with goodRun := min ((p.slot k).goodRun + 1) 65535 })
  unfold candidateGood
  dsimp only
  split
  · exact run.enterQualified.choose _
  · exact .inl run

theorem qualifiedSample_writes : WritesThenChooses k p (qualifiedSample k o p) := by
  have same := WritesSlot.refl k p
  unfold qualifiedSample
  split
  · exact .inl (same.withSlot _)
  all_goals
    split
    · exact same.enterFailed.choose _
    · exact .inl (same.withSlot _)

theorem failedGood_writes : WritesThenChooses k p (failedGood k p) := by
  have cleared := ((WritesSlot.refl k p).withSlot
    (fun r => { r with state := .candidate, goodRun := 1, badRun := 0, outlierRun := 0 })).clearSlot .failed
  unfold failedGood
  refine WritesSlot.choose ?_ _
  split
  · exact cleared.enterQualified
  · exact cleared

/-- Everything that the Selector can do with a sample: it writes the slot's own record, with reports, and makes at most one
choice. -/
theorem applySample_writes : WritesThenChooses k p (applySample k o p) := by
  have same := WritesSlot.refl k p
  unfold applySample
  split
  · exact .inl same
  · split
    · exact .inl same
    · split
      · exact candidateGood_writes k p
      · exact .inl (same.withSlot _)
    · exact qualifiedSample_writes k o p
    · split
      · exact failedGood_writes k p
      · exact .inl same

/-- The Selector changes no input. -/
@[simp] theorem applySample_input (j : SlotIx) : (applySample k o p).input j = p.input j := by
  obtain ⟨r, a, h⟩ | ⟨c, _, ⟨r, a, rfl⟩, h⟩ := applySample_writes k o p
  · rw [h]
    rfl
  · rw [h, choose_input]
    rfl

end Applied

/-! ## What a sample leaves as it stands -/

/-- Everything but the record and the input of slot `k`, the hub record, the selection, the alarms and the correction that
waits for the next boundary. -/
structure SampleFrame (k : SlotIx) (p q : Part) : Prop where
  tables : KeepsTables p q
  base   : KeepsBase p q
  slots  : KeepsOtherSlots k p q
  mgmt   : q.mgmt = p.mgmt

namespace SampleFrame

variable {k : SlotIx} {p q r : Part}

theorem trans (h : SampleFrame k p q) (g : SampleFrame k q r) : SampleFrame k p r where
  tables := by
    obtain ⟨hr, hp, he, hk⟩ := h.tables
    obtain ⟨gr, gp, ge, gk⟩ := g.tables
    exact ⟨gr.trans hr, gp.trans hp, ge.trans he, gk.trans hk⟩
  base := by
    obtain ⟨ho, hl, hp, hw, ht⟩ := h.base
    obtain ⟨go, gl, gp, gw, gt⟩ := g.base
    exact ⟨go.trans ho, gl.trans hl, gp.trans hp, gw.trans hw, by rw [gt, ht]⟩
  slots j hj := ⟨(g.slots j hj).1.trans (h.slots j hj).1, (g.slots j hj).2.trans (h.slots j hj).2⟩
  mgmt := g.mgmt.trans h.mgmt

theorem withInput (k : SlotIx) (f : SlotInput → SlotInput) (p : Part) : SampleFrame k p (withInput k f p) where
  tables := ⟨rfl, rfl, rfl, rfl⟩
  base := ⟨rfl, rfl, rfl, rfl, rfl⟩
  slots _ hj := ⟨rfl, input_setInput_ne p hj.symm _⟩
  mgmt := rfl

theorem writesSlot (h : WritesSlot k p q) : SampleFrame k p q := by
  obtain ⟨r, a, rfl⟩ := h
  exact
    { tables := ⟨rfl, rfl, rfl, rfl⟩
      base := ⟨rfl, rfl, rfl, rfl, rfl⟩
      slots := fun _ hj => ⟨slot_setSlot_ne p hj.symm r, rfl⟩
      mgmt := rfl }

theorem choose (k : SlotIx) (c : SelectionCause) (p : Part) : SampleFrame k p (choose c p) := by
  have h := (HubFrame.refl p).choose c
  exact
    { tables := ⟨h.records, h.ports, h.engines, h.pairs⟩
      base := ⟨h.osc, h.lineClock, h.porn, h.wrst, choose_tb p c⟩
      slots := fun j _ => ⟨choose_slot c p j, choose_input c p j⟩
      mgmt := h.mgmt }

theorem applySample (k : SlotIx) (o : SampleOutcome) (p : Part) : SampleFrame k p (applySample k o p) := by
  obtain h | ⟨c, w, hw, h⟩ := applySample_writes k o p
  · exact writesSlot h
  · exact h ▸ (writesSlot hw).trans (choose k c w)

theorem completeSample (k : SlotIx) (s : Sample) (p : Part) : SampleFrame k p (completeSample k s p) :=
  (withInput k _ p).trans (applySample k _ _)

theorem completeRead (k : SlotIx) (invalid : Bool) (v : Int) (accuracy scale : Option Int) (second : Nat) (p : Part) :
    SampleFrame k p (completeRead k invalid v accuracy scale second p) := by
  unfold Machine.completeRead
  split
  · exact completeSample k _ p
  · exact (withInput k _ p).trans (completeSample k _ _)

theorem settle (k : SlotIx) (waiting : List Instr) (p : Part) : SampleFrame k p (settle waiting p) := by
  rw [settle_frame]
  exact writesSlot ((WritesSlot.refl k p).withAlarm _)

end SampleFrame

/-! ## The input after a sample (R20, R33, R34) -/

@[simp] theorem input_withInput_self (k : SlotIx) (f : SlotInput → SlotInput) (p : Part) :
    (withInput k f p).input k = f (p.input k) := input_setInput_self p k _

/-- Two changes of one input in turn are one change. -/
theorem withInput_withInput (k : SlotIx) (f g : SlotInput → SlotInput) (p : Part) :
    withInput k f (withInput k g p) = withInput k (fun x => f (g x)) p := by
  simp [withInput, Part.setInput, Part.input]

@[simp] theorem completeSample_input (k : SlotIx) (s : Sample) (p : Part) :
    (completeSample k s p).input k = { p.input k with last := some s, completed := true } := by
  simp [completeSample]

/-- The jump check moves the jump reference and the jump run alone. -/
theorem jumpAfter_frame (limit v : Int) (x : SlotInput) :
    jumpAfter limit v x =
      { x with jumpReference := (jumpAfter limit v x).jumpReference, jumpRun := (jumpAfter limit v x).jumpRun } := by
  unfold jumpAfter
  split
  · split <;> rfl
  all_goals rfl

@[simp] theorem jumpAfter_lastSeq (limit v : Int) (x : SlotInput) : (jumpAfter limit v x).lastSeq = x.lastSeq := by
  rw [jumpAfter_frame]

@[simp] theorem jumpAfter_message (limit v : Int) (x : SlotInput) : (jumpAfter limit v x).message = x.message := by
  rw [jumpAfter_frame]

/-- The input of a slot whose sample could be read: the sample, and the jump check unless it is INVALID. -/
theorem completeRead_input (k : SlotIx) (invalid : Bool) (v : Int) (accuracy scale : Option Int) (second : Nat)
    (p : Part) :
    (completeRead k invalid v accuracy scale second p).input k =
      { (if invalid then p.input k else jumpAfter (toQ (p.slot k).jumpLimit) v (p.input k)) with
        last :=
          some
            { outcome :=
                if invalid then .invalid else jumpOutcome (p.input k).jumpReference (toQ (p.slot k).jumpLimit) v
              value := some v, accuracy := accuracy, scale := scale, second := second }
        completed := true } := by
  cases invalid <;> simp [completeRead, completeJudged]

/-! ## Messages whole (R201) -/

@[simp] theorem messageByte_byte (b : Byte) : messageByte (0#1 ++ b) = b := by
  ext i hi
  simp only [messageByte, BitVec.getElem_extractLsb', BitVec.getLsbD_append]
  rw [if_pos (by omega), Nat.zero_add, BitVec.getLsbD_eq_getElem hi]

/-- A start character begins a message, whatever its data bits and whatever was open. -/
@[simp] theorem receiveCharacter_start (length : Nat) (b : Byte) (current : Option OpenMessage) :
    receiveCharacter length (1#1 ++ b) current = (some {}, none) := by
  have starts : startsMessage (1#1 ++ b) = true := by
    rw [startsMessage, BitVec.getLsbD_append]
    simp
  simp [receiveCharacter, starts]

/-- A byte joins the open message, which is whole when it reaches its length. -/
@[simp] theorem receiveCharacter_byte (length : Nat) (b : Byte) (m : OpenMessage) :
    receiveCharacter length (0#1 ++ b) (some m) =
      if length ≤ m.bytes.length + 1 then (none, some { m with bytes := m.bytes ++ [b] })
      else (some { m with bytes := m.bytes ++ [b] }, none) := by
  have plain : startsMessage (0#1 ++ b) = false := by
    rw [startsMessage, BitVec.getLsbD_append]
    simp
  simp [receiveCharacter, plain]

/-- Bytes that fill an open message up to its length make it whole, and leave none open. -/
theorem receiveCharacters_fill (length : Nat) (b : Byte) (bytes : List Byte) (m : OpenMessage)
    (h : m.bytes.length + bytes.length + 1 = length) :
    receiveCharacters length (byteCharacters (b :: bytes)) (some m) =
      (none, [{ m with bytes := m.bytes ++ b :: bytes }]) := by
  induction bytes generalizing b m with
  | nil =>
    have full : length ≤ m.bytes.length + 1 := by simp only [List.length_nil] at h; omega
    simp [byteCharacters, receiveCharacters_cons, full]
  | cons c rest ih =>
    have short : ¬ length ≤ m.bytes.length + 1 := by simp only [List.length_cons] at h; omega
    have filled := ih c { m with bytes := m.bytes ++ [b] } (by grind)
    rw [byteCharacters, List.map_cons, receiveCharacters_cons, receiveCharacter_byte, if_neg short,
      ← byteCharacters, filled]
    simp

/-- A start character and as many bytes as a message has make one message whole, whatever was open. -/
theorem receiveCharacters_message {length : Nat} (start : Byte) {bytes : List Byte} (current : Option OpenMessage)
    (hpos : 0 < length) (h : bytes.length = length) :
    receiveCharacters length (messageCharacters start bytes) current = (none, [{ bytes := bytes }]) := by
  cases bytes with
  | nil => exact absurd h hpos.ne
  | cons b rest =>
    rw [messageCharacters, receiveCharacters_cons, receiveCharacter_start,
      receiveCharacters_fill length b rest {} (by simpa using h)]
    rfl

/-! ## The packet slot (R27, R28) -/

theorem exec_pktMessage (characters : List SerialChar) (s : State) :
    exec (.pktMessage characters) s = commandDone (pktMessage characters) s := rfl

/-- A PKT message has its length. -/
theorem length_of_decodePkt {bytes : List Byte} {m : PktMessage} (h : decodePkt bytes = some m) : bytes.length = 15 := by
  by_contra hne
  simp [decodePkt, hne] at h

/-- The tests of R28, with the limit in q-ns. -/
theorem pktInvalid_iff (m : PktMessage) :
    pktInvalid m = true ↔ m.valid = false ∨ 32768000000000 < magnitude m.offset := by
  have limit : toQ 500000000 = 32768000000000 := by decide
  simp [pktInvalid, limit]

/-- What the packet slot notes of a message that it takes: no message is open, and its sequence number is the last. -/
def notePkt (m : PktMessage) (x : SlotInput) : SlotInput := { x with message := none, lastSeq := some m.sequence }

/-- The characters of a message that the packet slot takes complete its sample, once the message is noted. -/
theorem pktMessage_taken {p : Part} (start : Byte) {bytes : List Byte} {m : PktMessage} (h : p.TakesPkt bytes m) :
    pktMessage (messageCharacters start bytes) p = completePkt m (withInput pktSlot (notePkt m) p) := by
  obtain ⟨hheld, hdecode, hsound, hrunning, hfirst, hkept, hnew⟩ := h
  have hreceive :=
    receiveCharacters_message start (p.input pktSlot).message (by decide) (length_of_decodePkt hdecode)
  have hnote :
      withInput pktSlot (fun x => { x with lastSeq := some m.sequence })
          (withInput pktSlot (fun x => { x with message := none }) p) =
        withInput pktSlot (notePkt m) p := withInput_withInput pktSlot _ _ p
  simp [pktMessage, unlessHeld, hheld, hrunning, hreceive, forEach, completePktMessage, hdecode, takePkt, hsound, hfirst,
    hkept, hnew, hnote]

/-- Settles O16: the message is noted and completes a read sample, whose frame and input are those of every read sample. -/
theorem pktMessageCompletesAPktSample : Obligations.PktMessageCompletesAPktSample := by
  intro s start bytes m h
  have frame : SampleFrame pktSlot s.part (settle s.pending (pktMessage (messageCharacters start bytes) s.part)) := by
    rw [pktMessage_taken start h]
    exact ((SampleFrame.withInput pktSlot _ _).trans (SampleFrame.completeRead pktSlot _ _ _ _ _ _)).trans
      (SampleFrame.settle pktSlot _ _)
  refine ⟨_, (exec_pktMessage _ s).trans (commandDone_next _ s), rfl, frame.tables, frame.base,
    frame.slots, frame.mgmt, ?_⟩
  rw [settle_input, pktMessage_taken start h, completePkt, completeRead_input, input_withInput_self]
  refine ⟨?_, ?_, ?_⟩
  · simp [apply_ite SlotInput.lastSeq, notePkt]
  · simp [apply_ite SlotInput.message, notePkt]
  · simp only [pktInvalid_iff]
    cases hr : (s.part.input pktSlot).jumpReference <;> simp [notePkt, hr, jumpOutcome, toQ, withInput]

end Sys2Proof.Machine

/-! SUPPORT. The end of a service record by a LEAVE (R111): what the choice leaves of the alarm settings, the raise that
stands in the notices after a command, what a record that becomes VACANT leaves as it stands, and the slot that a
response decides. -/

namespace Sys2Proof.Machine

/-! ## The alarm settings under a choice and at the end of a command

`HubFrame` leaves the Alarm Unit open. The moves that a selection report brings about send it reports alone, and no
report or loading changes a setting (R68, R177, R182). -/

section AlarmSettings

variable (p : Part)

@[simp] theorem withHub_alarm (f : HubRecord → HubRecord) : (withHub f p).alarm = p.alarm := rfl
@[simp] theorem handOver_alarm : (handOver p).alarm = p.alarm := rfl
@[simp] theorem correctionToF_alarm : (correctionToF p).alarm = p.alarm := rfl
@[simp] theorem advanceCause_alarm : (advanceCause p).alarm = p.alarm := rfl
@[simp] theorem startPrediction_alarm : (startPrediction p).alarm = p.alarm := rfl
@[simp] theorem enterAcquire_alarm (g : Grade) : (enterAcquire g p).alarm = p.alarm := rfl
@[simp] theorem enterLockedFreq_alarm : (enterLockedFreq p).alarm = p.alarm := rfl

@[simp] theorem raiseHub_settings (c : Condition) : (raiseHub c p).alarm.settings = p.alarm.settings :=
  take_settings _ _
@[simp] theorem clearHub_settings (c : Condition) : (clearHub c p).alarm.settings = p.alarm.settings :=
  take_settings _ _

@[simp] theorem enterFreeRun_settings : (enterFreeRun p).alarm.settings = p.alarm.settings := by simp [enterFreeRun]

@[simp] theorem followLimit_settings (clamped : Bool) : (followLimit clamped p).alarm.settings = p.alarm.settings := by
  unfold followLimit
  split
  · split <;> simp
  · simp

@[simp] theorem leaveState_settings : (leaveState p).alarm.settings = p.alarm.settings := by
  unfold leaveState
  split <;> simp

@[simp] theorem predictCorrection_settings : (predictCorrection p).alarm.settings = p.alarm.settings := by
  unfold predictCorrection
  split <;> simp

@[simp] theorem compareBound_settings (advance : Bool) :
    (compareBound advance p).alarm.settings = p.alarm.settings := by
  unfold compareBound
  split
  · cases advance <;> simp
  · rfl

@[simp] theorem enterHoldover_settings : (enterHoldover p).alarm.settings = p.alarm.settings := by
  unfold enterHoldover
  by_cases h : p.hub.state = .bridging <;> simp [h]

@[simp] theorem moveOnReport_settings (new : Option SlotIx) :
    (moveOnReport new p).alarm.settings = p.alarm.settings := by
  unfold moveOnReport
  split <;> simp [apply_ite Part.alarm, apply_ite AlarmUnit.settings]

@[simp] theorem selectionReport_settings (new : Option SlotIx) (c : SelectionCause) :
    (selectionReport new c p).alarm.settings = p.alarm.settings := by
  simp [selectionReport]

@[simp] theorem choose_settings (c : SelectionCause) : (choose c p).alarm.settings = p.alarm.settings := by
  obtain ⟨_, h⟩ | ⟨_, h⟩ := choose_cases c p <;> simp [h]

/-- A loading changes no setting (R177). -/
theorem load_settings (a : AlarmUnit) : a.load.settings = a.settings := by
  obtain ⟨_, _, _, _, h⟩ | ⟨_, h⟩ := load_cases a <;> rw [h]

@[simp] theorem settle_settings (waiting : List Instr) : (settle waiting p).alarm.settings = p.alarm.settings := by
  unfold settle loadIfDue
  split
  · rfl
  · split
    · rfl
    · exact load_settings p.alarm

end AlarmSettings

/-! ## A raise in the notices (R173, R174, R177) -/

@[simp] theorem hasCondition_mask (c : Condition) : hasCondition c.mask c = true := by cases c <;> rfl

@[simp] theorem hasCondition_or_mask (m : BitVec 16) (c : Condition) : hasCondition (m ||| c.mask) c = true := by
  have own := hasCondition_mask c
  unfold hasCondition at own ⊢
  rw [BitVec.getLsbD_or, own, Bool.or_true]

/-- An entry shows each field that a report carries (R174). -/
structure Entry.Shows (r : Report) (e : Entry) : Prop where
  te       : ∀ x, r.te = some x → e.te = some x
  slot     : ∀ x, r.slot = some x → e.slot = some x
  ports    : ∀ x, r.ports = some x → e.ports = some x
  identity : ∀ x, r.identity = some x → e.identity = some x
  detail   : ∀ x, r.detail = some x → e.detail = some x

theorem Entry.fresh_shows (r : Report) : (Entry.fresh r).Shows r :=
  ⟨fun _ h => h, fun _ h => h, fun _ h => h, fun _ h => h, fun _ h => h⟩

/-- A field that a report carries is the newer one. -/
theorem newer_of_some {α : Type} {carried : Option α} {x : α} (kept : Option α) (h : carried = some x) :
    newer carried kept = some x := by
  rw [h, newer]

theorem Entry.merge_shows (e : Entry) (r : Report) : (e.merge r).Shows r :=
  ⟨fun _ => newer_of_some _, fun _ => newer_of_some _, fun _ => newer_of_some _, fun _ => newer_of_some _,
    fun _ => newer_of_some _⟩

/-- The owner's entry is in the list once it is put: the one that stood there changed, or the new one. -/
theorem exists_mem_putEntry (a : AlarmUnit) (o : Owner) (change : Entry → Entry) (new : Entry) :
    ∃ e ∈ (a.putEntry o change new).list, e = new ∨ ∃ old, old.owner = o ∧ e = change old := by
  unfold AlarmUnit.putEntry
  split
  · next has =>
    obtain ⟨old, hold, howner⟩ := List.mem_map.1 ((hasEntry_iff a o).1 has)
    exact ⟨change old, List.mem_map.2 ⟨old, hold, if_pos howner⟩, .inr ⟨old, howner, rfl⟩⟩
  · exact ⟨new, by simp, .inl rfl⟩

/-- A report that is not ancillary is not coalesced (R176). -/
theorem coalescedRecord_of_not_ancillary (a : AlarmUnit) {r : Report} (h : r.ancillary = false) :
    a.coalescedRecord r = none := by
  unfold AlarmUnit.coalescedRecord
  split <;> simp [h]

/-- A raise at its threshold that is not ancillary stands in its owner's entry, with the fields that it carries. -/
theorem reported_report {p : Part} {r : Report} (hraise : r.isRaise = true) (hown : r.ancillary = false)
    (hthreshold : p.alarm.atThreshold r = true) :
    (report r p).Reported r.owner r.condition (Entry.Shows r) := by
  have htake : p.alarm.take r =
      (p.alarm.updateStanding r).putEntry r.owner (fun e => e.merge r) (Entry.fresh r) := by
    simp [AlarmUnit.take, AlarmUnit.passesOn, AlarmUnit.enter, hraise, hthreshold,
      coalescedRecord_of_not_ancillary _ hown]
  obtain ⟨e, hmem, he⟩ :=
    exists_mem_putEntry (p.alarm.updateStanding r) r.owner (fun e => e.merge r) (Entry.fresh r)
  rw [← htake] at hmem
  refine .inl ⟨e, hmem, ?_⟩
  obtain rfl | ⟨old, howner, rfl⟩ := he
  · exact ⟨rfl, by simp [Entry.fresh, hraise], Entry.fresh_shows r⟩
  · exact ⟨howner, by simp [Entry.merge, hraise], Entry.merge_shows old r⟩

namespace Part.Reported

variable {p : Part} {o : Owner} {c : Condition} {shows : Entry → Prop}

theorem mono {weaker : Entry → Prop} (h : p.Reported o c shows) (himp : ∀ e, shows e → weaker e) :
    p.Reported o c weaker := by
  obtain ⟨e, hmem, howner, hraised, hshows⟩ | ⟨n, hbuffer, howner, hraised, hshows⟩ := h
  · exact .inl ⟨e, hmem, howner, hraised, himp e hshows⟩
  · exact .inr ⟨n, hbuffer, howner, hraised, himp _ hshows⟩

/-- A loading takes an entry to the buffer and loses none (R177). -/
theorem loadIfDue (h : p.Reported o c shows) : (loadIfDue p).Reported o c shows := by
  unfold Machine.loadIfDue
  split
  · exact h
  · obtain ⟨hempty, first, rest, hlist, hload⟩ | ⟨_, hload⟩ := load_cases p.alarm
    · obtain ⟨e, hmem, hnews⟩ | ⟨n, hbuffer, _⟩ := h
      · rw [hlist, List.mem_cons] at hmem
        obtain rfl | hmem := hmem
        · exact .inr ⟨_, congrArg AlarmUnit.buffer hload, hnews⟩
        · exact .inl ⟨e, (congrArg AlarmUnit.list hload) ▸ hmem, hnews⟩
      · simp [hempty] at hbuffer
    · rw [hload]
      exact h

/-- The end of a command keeps the news of an owner. -/
theorem settle (h : p.Reported o c shows) (waiting : List Instr) : (settle waiting p).Reported o c shows := by
  unfold Machine.settle
  split
  · exact h
  · exact h.loadIfDue

end Part.Reported

/-! ## What the end of a record leaves as it stands (R56, R112) -/

/-- Everything but record `i`, whose generation stays, the Reference Table and its inputs, the hub record, the
selection, the notices and the correction that waits for the next boundary. -/
structure RecordFrame (i : RecordIx) (p q : Part) : Prop where
  base       : KeepsBase p q
  records    : KeepsOtherRecords i p q
  generation : (q.record i).generation = (p.record i).generation
  ports      : q.ports = p.ports
  engines    : q.engines = p.engines
  pairs      : q.pairs = p.pairs
  mgmt       : q.mgmt = p.mgmt
  settings   : q.alarm.settings = p.alarm.settings

namespace RecordFrame

variable {i : RecordIx} {p q r : Part}

theorem refl (i : RecordIx) (p : Part) : RecordFrame i p p :=
  ⟨⟨rfl, rfl, rfl, rfl, rfl⟩, fun _ _ => rfl, rfl, rfl, rfl, rfl, rfl, rfl⟩

theorem trans (h : RecordFrame i p q) (g : RecordFrame i q r) : RecordFrame i p r where
  base := by
    obtain ⟨ho, hl, hp, hw, ht⟩ := h.base
    obtain ⟨go, gl, gp, gw, gt⟩ := g.base
    exact ⟨go.trans ho, gl.trans hl, gp.trans hp, gw.trans hw, by rw [gt, ht]⟩
  records j hj := (g.records j hj).trans (h.records j hj)
  generation := g.generation.trans h.generation
  ports := g.ports.trans h.ports
  engines := g.engines.trans h.engines
  pairs := g.pairs.trans h.pairs
  mgmt := g.mgmt.trans h.mgmt
  settings := g.settings.trans h.settings

theorem report (h : RecordFrame i p q) (x : Report) : RecordFrame i p (report x q) :=
  h.trans { refl i q with settings := take_settings _ _ }

theorem withSlot (h : RecordFrame i p q) (k : SlotIx) (f : SlotRecord → SlotRecord) :
    RecordFrame i p (withSlot k f q) :=
  h.trans { refl i q with }

theorem withInput (h : RecordFrame i p q) (k : SlotIx) (f : SlotInput → SlotInput) :
    RecordFrame i p (withInput k f q) :=
  h.trans { refl i q with }

theorem enterDisabled (h : RecordFrame i p q) (k : SlotIx) : RecordFrame i p (enterDisabled k q) :=
  (((h.withSlot _ _).withInput _ _).report _).report _

theorem setRecord (h : RecordFrame i p q) {x : ServiceRecord} (hx : x.generation = (q.record i).generation) :
    RecordFrame i p (q.setRecord i x) :=
  h.trans
    { refl i q with
      records := fun _ hj => record_setRecord_ne q hj.symm x
      generation := (congrArg ServiceRecord.generation (record_setRecord_self q i x)).trans hx }

theorem withRecord (h : RecordFrame i p q) (f : ServiceRecord → ServiceRecord)
    (hf : ∀ x, (f x).generation = x.generation) : RecordFrame i p (withRecord i f q) :=
  h.setRecord (hf _)

theorem setReturnBinding (h : RecordFrame i p q) (b : Option SlotIx) : RecordFrame i p (setReturnBinding i b q) :=
  h.setRecord rfl

theorem choose (h : RecordFrame i p q) (c : SelectionCause) : RecordFrame i p (choose c q) := by
  have kept := (HubFrame.refl q).choose c
  exact h.trans
    { base := ⟨kept.osc, kept.lineClock, kept.porn, kept.wrst, choose_tb q c⟩
      records := fun j _ => choose_record c q j
      generation := congrArg ServiceRecord.generation (choose_record c q i)
      ports := kept.ports, engines := kept.engines, pairs := kept.pairs, mgmt := kept.mgmt
      settings := choose_settings q c }

/-- A return slot bound to the record itself is unbound, the selected one too. -/
theorem unbindSlot (h : RecordFrame i p q) (c : SelectionCause) {k : SlotIx} {g : Generation}
    (hbound : (q.slot k).binding = some (i, g)) : RecordFrame i p (unbindSlot c k q) := by
  unfold Machine.unbindSlot
  rw [hbound]
  exact (((h.setReturnBinding none).withSlot _ _).enterDisabled _).choose _

theorem recordLost (h : RecordFrame i p q) (g : Generation) : RecordFrame i p (recordLost i g q) := by
  unfold Machine.recordLost
  split
  · exact h.unbindSlot _ ‹_›
  · split
    · exact h.unbindSlot _ ‹_›
    · exact h

theorem clearStandings (h : RecordFrame i p q) : RecordFrame i p (clearStandings i q) :=
  (((h.report _).report _).report _).report _

theorem vacate (h : RecordFrame i p q) : RecordFrame i p (vacate i q) := by
  refine RecordFrame.withRecord (RecordFrame.clearStandings ?_) _ (fun _ => rfl)
  split
  · exact h.recordLost _
  · exact h

theorem endLeft (h : RecordFrame i p q) (x : PortIx) : RecordFrame i p (endLeft x i q) := h.vacate.report _

theorem endRetired (h : RecordFrame i p q) (d : Detail) : RecordFrame i p (endRetired d i q) := h.vacate.report _

theorem settle (h : RecordFrame i p q) (waiting : List Instr) : RecordFrame i p (settle waiting q) :=
  h.trans
    { base := ⟨settle_osc q _, settle_lineClock q _, settle_porn q _, settle_wrst q _, by rw [settle_tb]⟩
      records := fun j _ => settle_record q _ j
      generation := congrArg ServiceRecord.generation (settle_record q _ i)
      ports := settle_ports q _, engines := settle_engines q _, pairs := settle_pairs q _, mgmt := settle_mgmt q _
      settings := settle_settings q _ }

theorem port (h : RecordFrame i p q) (j : PortIx) : q.port j = p.port j := by rw [Part.port, h.ports, Part.port]

theorem engine (h : RecordFrame i p q) (j : PortIx) : q.engine j = p.engine j := by
  rw [Part.engine, h.engines, Part.engine]

end RecordFrame

/-! ## The record that ends (R109, R111 to R114) -/

/-- A record that becomes VACANT keeps its generation alone. -/
@[simp] theorem vacate_record (i : RecordIx) (p : Part) : (vacate i p).record i = (p.record i).vacated := by
  have kept := ((RecordFrame.refl i p).vacate).generation
  have vacated : (vacate i p).record i = { generation := ((vacate i p).record i).generation } := by
    simp [vacate, withRecord, ServiceRecord.vacated]
  rw [vacated, kept, ServiceRecord.vacated]

theorem endedRecord_vacated (r : ServiceRecord) : EndedRecord r r.vacated := by
  simp [EndedRecord, ServiceRecord.vacated]

theorem endLeft_ended (q : PortIx) (i : RecordIx) (p : Part) :
    EndedRecord (p.record i) ((endLeft q i p).record i) := by
  rw [endLeft, report_record, vacate_record]
  exact endedRecord_vacated _

theorem endRetired_ended (d : Detail) (i : RecordIx) (p : Part) :
    EndedRecord (p.record i) ((endRetired d i p).record i) := by
  rw [endRetired, report_record, vacate_record]
  exact endedRecord_vacated _

/-- With every report of a record let in, one of a NOTE or above is at its threshold (R171). -/
theorem atThreshold_of_note {a : AlarmUnit} {i : RecordIx} {r : Report} (h : a.settings.recordThreshold = some .note)
    (howner : r.owner = .record i) (hseverity : Severity.note.code ≤ r.condition.severity.code) :
    a.atThreshold r = true := by
  simp [AlarmUnit.atThreshold, AlarmUnit.threshold, howner, h, hseverity]

/-- LEFT carries the identity that the record held and the port of the LEAVE (R111). -/
theorem endLeft_reported (q : PortIx) (i : RecordIx) {p : Part}
    (h : p.alarm.settings.recordThreshold = some .note) :
    (endLeft q i p).Reported (.record i) .left (fun e =>
      e.ports = some (portMask q) ∧ ∀ x, (p.record i).identity = some x → e.identity = some x) := by
  rw [← ((RecordFrame.refl i p).vacate).settings] at h
  exact (reported_report rfl rfl (atThreshold_of_note h rfl (Nat.le_refl _))).mono
    fun e shown => ⟨shown.ports _ rfl, fun x hx => shown.identity x hx⟩

/-- RETIRED carries the detail of the end (R109, R113, R114). -/
theorem endRetired_reported (d : Detail) (i : RecordIx) {p : Part}
    (h : p.alarm.settings.recordThreshold = some .note) :
    (endRetired d i p).Reported (.record i) .retired (fun e => e.detail = some d) := by
  rw [← ((RecordFrame.refl i p).vacate).settings] at h
  exact (reported_report rfl rfl (atThreshold_of_note h rfl (Nat.le_refl _))).mono
    fun e shown => shown.detail _ rfl

/-! ## The slot that a response decides (R125, R126) -/

/-- The part with the slot of a port decided and its outcome not yet reported: the error is the last slot error, and the
engine is at rest with no record to report to. -/
def slotDecided (q : PortIx) (error : SlotError) (p : Part) : Part :=
  withEngine q (fun e => { e with activity := .idle, target := none }) (setSlotError q error p)

section SlotDecided

variable (q : PortIx) (error : SlotError) (p : Part)

@[simp] theorem slotDecided_record (i : RecordIx) : (slotDecided q error p).record i = p.record i := rfl
@[simp] theorem slotDecided_alarm : (slotDecided q error p).alarm = p.alarm := rfl

@[simp] theorem slotDecided_port_self :
    (slotDecided q error p).port q = { p.port q with lastError := error } := port_setPort_self p q _

@[simp] theorem slotDecided_engine_self :
    (slotDecided q error p).engine q = { p.engine q with activity := .idle, target := none } :=
  engine_setEngine_self _ q _

theorem slotDecided_keepsOtherPorts : KeepsOtherPorts q p (slotDecided q error p) :=
  fun _ hj => ⟨port_setPort_ne p hj.symm _, engine_setEngine_ne _ hj.symm _⟩

end SlotDecided

/-- A slot with a record reports its outcome to that record once it is decided. -/
theorem decideSlot_target {q : PortIx} {t : SlotTarget} {p : Part} (o : SlotOutcome) (error : SlotError)
    (h : (p.engine q).target = some t) :
    decideSlot q o error p = recordOutcome q t (p.engine q).t1 (p.engine q).t4 o (slotDecided q error p) := by
  have same : (setSlotError q error p).engine q = p.engine q := rfl
  simp only [decideSlot, reportOutcome, same, h]
  rfl

/-- An accepted response of a record's slot decides it with no error. -/
theorem responseAccepted_target {q : PortIx} {t : SlotTarget} {p : Part} (o : SlotOutcome) (hheld : p.held = false)
    (hactivity : (p.engine q).activity = .response) (hslot : (p.engine q).slot.isAddress = true)
    (htarget : (p.engine q).target = some t) :
    responseAccepted q o p = recordOutcome q t (p.engine q).t1 (p.engine q).t4 o (slotDecided q .none p) := by
  simp [responseAccepted, unlessHeld, hheld, hactivity, hslot, decideSlot_target o .none htarget]

/-- An outcome reaches a record in PENDING, ACTIVE or SILENT of the generation that its slot began with. -/
theorem recordOutcome_live {q : PortIx} {t : SlotTarget} {p : Part} (t1 t4 : Option Stamp) (o : SlotOutcome)
    (hgeneration : (p.record t.record).generation = t.generation)
    (hstate : (p.record t.record).state = .pending ∨ (p.record t.record).state = .active ∨
      (p.record t.record).state = .silent) :
    recordOutcome q t t1 t4 o p = liveOutcome q t t1 t4 o p := by
  rcases hstate with h | h | h <;> simp [recordOutcome, hgeneration, h]

/-- An outcome reaches a record in RETIRING of the generation that its slot began with. -/
theorem recordOutcome_retiring {q : PortIx} {t : SlotTarget} {p : Part} (t1 t4 : Option Stamp) (o : SlotOutcome)
    (hgeneration : (p.record t.record).generation = t.generation) (hstate : (p.record t.record).state = .retiring) :
    recordOutcome q t t1 t4 o p = retiringOutcome t o p := by
  simp [recordOutcome, hgeneration, hstate]

/-! ## LEAVE (R111) -/

theorem exec_leave (q : PortIx) (characters : List LineChar) (s : State) :
    exec (.leave q characters) s = commandDone (leaveReceived q characters) s := rfl

/-- A LEAVE in the slot of a live record ends it as left. -/
theorem leaveReceived_live {q : PortIx} {t : SlotTarget} {characters : List LineChar} {p : Part}
    (hlive : p.LiveSlot q t) (hactivity : (p.engine q).activity = .response)
    (hleave : acceptedResponse false characters = some .leave) :
    leaveReceived q characters p = endLeft q t.record (slotDecided q .none p) := by
  obtain ⟨hheld, hslot, htarget, hgeneration, hstate⟩ := hlive
  rw [leaveReceived, if_pos hleave, responseAccepted_target _ hheld hactivity hslot htarget,
    recordOutcome_live (p := slotDecided q .none p) _ _ _ hgeneration hstate, liveOutcome]

/-- A LEAVE in the slot of a RETIRING record acknowledges its retirement (R114). -/
theorem leaveReceived_retiring {q : PortIx} {t : SlotTarget} {characters : List LineChar} {p : Part}
    (hheld : p.held = false) (hactivity : (p.engine q).activity = .response)
    (hleave : acceptedResponse false characters = some .leave) (hslot : (p.engine q).slot.isAddress = true)
    (htarget : (p.engine q).target = some t) (hgeneration : (p.record t.record).generation = t.generation)
    (hstate : (p.record t.record).state = .retiring) :
    leaveReceived q characters p = endRetired .acknowledged t.record (slotDecided q .none p) := by
  rw [leaveReceived, if_pos hleave, responseAccepted_target _ hheld hactivity hslot htarget,
    recordOutcome_retiring (p := slotDecided q .none p) _ _ _ hgeneration hstate, retiringOutcome, if_pos rfl]

/-- Settles O34: the LEAVE decides the slot and ends the record, and the end of a record leaves the rest as it
stands. -/
theorem leaveEndsTheRecord : Obligations.LeaveEndsTheRecord := by
  constructor
  · intro s q t characters hlive hactivity hleave _
    have frame := ((RecordFrame.refl t.record (slotDecided q .none s.part)).endLeft q).settle s.pending
    refine ⟨_, (exec_leave q characters s).trans (commandDone_next _ s), rfl, ?_⟩
    rw [leaveReceived_live hlive hactivity hleave]
    refine ⟨?ended, ?reported, ?error, ?activity, ?target, frame.records, ?otherPorts, frame.base, frame.pairs,
      frame.mgmt⟩
    case ended =>
      rw [settle_record]
      exact endLeft_ended q _ _
    case reported =>
      intro h
      exact (endLeft_reported q t.record (p := slotDecided q .none s.part) h).settle _
    case error => rw [frame.port, slotDecided_port_self]
    case activity => rw [frame.engine, slotDecided_engine_self]
    case target => rw [frame.engine, slotDecided_engine_self]
    case otherPorts =>
      intro j hj
      rw [frame.port, frame.engine]
      exact slotDecided_keepsOtherPorts q .none s.part j hj
  · intro s q t characters hheld hactivity hleave hslot htarget hgeneration hstate
    refine ⟨_, (exec_leave q characters s).trans (commandDone_next _ s), rfl, ?_⟩
    rw [leaveReceived_retiring hheld hactivity hleave hslot htarget hgeneration hstate]
    refine ⟨?ended, ?reported⟩
    case ended =>
      rw [settle_record]
      exact endRetired_ended .acknowledged _ _
    case reported =>
      intro h
      exact (endRetired_reported .acknowledged t.record (p := slotDecided q .none s.part) h).settle _

end Sys2Proof.Machine

/-! SUPPORT. The ALM line in LEVEL mode (R180): what a loading leaves in the buffer, what a READ-A outside a transaction
does, and the line while the buffer is read. -/

namespace Sys2Proof.Machine

/-! ## The buffer after a loading (R177) -/

/-- A loading ends with an empty buffer exactly when there was no notice and nothing to make one of. -/
theorem load_buffer_eq_none_iff (a : AlarmUnit) : a.load.buffer = none ↔ a.buffer = none ∧ a.list = [] := by
  obtain ⟨_, _, _, hlist, hload⟩ | ⟨hidle, hload⟩ := load_cases a
  · simp [hload, hlist]
  · rw [hload]
    exact ⟨fun hempty => ⟨hempty, hidle.resolve_left (not_not_intro hempty)⟩, And.left⟩

/-- With a notice in the buffer or nothing in the list, the end of a command changes nothing. -/
theorem settle_idle (waiting : List Instr) {p : Part} (h : p.alarm.buffer ≠ none ∨ p.alarm.list = []) :
    settle waiting p = p := by
  unfold settle
  split
  · rfl
  · exact loadIfDue_idle p h

/-- A loading that has just been made leaves none for the end of the command. -/
theorem settle_of_loaded (waiting : List Instr) {p : Part} {a : AlarmUnit} (h : p.alarm = a.load) :
    settle waiting p = p := by
  refine settle_idle waiting ?_
  rw [h]
  by_cases hempty : a.load.buffer = none
  · exact .inr (a.load_empty hempty)
  · exact .inl hempty

/-- The buffer that is freed is loaded with the next head at once (R179, R177). -/
theorem freeBuffer_of_free {p : Part} (hheld : p.held = false) :
    freeBuffer p = { p with alarm := { p.alarm with buffer := none }.load } :=
  if_neg (ne_true_of_eq_false hheld)

/-! ## A READ-A with no transaction open (R179, R186, R187; log entry 24) -/

/-- With none open, a transaction begins with the judgement of its header and completes. -/
theorem completeTransaction_of_none {op : Operation} {header : Byte} {p : Part} (effect : Part → Part)
    (hop : operationOf header = op) (hnone : p.mgmt.transaction = none) :
    completeTransaction op header effect p =
      finishTransaction effect { op := op, judgedOk := p.judges op, frame := p.outFrame op, intact := !p.held }
        (openTransaction header p) := by
  subst hop
  simp [completeTransaction, beginTransaction, hnone, openTransaction]

/-- The part after a READ-A that clocked its notice out whole. -/
def noticeRead (p : Part) : Part := closeTransaction (p.outFrame .readA) (freeBuffer (openTransaction 4 p))

theorem noticeRead_held {p : Part} (hheld : p.held = false) : (noticeRead p).held = false := by
  rw [noticeRead, freeBuffer_of_free (p := openTransaction 4 p) hheld]
  exact hheld

theorem noticeRead_alarm {p : Part} (hheld : p.held = false) :
    (noticeRead p).alarm = { p.alarm with buffer := none }.load := by
  rw [noticeRead, freeBuffer_of_free (p := openTransaction 4 p) hheld]
  rfl

/-- A READ-A that finds a notice reads it, and its own loading leaves nothing for the end of the command. -/
theorem exec_readA_of_notice {s : State} (hheld : s.part.held = false) (hnone : s.part.mgmt.transaction = none)
    (hnotice : s.part.alarm.buffer ≠ none) : exec .readA s = .next { s with part := noticeRead s.part } := by
  have hjudged : s.part.judges .readA = true := Option.isSome_iff_ne_none.2 hnotice
  have hread : completeTransaction .readA 4 freeBuffer s.part = noticeRead s.part := by
    rw [completeTransaction_of_none (op := .readA) freeBuffer rfl hnone]
    simp [finishTransaction, hjudged, hheld, noticeRead]
  calc exec .readA s = commandDone (completeTransaction .readA 4 freeBuffer) s := rfl
    _ = .next { s with part := settle s.pending (noticeRead s.part) } := by rw [commandDone_next, hread]
    _ = .next { s with part := noticeRead s.part } := by rw [settle_of_loaded s.pending (noticeRead_alarm hheld)]

/-! ## The line (R180) -/

@[simp] theorem lineLevel_activeHigh (active : Bool) : lineLevel active .activeHigh = active := rfl
@[simp] theorem lineLevel_activeLow (active : Bool) : lineLevel active .activeLow = !active := rfl

/-- In LEVEL mode, outside a reset, the ALM line is active exactly while the buffer holds a notice. -/
theorem almActive_iff_of_level {p : Part} (hheld : p.held = false) (hlevel : p.alarm.settings.almMode = .level) :
    p.almActive = true ↔ p.alarm.buffer ≠ none := by
  simp [Part.almActive, hheld, hlevel, Option.isSome_iff_ne_none]

/-- After the read of a notice the line is active exactly when the list held an entry to load. -/
theorem noticeRead_almActive_iff {p : Part} (hheld : p.held = false) (hlevel : p.alarm.settings.almMode = .level) :
    (noticeRead p).almActive = true ↔ p.alarm.list ≠ [] := by
  have hmode : (noticeRead p).alarm.settings.almMode = .level := by
    rw [noticeRead_alarm hheld, load_settings, hlevel]
  rw [almActive_iff_of_level (noticeRead_held hheld) hmode, noticeRead_alarm hheld, Ne, load_buffer_eq_none_iff]
  simp

/-- Settles O51: in LEVEL mode the line shows whether the buffer holds a notice, and a READ-A ends with the loading of
the next head, where there is one. -/
theorem almFollowsTheBufferInLevelMode : Obligations.AlmFollowsTheBufferInLevelMode := by
  unfold Obligations.AlmFollowsTheBufferInLevelMode
  refine ⟨fun p hheld hlevel => ⟨almActive_iff_of_level hheld hlevel, ?high, ?low⟩, rfl, ?read⟩
  case high =>
    intro hpolarity
    rw [hpolarity, lineLevel_activeHigh]
  case low =>
    intro hpolarity
    rw [hpolarity, lineLevel_activeLow]
  case read =>
    intro s n hheld hlevel hnone hbuffer
    have hnotice : s.part.alarm.buffer ≠ none := by simp [hbuffer]
    have hbefore : s.part.almActive = true := (almActive_iff_of_level hheld hlevel).2 hnotice
    have hafter := noticeRead_almActive_iff hheld hlevel
    refine ⟨_, exec_readA_of_notice hheld hnone hnotice, hbefore, hafter.2, ?_⟩
    intro hlast
    rw [← Bool.not_eq_true, hafter]
    exact not_not_intro hlast

end Sys2Proof.Machine

/-! SUPPORT. The hub record after each operation of the Discipline Unit (R68 to R88), and what every operation of it keeps:
the settings, one list entry for each owner, and the limits of the figures. -/

namespace Sys2Proof.Machine

/-! ## The hub record after each operation -/

section HubRecordAfter

variable (p : Part)

@[simp] theorem raiseHub_hub (c : Condition) : (raiseHub c p).hub = p.hub := rfl
@[simp] theorem clearHub_hub (c : Condition) : (clearHub c p).hub = p.hub := rfl
@[simp] theorem withHub_hub (f : HubRecord → HubRecord) : (withHub f p).hub = f p.hub := rfl
@[simp] theorem handOver_hub : (handOver p).hub = p.hub := rfl
@[simp] theorem requestStep_hub (d : Int) : (requestStep d p).hub = p.hub := rfl

@[simp] theorem advanceCause_hub :
    (advanceCause p).hub = { p.hub with causeNumber := nextCause p.hub.causeNumber } := rfl

@[simp] theorem correctionToF_hub : (correctionToF p).hub = { p.hub with correction := p.hub.integrator } := rfl

@[simp] theorem setBound_hub (u : Int) : (setBound u p).hub = { p.hub with bound := u } := rfl

@[simp] theorem startPrediction_hub :
    (startPrediction p).hub = { p.hub with prediction := some p.newPrediction, t := 0 } := rfl

@[simp] theorem startLineCount_hub :
    (startLineCount p).hub =
      { p.hub with lineCount := some { uEntry := p.hub.bound, slope := (p.slot lineSlot).freqBound }, t := 0 } := rfl

@[simp] theorem followLimit_hub (clamped : Bool) : (followLimit clamped p).hub = p.hub := by
  unfold followLimit
  split
  · split <;> rfl
  · rfl

@[simp] theorem loopUpdate_hub (g : Gains) (e : Int) :
    (loopUpdate g e p).hub =
      { p.hub with
        integrator := clampCorrection (loopF g p.hub.integrator e)
        correction := clampCorrection (loopY g p.hub.integrator e) } := by
  simp [loopUpdate]

@[simp] theorem filterUpdate_hub (r : Int) :
    (filterUpdate r p).hub =
      { p.hub with
        integrator := clampCorrection (p.hub.integrator + roundDiv (r - p.hub.integrator) 8)
        correction := clampCorrection (p.hub.integrator + roundDiv (r - p.hub.integrator) 8) } := by
  simp [filterUpdate]

/-- A prediction in force gives y; without one nothing changes (R85). -/
theorem predictCorrection_hub :
    (predictCorrection p).hub =
      { p.hub with
        correction := match p.hub.prediction with
          | some r => clampCorrection (r.correctionAt p.hub.t)
          | none => p.hub.correction } := by
  unfold predictCorrection
  cases h : p.hub.prediction <;> simp

@[simp] theorem enterFreeRun_hub :
    (enterFreeRun p).hub =
      { p.hub with state := .freeRun, grade := .e, bound := boundCeiling, correction := p.hub.integrator } := rfl

@[simp] theorem enterAcquire_hub (g : Grade) :
    (enterAcquire g p).hub = { p.hub with state := .acquire, grade := g, inWindow := 0, lineCount := none } := rfl

@[simp] theorem enterLocked_hub :
    (enterLocked p).hub =
      { p.hub with
        state := .locked, grade := lockedGrade p.hub.selected, wasLocked := true, outOfWindow := 0
        stepPermission := false } := rfl

@[simp] theorem enterLockedFreq_hub :
    (enterLockedFreq p).hub =
      { p.hub with
        state := .lockedFreq, grade := .c, wasLocked := true
        lineCount := some { uEntry := p.hub.bound, slope := (p.slot lineSlot).freqBound }, t := 0 } := rfl

/-- The record that BRIDGING is entered with (R75, R85). -/
theorem enterBridging_hub (origin : BridgedFrom) :
    (enterBridging origin p).hub =
      { p.hub with
        state := .bridging, grade := .c, bridgedFrom := origin, lineCount := none
        causeNumber := nextCause p.hub.causeNumber, correction := p.hub.integrator
        prediction := some p.newPrediction, t := 0 } := rfl

/-- Everything that the comparison of U with H can do to the hub record (R76, R77). -/
theorem compareBound_cases (advance : Bool) :
    (p.hub.state = .holdover ∧ toQ p.hub.settings.holdoverLimit < p.hub.bound ∧
        (compareBound advance p).hub =
          { p.hub with
            state := .holdoverExpired, grade := .d
            causeNumber := if advance then nextCause p.hub.causeNumber else p.hub.causeNumber }) ∨
      (¬ (p.hub.state = .holdover ∧ toQ p.hub.settings.holdoverLimit < p.hub.bound) ∧ compareBound advance p = p) := by
  unfold compareBound
  split
  · next h =>
    refine .inl ⟨h.1, h.2, ?_⟩
    cases advance <;> rfl
  · next h => exact .inr ⟨h, rfl⟩

/-- A state that is left keeps all of the hub record but F and the prediction (R75 to R78). -/
theorem leaveState_hub :
    (leaveState p).hub =
      { p.hub with
        integrator :=
          if p.hub.state = .holdover ∨ p.hub.state = .holdoverExpired then p.hub.correction else p.hub.integrator
        prediction :=
          if p.hub.state = .bridging ∨ p.hub.state = .holdover ∨ p.hub.state = .holdoverExpired then none
          else p.hub.prediction } := by
  unfold leaveState
  split <;> rename_i h <;> simp [h] <;> rw [← h]

@[simp] theorem leaveState_slot (k : SlotIx) : (leaveState p).slot k = p.slot k := by
  simp only [Part.slot, ((HubFrame.refl p).leaveState).slots]

end HubRecordAfter

/-! ## The list keeps one entry for each owner (R173) -/

/-- The list of an Alarm Unit holds at most one entry for each owner. -/
def AlarmUnit.OneEach (a : AlarmUnit) : Prop := (a.list.map Entry.owner).Nodup

/-- From one Alarm Unit to another the list keeps at most one entry for each owner. -/
def ListKept (a b : AlarmUnit) : Prop := a.OneEach → b.OneEach

theorem ListKept.of_list_eq {a b : AlarmUnit} (h : b.list = a.list) : ListKept a b := by
  intro one
  rwa [AlarmUnit.OneEach, h]

/-- Whatever a report enters as, it changes or adds the entry of one owner (R173, R174, R176). -/
theorem enter_kept (a : AlarmUnit) (r : Report) : ListKept a (a.enter r) := by
  intro one
  unfold AlarmUnit.enter
  split
  · exact putEntry_nodup a .hub _ _ (fun _ => rfl) rfl one
  · exact putEntry_nodup a r.owner _ _ (fun _ => rfl) rfl one

theorem take_kept (a : AlarmUnit) (r : Report) : ListKept a (a.take r) := by
  have standing : ListKept a (a.updateStanding r) := .of_list_eq (updateStanding_list a r)
  unfold AlarmUnit.take
  split
  · split
    · exact fun one => enter_kept _ r (standing one)
    · exact standing
  · exact id

theorem load_kept (a : AlarmUnit) : ListKept a a.load := by
  obtain ⟨_, e, rest, hlist, hload⟩ | ⟨_, hload⟩ := load_cases a
  · intro one
    rw [AlarmUnit.OneEach, hlist, List.map_cons] at one
    rw [AlarmUnit.OneEach, hload]
    exact (List.nodup_cons.1 one).2
  · rw [hload]
    exact id

/-! ## The limits of the figures (R80, R84) -/

/-- The figures of the hub record within their limits. -/
structure HubRecord.Limited (h : HubRecord) : Prop where
  integrator : magnitude h.integrator ≤ correctionLimit
  correction : magnitude h.correction ≤ correctionLimit
  average    : magnitude h.average ≤ correctionLimit
  bound      : h.bound ≤ boundCeiling

theorem withinLimits_iff (p : Part) :
    WithinLimits p ↔
      p.hub.Limited ∧ magnitude p.tb.applied ≤ correctionLimit ∧ magnitude p.tb.next ≤ correctionLimit ∧
        p.osc.restart ≤ 1000000 := by
  constructor
  · rintro ⟨hf, hy, ha, happlied, hnext, hu, hrestart⟩
    exact ⟨⟨hf, hy, ha, hu⟩, happlied, hnext, hrestart⟩
  · rintro ⟨⟨hf, hy, ha, hu⟩, happlied, hnext, hrestart⟩
    exact ⟨hf, hy, ha, happlied, hnext, hu, hrestart⟩

/-- A number divided, to the nearest, by one or more comes no further from zero and keeps its sign. -/
theorem roundDiv_between {d : Int} (hd : 1 ≤ d) (n : Int) :
    (0 ≤ n → 0 ≤ roundDiv n d ∧ roundDiv n d ≤ n) ∧ (n ≤ 0 → n ≤ roundDiv n d ∧ roundDiv n d ≤ 0) := by
  have nonneg : ∀ m : Int, 0 ≤ m → 0 ≤ (2 * m + d) / (2 * d) ∧ (2 * m + d) / (2 * d) ≤ m := by
    intro m hm
    refine ⟨Int.ediv_nonneg (by omega) (by omega), Int.lt_add_one_iff.1 (Int.ediv_lt_of_lt_mul (by omega) ?_)⟩
    nlinarith
  unfold roundDiv
  constructor
  · intro hn
    rw [if_pos hn]
    exact nonneg n hn
  · intro hn
    split
    · have := nonneg n ‹_›
      omega
    · have := nonneg (-n) (by omega)
      omega

/-- The learned average moves toward F and not past it (R82). -/
theorem average_limited {a f : Int} (w : Nat) (ha : magnitude a ≤ correctionLimit)
    (hf : magnitude f ≤ correctionLimit) : magnitude (a + roundShift (f - a) w) ≤ correctionLimit := by
  have step := roundDiv_between (show (1 : Int) ≤ 2 ^ w by exact_mod_cast Nat.one_le_two_pow) (f - a)
  unfold roundShift
  unfold magnitude correctionLimit at *
  obtain h | h := le_total 0 (f - a)
  · have := step.1 h
    split at ha <;> split at hf <;> split <;> omega
  · have := step.2 h
    split at ha <;> split at hf <;> split <;> omega

/-! ## What every operation of the Discipline Unit keeps -/

/-- From one part to another the Discipline Unit or the choice has acted: beside its frame, the settings stay, the list
keeps one entry for each owner, and the figures stay within their limits. -/
structure Steered (p q : Part) : Prop where
  frame    : HubFrame p q
  list     : ListKept p.alarm q.alarm
  settings : q.hub.settings = p.hub.settings
  limits   : WithinLimits p → WithinLimits q

theorem Steered.trans {p q r : Part} (h : Steered p q) (k : Steered q r) : Steered p r :=
  ⟨h.frame.trans k.frame, fun one => k.list (h.list one), k.settings.trans h.settings, fun l => k.limits (h.limits l)⟩

/-- The Discipline Unit alone has acted: the selection stays too. -/
structure Steers (p q : Part) : Prop extends Steered p q where
  selected    : q.selected = p.selected
  hubSelected : q.hub.selected = p.hub.selected

theorem HubFrame.applied {p q : Part} (h : HubFrame p q) : q.tb.applied = p.tb.applied := by rw [← h.tb]

/-- A change of the hub record that keeps its settings and its limits. -/
theorem Steered.withHub {p q : Part} (h : Steered p q) (f : HubRecord → HubRecord)
    (hsettings : (f q.hub).settings = q.hub.settings) (hf : q.hub.Limited → (f q.hub).Limited) :
    Steered p (withHub f q) where
  frame := h.frame.withHub f
  list := h.list
  settings := hsettings.trans h.settings
  limits l := by
    obtain ⟨hub, rest⟩ := (withinLimits_iff q).1 (h.limits l)
    exact (withinLimits_iff _).2 ⟨hf hub, rest⟩

theorem Steered.report {p q : Part} (h : Steered p q) (r : Report) : Steered p (report r q) where
  frame := h.frame.report r
  list one := take_kept _ r (h.list one)
  settings := h.settings
  limits := h.limits

namespace Steers

variable {p q r : Part}

theorem refl (p : Part) : Steers p p := ⟨⟨.refl p, id, rfl, id⟩, rfl, rfl⟩

theorem trans (h : Steers p q) (k : Steers q r) : Steers p r :=
  ⟨h.toSteered.trans k.toSteered, k.selected.trans h.selected, k.hubSelected.trans h.hubSelected⟩

theorem ite {c : Prop} [Decidable c] (h : Steers p q) (k : Steers p r) : Steers p (if c then q else r) := by
  split
  · exact h
  · exact k

theorem withHub (h : Steers p q) (f : HubRecord → HubRecord)
    (hkept : (f q.hub).settings = q.hub.settings ∧ (f q.hub).selected = q.hub.selected := by exact ⟨rfl, rfl⟩)
    (hf : q.hub.Limited → (f q.hub).Limited := by exact fun l => ⟨l.integrator, l.correction, l.average, l.bound⟩) :
    Steers p (withHub f q) :=
  ⟨h.toSteered.withHub f hkept.1 hf, h.selected, hkept.2.trans h.hubSelected⟩

theorem report (h : Steers p q) (r : Report) : Steers p (report r q) :=
  ⟨h.toSteered.report r, h.selected, h.hubSelected⟩

theorem handOver (h : Steers p q) : Steers p (handOver q) where
  selected := h.selected
  hubSelected := h.hubSelected
  frame := h.frame.handOver
  list := h.list
  settings := h.settings
  limits l := by
    obtain ⟨hub, happlied, _, hrestart⟩ := (withinLimits_iff q).1 (h.limits l)
    exact (withinLimits_iff _).2 ⟨hub, happlied, hub.correction, hrestart⟩

theorem requestStep (h : Steers p q) (d : Int) : Steers p (requestStep d q) :=
  ⟨⟨h.frame.requestStep d, h.list, h.settings, h.limits⟩, h.selected, h.hubSelected⟩

theorem raiseHub (h : Steers p q) (c : Condition) : Steers p (raiseHub c q) := h.report _

theorem clearHub (h : Steers p q) (c : Condition) : Steers p (clearHub c q) := h.report _

theorem advanceCause (h : Steers p q) : Steers p (advanceCause q) := h.withHub _

theorem followLimit (h : Steers p q) (b : Bool) : Steers p (followLimit b q) :=
  ite (ite h (h.raiseHub _)) (h.clearHub _)

theorem correctionToF (h : Steers p q) : Steers p (correctionToF q) :=
  (h.withHub _ ⟨rfl, rfl⟩ fun l => ⟨l.integrator, l.integrator, l.average, l.bound⟩).handOver

theorem loopUpdate (h : Steers p q) (g : Gains) (e : Int) : Steers p (loopUpdate g e q) :=
  ((h.withHub _ ⟨rfl, rfl⟩ fun l =>
    ⟨magnitude_clampCorrection _, magnitude_clampCorrection _, l.average, l.bound⟩).handOver).followLimit _

theorem filterUpdate (h : Steers p q) (x : Int) : Steers p (filterUpdate x q) :=
  ((h.withHub _ ⟨rfl, rfl⟩ fun l =>
    ⟨magnitude_clampCorrection _, magnitude_clampCorrection _, l.average, l.bound⟩).handOver).followLimit _

theorem averageUpdate (h : Steers p q) : Steers p (averageUpdate q) := by
  unfold Machine.averageUpdate
  refine h.withHub _ ⟨rfl, rfl⟩ fun l => ⟨l.integrator, l.correction, ?_, l.bound⟩
  dsimp only
  split
  · exact l.integrator
  · exact average_limited _ l.average l.integrator

theorem setBound (h : Steers p q) {u : Int} (hu : u ≤ boundCeiling) : Steers p (setBound u q) :=
  h.withHub _ ⟨rfl, rfl⟩ fun l => ⟨l.integrator, l.correction, l.average, hu⟩

theorem startPrediction (h : Steers p q) : Steers p (startPrediction q) := h.withHub _

theorem advancePrediction (h : Steers p q) : Steers p (advancePrediction q) := by
  refine h.withHub _ ⟨rfl, rfl⟩ fun l => ⟨l.integrator, l.correction, l.average, ?_⟩
  dsimp only
  split
  · exact saturateBound_le _
  · exact l.bound

theorem predictCorrection (h : Steers p q) : Steers p (predictCorrection q) := by
  unfold Machine.predictCorrection
  split
  · exact h
  · exact ((h.withHub _ ⟨rfl, rfl⟩ fun l =>
      ⟨l.integrator, magnitude_clampCorrection _, l.average, l.bound⟩).handOver).followLimit _

theorem startLineCount (h : Steers p q) : Steers p (startLineCount q) := h.withHub _

theorem advanceLineCount (h : Steers p q) : Steers p (advanceLineCount q) := by
  refine h.withHub _ ⟨rfl, rfl⟩ fun l => ⟨l.integrator, l.correction, l.average, ?_⟩
  dsimp only
  split
  · exact saturateBound_le _
  · exact l.bound

theorem enterFreeRun (h : Steers p q) : Steers p (enterFreeRun q) :=
  ((h.withHub _ ⟨rfl, rfl⟩ fun l => ⟨l.integrator, l.correction, l.average, le_rfl⟩).correctionToF).raiseHub _

theorem enterAcquire (h : Steers p q) (g : Grade) : Steers p (enterAcquire g q) := h.withHub _

theorem enterLocked (h : Steers p q) : Steers p (enterLocked q) := h.withHub _

theorem enterLockedFreq (h : Steers p q) : Steers p (enterLockedFreq q) := (h.withHub _).startLineCount

theorem enterBridging (h : Steers p q) (o : BridgedFrom) : Steers p (enterBridging o q) :=
  (((h.withHub _).advanceCause).raiseHub _).correctionToF.startPrediction

theorem compareBound (h : Steers p q) (b : Bool) : Steers p (compareBound b q) := by
  unfold Machine.compareBound
  split
  · cases b
    · exact (h.withHub _).raiseHub _
    · exact ((h.advanceCause).withHub _).raiseHub _
  · exact h

theorem enterHoldover (h : Steers p q) : Steers p (enterHoldover q) := by
  unfold Machine.enterHoldover
  by_cases hb : q.hub.state = .bridging
  · simp only [hb, decide_true, if_true]
    exact (((h.withHub _).raiseHub _).clearHub _).predictCorrection.compareBound _
  · simp only [hb, decide_false, Bool.false_eq_true, if_false]
    exact ((h.startPrediction.withHub _).raiseHub _).predictCorrection.compareBound _

theorem leaveState (h : Steers p q) : Steers p (leaveState q) := by
  have toLast : ∀ l : q.hub.Limited,
      ({ q.hub with integrator := q.hub.correction, prediction := none } : HubRecord).Limited :=
    fun l => ⟨l.correction, l.correction, l.average, l.bound⟩
  unfold Machine.leaveState
  split
  · exact h.clearHub _
  · exact h
  · exact h
  · exact h
  · exact (h.withHub _).clearHub _
  · exact (h.withHub _ ⟨rfl, rfl⟩ toLast).clearHub _
  · exact ((h.withHub _ ⟨rfl, rfl⟩ toLast).clearHub _).clearHub _

theorem moveOnReport (h : Steers p q) (new : Option SlotIx) : Steers p (moveOnReport new q) := by
  unfold Machine.moveOnReport
  split
  all_goals first
    | exact h
    | exact h.enterAcquire _
    | exact h.leaveState.enterAcquire _
    | exact h.leaveState.enterLockedFreq
    | exact h.enterHoldover
    | exact ite h.enterHoldover h.enterFreeRun

theorem acquireGood (h : Steers p q) (e a : Int) : Steers p (acquireGood e a q) :=
  ite (((h.loopUpdate _ _).setBound (saturateBound_le _)).withHub _).enterLocked
    (((h.loopUpdate _ _).setBound (saturateBound_le _)).withHub _)

theorem acquireBad (h : Steers p q) : Steers p (acquireBad q) :=
  h.correctionToF.withHub _ ⟨rfl, rfl⟩ fun l => ⟨l.integrator, l.correction, l.average, saturateBound_le _⟩

theorem askStep (h : Steers p q) (e a : Int) : Steers p (askStep e a q) :=
  (h.requestStep _).correctionToF.withHub _ ⟨rfl, rfl⟩ fun l =>
    ⟨l.integrator, l.correction, l.average, saturateBound_le _⟩

theorem lockedGood (h : Steers p q) (e a : Int) : Steers p (lockedGood e a q) :=
  ite (((((h.loopUpdate _ _).setBound (saturateBound_le _)).averageUpdate).withHub _).enterAcquire _)
    ((((h.loopUpdate _ _).setBound (saturateBound_le _)).averageUpdate).withHub _)

theorem lockedFreqGood (h : Steers p q) (x : Int) : Steers p (lockedFreqGood x q) :=
  ((h.filterUpdate _).averageUpdate).advanceLineCount

theorem bridgingGood (h : Steers p q) (x a : Int) : Steers p (bridgingGood x a q) := by
  unfold Machine.bridgingGood
  dsimp only
  split
  · exact h.leaveState.enterLocked.lockedGood _ _
  · exact h.leaveState.enterLockedFreq.lockedFreqGood _

theorem actOnTake (h : Steers p q) (b : Bool) (t : Option Take) : Steers p (actOnTake b t q) := by
  unfold Machine.actOnTake
  dsimp only
  split
  · exact h
  · refine ite h ?_
    split
    · exact ite (h.askStep _ _) (h.acquireGood _ _)
    · exact h.acquireBad
  · split
    · exact h.lockedGood _ _
    · exact h.enterBridging _
  · split
    · exact h.lockedFreqGood _
    · exact h.enterBridging _
  · split
    · exact h.advancePrediction.bridgingGood _ _
    · exact h.advancePrediction
  · exact h.advancePrediction.predictCorrection.compareBound _
  · exact h.advancePrediction.predictCorrection

theorem completeStep (h : Steers p q) : Steers p (completeStep q) := (h.withHub _).report _

theorem copyScale (h : Steers p q) (t : Take) : Steers p (copyScale t q) := by
  unfold Machine.copyScale
  split
  · exact ite (h.withHub _) h
  · exact h

end Steers

theorem selectionReport_steered (new : Option SlotIx) (c : SelectionCause) (p : Part) :
    Steered p (selectionReport new c p) := by
  have named : Steered p (withHub (fun h => { h with selected := new }) p) :=
    (Steers.refl p).toSteered.withHub _ rfl fun l => ⟨l.integrator, l.correction, l.average, l.bound⟩
  have advanced : Steered p (advanceCause (withHub (fun h => { h with selected := new }) p)) :=
    named.withHub _ rfl fun l => ⟨l.integrator, l.correction, l.average, l.bound⟩
  exact (advanced.report _).trans ((Steers.refl _).moveOnReport new).toSteered

theorem choose_steered (c : SelectionCause) (p : Part) : Steered p (choose c p) := by
  have chosen : Steered p { p with selected := p.choice } := ⟨(HubFrame.refl p).select _, id, rfl, id⟩
  obtain ⟨_, h⟩ | ⟨_, h⟩ := choose_cases c p
  · rw [h]
    exact (Steers.refl p).toSteered
  · rw [h]
    exact chosen.trans (selectionReport_steered _ _ _)

end Sys2Proof.Machine

/-! SUPPORT. The selection and the hub state (R58 to R61, R68): a choice stands once it is made, a selection report moves
the hub to a state that fits the slot it names, and the hub second event keeps the fit. -/

namespace Sys2Proof.Machine

/-! ## The choice (R58, R59) -/

/-- The best phase slot is one of the eligible phase slots. -/
theorem bestPhase_eligible {p : Part} {k : SlotIx} (h : p.bestPhase = some k) : p.eligible k = true ∧ k ≠ lineSlot := by
  have inside : ∀ j ∈ phaseSlots.filter (fun k => p.eligible k), p.eligible j = true ∧ j ≠ lineSlot := by
    intro j hj
    obtain ⟨hphase, heligible⟩ := List.mem_filter.1 hj
    exact ⟨heligible, ne_of_mem_of_not_mem hphase (by decide)⟩
  refine List.foldlRecOn (motive := fun best : Option SlotIx => ∀ j, best = some j → p.eligible j = true ∧ j ≠ lineSlot)
    (phaseSlots.filter (fun k => p.eligible k)) _ (fun j hj => by simp at hj) (fun best hbest i hi j hj => ?_) k h
  split at hj
  · exact Option.some.inj hj ▸ inside i hi
  · split at hj
    · exact Option.some.inj hj ▸ inside i hi
    · exact hbest j hj

/-- What R58 chooses is eligible; LINE is chosen only by preference or for want of a phase slot. -/
theorem best_eligible {p : Part} {k : SlotIx} (h : p.best = some k) : p.eligible k = true := by
  have ranked : p.ranked = some k → p.eligible k = true := by
    intro hranked
    unfold Part.ranked at hranked
    split at hranked
    · next hbest => exact (bestPhase_eligible (Option.some.inj hranked ▸ hbest)).1
    · split at hranked
      · exact Option.some.inj hranked ▸ ‹_›
      · simp at hranked
  unfold Part.best at h
  split at h
  · split at h
    · exact Option.some.inj h ▸ ‹_›
    · exact ranked h
  · exact ranked h

/-- The choice reads the eligibility of the slots, their order of priority, the settings and the selection alone. -/
theorem choice_congr {p q : Part} (heligible : ∀ k, q.eligible k = p.eligible k)
    (hpriority : ∀ k, (q.slot k).priority = (p.slot k).priority) (hsettings : q.hub.settings = p.hub.settings)
    (hselected : q.selected = p.selected) : q.choice = p.choice := by
  have hphase : q.bestPhase = p.bestPhase := by simp only [Part.bestPhase, heligible, hpriority]
  have hbest : q.best = p.best := by simp only [Part.best, Part.ranked, hphase, heligible, hsettings]
  simp only [Part.choice, hbest, hphase, heligible, hsettings, hselected]

/-- A selection that the rules of choice have made stands under them. -/
theorem choice_select (p : Part) : ({ p with selected := p.choice } : Part).choice = p.choice := by
  have hbest : ({ p with selected := p.choice } : Part).best = p.best := rfl
  have stands : ∀ c, (c = p.best ∨ c = p.selected ∧ p.choice = p.selected) → p.choice = c →
      ({ p with selected := c } : Part).choice = c := by
    rintro c (rfl | ⟨rfl, -⟩) hc
    · have heligible := fun k => @best_eligible p k
      simp only [Part.choice]
      change (if p.hub.settings.revertive = true then p.best else match p.best with
        | none => p.best
        | some k => if (!p.eligible k) = true then p.best
          else if k = lineSlot then if p.bestPhase.isNone = true then some k else p.best else some k) = p.best
      cases h : p.best with
      | none => simp
      | some k => simp [heligible k h]
    · exact hc
  refine stands _ ?_ rfl
  by_cases hsame : p.choice = p.best
  · exact .inl hsame
  · refine .inr ?_
    unfold Part.choice at hsame ⊢
    cases hsel : p.selected with
    | none => simp [hsel] at hsame
    | some k =>
      rw [hsel] at hsame
      split at hsame
      · exact absurd rfl hsame
      · next hrev =>
        simp only [hrev] at hsame ⊢
        split at hsame
        · exact absurd rfl hsame
        · split at hsame
          · split at hsame
            · simp_all
            · exact absurd rfl hsame
          · simp_all

/-! ## The hub state that a report leaves (R68) -/

/-- A hub state, with the state that BRIDGING returns to, fits the kind of a slot. -/
def StateFits (kind : NewKind) (state : HubState) (origin : BridgedFrom) : Prop :=
  match kind with
  | .none => state = .freeRun ∨ state = .holdover ∨ state = .holdoverExpired
  | .phase => state = .acquire ∨ state = .locked ∨ (state = .bridging ∧ origin = .locked)
  | .frequency => state = .lockedFreq ∨ (state = .bridging ∧ origin = .lockedFreq)

theorem hubStateFits_iff (p : Part) : HubStateFits p ↔ StateFits (newKind p.selected) p.hub.state p.hub.bridgedFrom :=
  Iff.rfl

/-- HOLDOVER may expire at once (R76). -/
theorem enterHoldover_state (p : Part) :
    (enterHoldover p).hub.state = .holdover ∨ (enterHoldover p).hub.state = .holdoverExpired := by
  unfold enterHoldover
  dsimp only
  obtain ⟨_, _, h⟩ | ⟨_, h⟩ := compareBound_cases
    (predictCorrection (if decide (p.hub.state = .bridging) = true then
      clearHub .bridging (raiseHub .holdover (withHub (fun h => { h with state := .holdover, grade := .c, lineCount := none })
        (if decide (p.hub.state = .bridging) = true then p else startPrediction p)))
      else raiseHub .holdover (withHub (fun h => { h with state := .holdover, grade := .c, lineCount := none })
        (if decide (p.hub.state = .bridging) = true then p else startPrediction p)))) false
  · exact .inr (congrArg HubRecord.state h)
  · left
    rw [h, predictCorrection_hub]
    split <;> rfl

/-- Whatever the hub state before, the table of R68 leads to one that fits the slot that the report names. -/
theorem moveOnReport_fits (new : Option SlotIx) (p : Part) :
    StateFits (newKind new) (moveOnReport new p).hub.state (moveOnReport new p).hub.bridgedFrom := by
  have held := enterHoldover_state p
  unfold moveOnReport
  split
  all_goals rename_i hkind hstate
  all_goals rw [hkind]
  case h_15 => exact .inl hstate
  case h_16 =>
    split
    · exact .inr held
    · exact .inl rfl
  all_goals simp_all [StateFits]

/-- After a choice the hub record names the selected slot, and the hub state fits it, when both were so before. -/
theorem choose_fits (c : SelectionCause) {p : Part} (hnames : p.hub.selected = p.selected) (hfits : HubStateFits p) :
    (choose c p).hub.selected = (choose c p).selected ∧ HubStateFits (choose c p) := by
  obtain ⟨_, h⟩ | ⟨_, h⟩ := choose_cases c p
  · rw [h]
    exact ⟨hnames, hfits⟩
  · rw [h, hubStateFits_iff, selectionReport]
    have moved := (Steers.refl (report
      { (advanceCause (withHub (fun h => { h with selected := p.choice }) { p with selected := p.choice })).hubReport
          .selection true with slot := some p.choice, detail := some (.selection (p.reportCause c)) }
      (advanceCause (withHub (fun h => { h with selected := p.choice }) { p with selected := p.choice })))).moveOnReport
      p.choice
    dsimp only
    rw [moved.selected, moved.hubSelected]
    exact ⟨rfl, moveOnReport_fits _ _⟩

/-- The selection after a choice is the one chosen. -/
theorem choose_selected (c : SelectionCause) (p : Part) : (choose c p).selected = p.choice := by
  obtain ⟨hsame, h⟩ | ⟨_, h⟩ := choose_cases c p
  · rw [h, hsame]
  · rw [h, selectionReport]
    exact ((Steers.refl _).moveOnReport _).selected

theorem eligible_congr {p q : Part} {k : SlotIx} (h : q.slot k = p.slot k) : q.eligible k = p.eligible k := by
  simp only [Part.eligible, h]

/-- After a choice the selection is the one that the rules of choice give. -/
theorem choose_choice (c : SelectionCause) (p : Part) : (choose c p).choice = (choose c p).selected := by
  have same : (choose c p).choice = ({ p with selected := p.choice } : Part).choice :=
    choice_congr (fun k => eligible_congr (choose_slot c p k)) (fun k => by rw [choose_slot]; rfl)
      (choose_steered c p).settings (choose_selected c p)
  rw [same, choose_selected, choice_select]

/-! ## The hub state at a hub second event (R67) -/

section StateAfterTake

variable (p : Part) (e a : Int)

theorem acquireGood_state : (acquireGood e a p).hub.state = p.hub.state ∨ (acquireGood e a p).hub.state = .locked := by
  unfold acquireGood
  dsimp only
  generalize (if magnitude e ≤ toQ p.hub.settings.lockWindow then p.hub.inWindow + 1 else 0) = run
  split
  · exact .inr rfl
  · exact .inl (by simp)

theorem lockedGood_state : (lockedGood e a p).hub.state = p.hub.state ∨ (lockedGood e a p).hub.state = .acquire := by
  unfold lockedGood
  dsimp only
  generalize (if toQ p.hub.settings.lockWindow < magnitude e then p.hub.outOfWindow + 1 else 0) = run
  split
  · exact .inr rfl
  · exact .inl (by simp [averageUpdate])

@[simp] theorem averageUpdate_state : (averageUpdate p).hub.state = p.hub.state := rfl
@[simp] theorem averageUpdate_bridgedFrom : (averageUpdate p).hub.bridgedFrom = p.hub.bridgedFrom := rfl
@[simp] theorem advancePrediction_state : (advancePrediction p).hub.state = p.hub.state := rfl
@[simp] theorem advancePrediction_bridgedFrom : (advancePrediction p).hub.bridgedFrom = p.hub.bridgedFrom := rfl
@[simp] theorem advancePrediction_selected : (advancePrediction p).selected = p.selected := rfl
@[simp] theorem acquireBad_state : (acquireBad p).hub.state = p.hub.state := rfl
@[simp] theorem askStep_state : (askStep e a p).hub.state = p.hub.state := rfl

@[simp] theorem lockedFreqGood_state : (lockedFreqGood e p).hub.state = p.hub.state := by
  simp [lockedFreqGood, advanceLineCount]

/-- From BRIDGING a GOOD sample leads back to the state bridged from, or by way of LOCKED to ACQUIRE (R75, R73). -/
theorem bridgingGood_state :
    (p.hub.bridgedFrom = .locked ∧ ((bridgingGood e a p).hub.state = .locked ∨ (bridgingGood e a p).hub.state = .acquire)) ∨
      (p.hub.bridgedFrom = .lockedFreq ∧ (bridgingGood e a p).hub.state = .lockedFreq) := by
  unfold bridgingGood
  cases h : p.hub.bridgedFrom with
  | locked => exact .inl ⟨rfl, lockedGood_state _ e a⟩
  | lockedFreq => exact .inr ⟨rfl, by simp⟩

theorem expired_or_same (advance : Bool) :
    (compareBound advance p).hub.state = p.hub.state ∨
      (p.hub.state = .holdover ∧ (compareBound advance p).hub.state = .holdoverExpired) := by
  obtain ⟨hstate, _, h⟩ | ⟨_, h⟩ := compareBound_cases p advance
  · exact .inr ⟨hstate, congrArg HubRecord.state h⟩
  · exact .inl (by rw [h])

theorem predictCorrection_state : (predictCorrection p).hub.state = p.hub.state := by rw [predictCorrection_hub]

end StateAfterTake

/-- Which states fit does not depend on the state to return to, outside BRIDGING. -/
theorem StateFits.of_ne_bridging {kind : NewKind} {state : HubState} {o o' : BridgedFrom}
    (h : StateFits kind state o) (hne : state ≠ .bridging) : StateFits kind state o' := by
  cases kind <;> simp_all [StateFits]

/-- Each act on a take leaves a state that fits the slot that the state before fitted. -/
theorem actOnTake_fits (b : Bool) (t : Option Take) {p : Part} (h : HubStateFits p) : HubStateFits (actOnTake b t p) := by
  have steers := (Steers.refl p).actOnTake b t
  rw [hubStateFits_iff] at h ⊢
  rw [steers.selected]
  generalize newKind p.selected = kind at h ⊢
  unfold actOnTake
  dsimp only
  split
  all_goals rename_i hstate
  all_goals rw [hstate] at h
  case h_1 => rwa [hstate]
  case h_2 =>
    have stays : ∀ q : Part, q.hub.state = .acquire ∨ q.hub.state = .locked →
        StateFits kind q.hub.state q.hub.bridgedFrom := by
      rintro q (hq | hq) <;> rw [hq] <;> cases kind <;> simp_all [StateFits]
    split
    · exact stays p (.inl hstate)
    · split
      · split
        · exact stays _ (.inl hstate)
        · exact stays _ (hstate ▸ acquireGood_state p _ _)
      · exact stays _ (.inl hstate)
  case h_3 =>
    split
    · next e _ =>
      obtain hq | hq := lockedGood_state p e ((t.bind Take.accuracy).getD 0)
      · rw [hq, hstate]
        exact h.of_ne_bridging (by simp)
      · rw [hq]
        cases kind <;> simp_all [StateFits]
    · rw [enterBridging_hub]
      cases kind <;> simp_all [StateFits]
  case h_4 =>
    split
    · rw [lockedFreqGood_state, hstate]
      exact h.of_ne_bridging (by simp)
    · rw [enterBridging_hub]
      cases kind <;> simp_all [StateFits]
  case h_5 =>
    split
    · next x _ =>
      obtain ⟨horigin, hq⟩ | ⟨horigin, hq⟩ :=
        bridgingGood_state (advancePrediction p) x ((t.bind Take.accuracy).getD 0)
      · rw [advancePrediction_bridgedFrom] at horigin
        rcases hq with hq | hq <;> rw [hq] <;> cases kind <;> simp_all [StateFits]
      · rw [advancePrediction_bridgedFrom] at horigin
        rw [hq]
        cases kind <;> simp_all [StateFits]
    · simpa [hstate] using h
  case h_6 =>
    obtain hq | ⟨_, hq⟩ := expired_or_same (predictCorrection (advancePrediction p)) true
    · rw [hq, predictCorrection_state, advancePrediction_state, hstate]
      exact h.of_ne_bridging (by simp)
    · rw [hq]
      cases kind <;> simp_all [StateFits]
  case h_7 =>
    rw [predictCorrection_state, advancePrediction_state, hstate]
    exact h.of_ne_bridging (by simp)

end Sys2Proof.Machine

/-! SUPPORT. What it takes to keep the invariants: the relation that every operation of the part stands in to the part
before it, and the operations on one record, on one slot and on a return binding. -/

namespace Sys2Proof.Machine

/-! ## The relation -/

/-- The hub record names the selected slot, and the hub state fits it. -/
def SelectionFits (p : Part) : Prop := p.hub.selected = p.selected ∧ HubStateFits p

/-- From one part to another every invariant is kept, but that one half of a return binding may be written and a choice
may be due. -/
structure HalfWay (p q : Part) : Prop where
  limits   : WithinLimits p → WithinLimits q
  comps    : CompensationInRange p → CompensationInRange q
  laws     : RecordLaws p → RecordLaws q
  list     : OneEntryPerOwner p → OneEntryPerOwner q
  fits     : SelectionFits p → SelectionFits q

/-- From one part to another every invariant is kept, but that a choice may be due. -/
structure Staged (p q : Part) : Prop extends HalfWay p q where
  bindings : BindingsAgree p → BindingsAgree q

/-- From one part to another every invariant is kept. -/
structure Kept (p q : Part) : Prop extends Staged p q where
  selection : SelectionAgrees p → SelectionAgrees q

/-- What the invariants read is as it was, but for the settings of the hub record, the eligibility of the slots, and
reports in the list. -/
structure SameCore (p q : Part) : Prop where
  hub      : { q.hub with settings := p.hub.settings } = p.hub
  selected : q.selected = p.selected
  bindings : ∀ k, (q.slot k).binding = (p.slot k).binding
  records  : ∀ i, q.record i = p.record i
  applied  : q.tb.applied = p.tb.applied
  next     : q.tb.next = p.tb.next
  restart  : q.osc.restart = p.osc.restart
  list     : ListKept p.alarm q.alarm

/-- What makes a slot eligible, and its place in the order of priority, are as they were. -/
def SlotRecord.SameRank (r r' : SlotRecord) : Prop :=
  r'.state = r.state ∧ r'.lockout = r.lockout ∧ r'.priority = r.priority

theorem bindingsAgree_congr {p q : Part} (hslots : ∀ k, (q.slot k).binding = (p.slot k).binding)
    (hrecords : ∀ i, q.record i = p.record i) (h : BindingsAgree p) : BindingsAgree q := by
  simpa only [BindingsAgree, hslots, hrecords] using h

theorem recordLaws_congr {p q : Part} (hrecords : ∀ i, q.record i = p.record i) (h : RecordLaws p) : RecordLaws q := by
  simpa only [RecordLaws, hrecords] using h

theorem comps_congr {p q : Part} (hrecords : ∀ i, q.record i = p.record i) (h : CompensationInRange p) :
    CompensationInRange q := by
  simpa only [CompensationInRange, hrecords] using h

theorem SameCore.staged {p q : Part} (h : SameCore p q) : Staged p q where
  limits l := by
    obtain ⟨limited, happlied, hnext, hrestart⟩ := (withinLimits_iff p).1 l
    rw [← h.hub] at limited
    refine (withinLimits_iff q).2 ⟨⟨limited.integrator, limited.correction, limited.average, limited.bound⟩, ?_⟩
    rw [h.applied, h.next, h.restart]
    exact ⟨happlied, hnext, hrestart⟩
  comps := comps_congr h.records
  laws := recordLaws_congr h.records
  bindings := bindingsAgree_congr h.bindings h.records
  list one := h.list one
  fits f := by
    obtain ⟨hnames, hfits⟩ := f
    rw [← h.hub] at hnames
    rw [hubStateFits_iff, ← h.hub] at hfits
    refine ⟨hnames.trans h.selected.symm, ?_⟩
    rw [hubStateFits_iff, h.selected]
    exact hfits

theorem SameCore.refl (p : Part) : SameCore p p := ⟨rfl, rfl, fun _ => rfl, fun _ => rfl, rfl, rfl, rfl, id⟩

theorem SlotRecord.SameRank.refl (r : SlotRecord) : r.SameRank r := ⟨rfl, rfl, rfl⟩

theorem slot_withSlot (k j : SlotIx) (f : SlotRecord → SlotRecord) (p : Part) :
    (withSlot k f p).slot j = if k = j then f (p.slot k) else p.slot j := slot_setSlot p k j _

theorem record_withRecord (i j : RecordIx) (f : ServiceRecord → ServiceRecord) (p : Part) :
    (withRecord i f p).record j = if i = j then f (p.record i) else p.record j := record_setRecord p i j _

/-- A slot record changes, its binding apart. -/
theorem SameCore.withSlot (p : Part) (k : SlotIx) (f : SlotRecord → SlotRecord)
    (hf : (f (p.slot k)).binding = (p.slot k).binding) : SameCore p (withSlot k f p) :=
  { SameCore.refl p with
    bindings := fun j => by
      rw [slot_withSlot]
      split
      · next h => rw [hf, h]
      · rfl }

namespace HalfWay

variable {p q r : Part}

theorem trans (h : HalfWay p q) (k : HalfWay q r) : HalfWay p r :=
  ⟨fun x => k.limits (h.limits x), fun x => k.comps (h.comps x), fun x => k.laws (h.laws x),
    fun x => k.list (h.list x), fun x => k.fits (h.fits x)⟩

/-- A slot record changes, its binding too. -/
theorem withSlot (h : HalfWay p q) (k : SlotIx) (f : SlotRecord → SlotRecord) : HalfWay p (withSlot k f q) :=
  ⟨h.limits, h.comps, h.laws, h.list, h.fits⟩

end HalfWay

namespace Staged

variable {p q r : Part}

theorem refl (p : Part) : Staged p p := ⟨⟨id, id, id, id, id⟩, id⟩

theorem trans (h : Staged p q) (k : Staged q r) : Staged p r :=
  ⟨h.toHalfWay.trans k.toHalfWay, fun x => k.bindings (h.bindings x)⟩

theorem ite {c : Prop} [Decidable c] (h : Staged p q) (k : Staged p r) : Staged p (if c then q else r) := by
  split
  · exact h
  · exact k

/-- A choice that follows settles the selection (R60). -/
theorem choose (h : Staged p q) (c : SelectionCause) : Kept p (choose c q) := by
  have steered := choose_steered c q
  have fits : SelectionFits p → SelectionFits (Machine.choose c q) := fun f =>
    choose_fits c (h.fits f).1 (h.fits f).2
  exact
    { limits := fun l => steered.limits (h.limits l)
      comps := fun x => comps_congr (choose_record c q) (h.comps x)
      laws := fun x => recordLaws_congr (choose_record c q) (h.laws x)
      bindings := fun x => bindingsAgree_congr (fun k => by rw [choose_slot]) (choose_record c q) (h.bindings x)
      list := fun one => steered.list (h.list one)
      fits := fits
      selection := fun s => ⟨choose_choice c q, fits s.2⟩ }

theorem report (h : Staged p q) (x : Report) : Staged p (report x q) :=
  h.trans (SameCore.staged { SameCore.refl q with list := take_kept _ x })

theorem withInput (h : Staged p q) (k : SlotIx) (f : SlotInput → SlotInput) : Staged p (withInput k f q) :=
  h.trans (SameCore.staged { SameCore.refl q with })

theorem withSlot (h : Staged p q) (k : SlotIx) (f : SlotRecord → SlotRecord)
    (hf : (f (q.slot k)).binding = (q.slot k).binding := by rfl) : Staged p (withSlot k f q) :=
  h.trans (SameCore.withSlot q k f hf).staged

theorem withSettings (h : Staged p q) (f : HubRecord → HubRecord)
    (hf : { f q.hub with settings := q.hub.settings } = q.hub := by rfl) : Staged p (withHub f q) :=
  h.trans (SameCore.staged { SameCore.refl q with hub := hf })

theorem raiseSlot (h : Staged p q) (c : Condition) (k : SlotIx) : Staged p (raiseSlot c k q) := h.report _

theorem clearSlot (h : Staged p q) (c : Condition) (k : SlotIx) : Staged p (clearSlot c k q) := h.report _

theorem enterQualified (h : Staged p q) (k : SlotIx) : Staged p (enterQualified k q) := (h.withSlot _ _).raiseSlot _ _

theorem enterFailed (h : Staged p q) (k : SlotIx) : Staged p (enterFailed k q) := (h.withSlot _ _).raiseSlot _ _

theorem enterDisabled (h : Staged p q) (k : SlotIx) : Staged p (enterDisabled k q) :=
  (((h.withSlot _ _).withInput _ _).clearSlot _ _).clearSlot _ _

theorem leaveDisabled (h : Staged p q) (k : SlotIx) : Staged p (leaveDisabled k q) := by
  unfold Machine.leaveDisabled startInput
  exact (h.withSlot _ _).withInput _ _

end Staged

/-! ## The Record Table (R91, R94) -/

/-- C in its range (R146). -/
def ServiceRecord.CompensationOk (r : ServiceRecord) : Prop := 0 ≤ r.compensation ∧ r.compensation ≤ compensationLimit

/-- A record after a change that leaves its occupant, its place and its return binding: the state neither becomes nor
leaves VACANT and does not become RETIRING, and C stays in its range. -/
structure ServiceRecord.SameSeat (r r' : ServiceRecord) : Prop where
  vacant        : r'.state = .vacant ↔ r.state = .vacant
  retiring      : r'.state = .retiring → r.state = .retiring
  homePort      : r'.homePort = r.homePort
  currentPort   : r'.currentPort = r.currentPort
  address       : r'.address = r.address
  identity      : r'.identity = r.identity
  generation    : r'.generation = r.generation
  returnBinding : r'.returnBinding = r.returnBinding
  compensation  : r.CompensationOk → r'.CompensationOk

namespace ServiceRecord.SameSeat

variable {r s t : ServiceRecord}

theorem refl (r : ServiceRecord) : r.SameSeat r := ⟨Iff.rfl, id, rfl, rfl, rfl, rfl, rfl, rfl, id⟩

theorem trans (h : r.SameSeat s) (k : s.SameSeat t) : r.SameSeat t :=
  ⟨k.vacant.trans h.vacant, fun x => h.retiring (k.retiring x), k.homePort.trans h.homePort,
    k.currentPort.trans h.currentPort, k.address.trans h.address, k.identity.trans h.identity,
    k.generation.trans h.generation, k.returnBinding.trans h.returnBinding, fun x => k.compensation (h.compensation x)⟩

/-- A record counts against the same ports. -/
theorem counts (h : r.SameSeat s) (q : PortIx) : s.counts q = r.counts q := by
  have hv := h.vacant
  by_cases hs : r.state = .vacant
  · simp [ServiceRecord.counts, hs, hv.2 hs]
  · have : s.state ≠ .vacant := fun x => hs (hv.1 x)
    simp [ServiceRecord.counts, bne_iff_ne.2 hs, bne_iff_ne.2 this, h.homePort, h.currentPort]

end ServiceRecord.SameSeat

/-- The laws of R94 stand when a record is written whose address and identity no other record has. -/
theorem recordLaws_setRecord {p : Part} {i : RecordIx} {r : ServiceRecord}
    (haddress : ∀ q j, j ≠ i → r.counts q = true → (p.record j).counts q = true → (p.record j).address ≠ r.address)
    (hidentity : ∀ x j, j ≠ i → r.state ≠ .vacant → r.identity = some x → (p.record j).state ≠ .vacant →
      (p.record j).identity ≠ some x) (h : RecordLaws p) : RecordLaws (p.setRecord i r) := by
  obtain ⟨haddresses, hidentities⟩ := h
  constructor
  · intro q j k
    simp only [record_setRecord]
    split
    · next hj =>
      split
      · next hk => exact fun _ _ _ => hj ▸ hk
      · next hk => exact fun hr hc ha => absurd ha.symm (haddress q k (Ne.symm hk) hr hc)
    · next hj =>
      split
      · next hk => exact fun hc hr ha => absurd ha (haddress q j (Ne.symm hj) hr hc)
      · exact haddresses q j k
  · intro x j k
    simp only [record_setRecord]
    split
    · next hj =>
      split
      · next hk => exact fun _ _ _ _ => hj ▸ hk
      · next hk => exact fun hr hc hx hx' => absurd hx' (hidentity x k (Ne.symm hk) hr hx hc)
    · next hj =>
      split
      · next hk => exact fun hc hr hx hx' => absurd hx (hidentity x j (Ne.symm hj) hr hx' hc)
      · exact hidentities x j k

theorem recordLaws_sameSeat {p : Part} {i : RecordIx} {r : ServiceRecord} (hr : (p.record i).SameSeat r)
    (h : RecordLaws p) : RecordLaws (p.setRecord i r) := by
  refine recordLaws_setRecord (fun q j hj hc hc' ha => hj ?_) (fun x j hj hs hx hs' hx' => hj ?_) h
  · exact h.1 q j i hc' (hr.counts q ▸ hc) (ha.trans hr.address)
  · exact h.2 x j i hs' (fun hv => hs (hr.vacant.2 hv)) hx' (hr.identity ▸ hx)

/-- A record that stays live, or stays as dead as it was, keeps the bindings in agreement with its half and its
generation. -/
theorem bindingsAgree_setRecord {p : Part} {i : RecordIx} {r : ServiceRecord}
    (hreturn : r.returnBinding = (p.record i).returnBinding) (hgeneration : r.generation = (p.record i).generation)
    (hvacant : r.state = .vacant → (p.record i).state = .vacant)
    (hretiring : r.state = .retiring → (p.record i).state = .retiring) (h : BindingsAgree p) :
    BindingsAgree (p.setRecord i r) := by
  obtain ⟨hlow, hslot, hrecord⟩ := h
  refine ⟨hlow, fun k j g hb => ?_, fun j k => ?_⟩
  · obtain ⟨hreturn', hgeneration', hvacant', hretiring'⟩ := hslot k j g hb
    rw [record_setRecord]
    split
    · next hj =>
      subst hj
      exact ⟨hreturn.trans hreturn', hgeneration.trans hgeneration', fun x => hvacant' (hvacant x),
        fun x => hretiring' (hretiring x)⟩
    · exact ⟨hreturn', hgeneration', hvacant', hretiring'⟩
  · rw [record_setRecord]
    split
    · next hj =>
      subst hj
      rw [hreturn, hgeneration]
      exact hrecord i k
    · exact hrecord j k

theorem bindingsAgree_sameSeat {p : Part} {i : RecordIx} {r : ServiceRecord} (hr : (p.record i).SameSeat r)
    (h : BindingsAgree p) : BindingsAgree (p.setRecord i r) :=
  bindingsAgree_setRecord hr.returnBinding hr.generation hr.vacant.1 hr.retiring h

/-- A record that no slot is bound to is written with no return binding. -/
theorem bindingsAgree_unbound {p : Part} {i : RecordIx} {r : ServiceRecord}
    (hbefore : (p.record i).returnBinding = none) (hafter : r.returnBinding = none) (h : BindingsAgree p) :
    BindingsAgree (p.setRecord i r) := by
  obtain ⟨hlow, hslot, hrecord⟩ := h
  refine ⟨hlow, fun k j g hb => ?_, fun j k => ?_⟩
  · have same := hslot k j g hb
    rw [record_setRecord, if_neg]
    · exact same
    · rintro rfl
      simp [hbefore] at same
  · rw [record_setRecord]
    split
    · simp [hafter]
    · exact hrecord j k

/-- A VACANT record has no return binding. -/
theorem BindingsAgree.vacant {p : Part} {i : RecordIx} (h : BindingsAgree p) (hi : (p.record i).state = .vacant) :
    (p.record i).returnBinding = none := by
  obtain ⟨_, hslot, hrecord⟩ := h
  cases hb : (p.record i).returnBinding with
  | none => rfl
  | some k => exact absurd hi (hslot k i _ (hrecord i k hb)).2.2.1

/-- With the settings, the selection and the ranks as they were, no choice is due. -/
theorem Staged.settled {p q : Part} (h : Staged p q) (hsettings : q.hub.settings = p.hub.settings)
    (hselected : q.selected = p.selected) (hranks : ∀ k, (p.slot k).SameRank (q.slot k)) : Kept p q where
  toStaged := h
  selection s := by
    obtain ⟨hchoice, hfits⟩ := s
    have same : q.choice = p.choice := by
      refine choice_congr (fun k => ?_) (fun k => (hranks k).2.2) hsettings hselected
      obtain ⟨hstate, hlockout, hpriority⟩ := hranks k
      simp only [Part.eligible, hstate, hlockout, hpriority]
    exact ⟨same.trans (hchoice.trans hselected.symm), h.fits hfits⟩

namespace Kept

variable {p q r : Part}

theorem refl (p : Part) : Kept p p := ⟨.refl p, id⟩

theorem trans (h : Kept p q) (k : Kept q r) : Kept p r := ⟨h.toStaged.trans k.toStaged, fun s => k.selection (h.selection s)⟩

theorem ite {c : Prop} [Decidable c] (h : Kept p q) (k : Kept p r) : Kept p (if c then q else r) := by
  split
  · exact h
  · exact k

/-- What the invariants read is as it was. -/
theorem same (h : Kept p q) (core : SameCore q r) (hsettings : r.hub.settings = q.hub.settings := by rfl)
    (hranks : ∀ k, (q.slot k).SameRank (r.slot k) := by exact fun k => ⟨rfl, rfl, rfl⟩) : Kept p r :=
  h.trans (core.staged.settled hsettings core.selected hranks)

theorem report (h : Kept p q) (x : Report) : Kept p (report x q) := h.same { SameCore.refl q with list := take_kept _ x }

theorem withInput (h : Kept p q) (k : SlotIx) (f : SlotInput → SlotInput) : Kept p (withInput k f q) :=
  h.same { SameCore.refl q with }

theorem withPort (h : Kept p q) (k : PortIx) (f : PortRecord → PortRecord) : Kept p (withPort k f q) :=
  h.same { SameCore.refl q with }

theorem bindPort (h : Kept p q) (k : PortIx) : Kept p (bindPort k q) := h.same { SameCore.refl q with }

theorem withEngine (h : Kept p q) (k : PortIx) (f : Engine → Engine) : Kept p (withEngine k f q) :=
  h.same { SameCore.refl q with }

theorem withPair (h : Kept p q) (k : PairIx) (f : PairRecord → PairRecord) : Kept p (withPair k f q) :=
  h.same { SameCore.refl q with }

/-- A slot record changes, its binding and its rank apart. -/
theorem withSlot (h : Kept p q) (k : SlotIx) (f : SlotRecord → SlotRecord)
    (hf : (f (q.slot k)).binding = (q.slot k).binding := by rfl)
    (hrank : (q.slot k).SameRank (f (q.slot k)) := by exact ⟨rfl, rfl, rfl⟩) : Kept p (withSlot k f q) := by
  refine h.same (SameCore.withSlot q k f hf) rfl fun j => ?_
  rw [slot_withSlot]
  split
  · next hj => exact hj ▸ hrank
  · exact .refl _

/-- One record is written; what becomes of the laws and the bindings is said apart. -/
theorem setRecord (h : Kept p q) (i : RecordIx) (x : ServiceRecord)
    (hcomp : (q.record i).CompensationOk → x.CompensationOk) (hlaws : RecordLaws q → RecordLaws (q.setRecord i x))
    (hbindings : BindingsAgree p → BindingsAgree (q.setRecord i x)) : Kept p (q.setRecord i x) where
  limits := h.limits
  comps c j := by
    rw [record_setRecord]
    split
    · exact hcomp (h.comps c i)
    · exact h.comps c j
  laws l := hlaws (h.laws l)
  bindings := hbindings
  list := h.list
  fits := h.fits
  selection := h.selection

/-- A record changes in its seat. -/
theorem withRecord (h : Kept p q) (i : RecordIx) (f : ServiceRecord → ServiceRecord)
    (hf : (q.record i).SameSeat (f (q.record i)) := by
      exact ⟨Iff.rfl, id, rfl, rfl, rfl, rfl, rfl, rfl, id⟩) : Kept p (withRecord i f q) :=
  h.setRecord i _ hf.compensation (recordLaws_sameSeat hf) fun b => bindingsAgree_sameSeat hf (h.bindings b)

/-- The Discipline Unit acts and leaves a hub state that fits. -/
theorem steers (h : Kept p q) (k : Steers q r) (hfits : HubStateFits q → HubStateFits r) : Kept p r := by
  have hslot : ∀ j, r.slot j = q.slot j := fun j => by simp only [Part.slot, k.frame.slots]
  have hrecord : ∀ i, r.record i = q.record i := fun i => by simp only [Part.record, k.frame.records]
  have fits : SelectionFits q → SelectionFits r := fun f =>
    ⟨k.hubSelected.trans (f.1.trans k.selected.symm), hfits f.2⟩
  refine h.trans
    { limits := k.limits
      comps := comps_congr hrecord
      laws := recordLaws_congr hrecord
      bindings := bindingsAgree_congr (fun j => by rw [hslot]) hrecord
      list := fun one => k.list one
      fits := fits
      selection := fun s => ⟨?_, fits s.2⟩ }
  exact (choice_congr (fun j => eligible_congr (hslot j)) (fun j => by rw [hslot]) k.settings k.selected).trans
    (s.1.trans k.selected.symm)

end Kept

/-! ## Return bindings (R54 to R56) -/

/-- The two halves of every return binding agree, and a bound record is live but for some that are exempt. -/
def HalvesAgree (exempt : RecordIx → Prop) (p : Part) : Prop :=
  (∀ k : SlotIx, k.val < 4 → (p.slot k).binding = none) ∧
    (∀ (k : SlotIx) (i : RecordIx) (g : Generation), (p.slot k).binding = some (i, g) →
      (p.record i).returnBinding = some k ∧ (p.record i).generation = g ∧
        (exempt i ∨ (p.record i).state ≠ .vacant ∧ (p.record i).state ≠ .retiring)) ∧
    ∀ (i : RecordIx) (k : SlotIx), (p.record i).returnBinding = some k →
      (p.slot k).binding = some (i, (p.record i).generation)

theorem BindingsAgree.halves {p : Part} (h : BindingsAgree p) (exempt : RecordIx → Prop) : HalvesAgree exempt p :=
  ⟨h.1, fun k i g hb => by
    obtain ⟨hreturn, hgeneration, hlive⟩ := h.2.1 k i g hb
    exact ⟨hreturn, hgeneration, .inr hlive⟩, h.2.2⟩

/-- The part before the choice that ends an unbinding. -/
def unbound (k : SlotIx) (p : Part) : Part :=
  enterDisabled k (withSlot k (fun r => { r with binding := none })
    (match (p.slot k).binding with
      | some (i, _) => setReturnBinding i none p
      | none => p))

theorem unbindSlot_eq (c : SelectionCause) (k : SlotIx) (p : Part) : unbindSlot c k p = choose c (unbound k p) := rfl

@[simp] theorem enterDisabled_record (k : SlotIx) (i : RecordIx) (p : Part) :
    (enterDisabled k p).record i = p.record i := rfl

theorem enterDisabled_binding (k j : SlotIx) (p : Part) :
    ((enterDisabled k p).slot j).binding = (p.slot j).binding := by
  have same : (enterDisabled k p).slot j = (withSlot k (fun r =>
      { r with state := .disabled, enabled := false, goodRun := 0, badRun := 0, outlierRun := 0, forced := false })
      p).slot j := rfl
  rw [same, slot_withSlot]
  split
  · next h => rw [h]
  · rfl

/-- An unbinding takes the return binding from the slot's record, and from no other. -/
theorem unbound_record (k : SlotIx) (p : Part) (j : RecordIx) :
    (unbound k p).record j =
      if (p.slot k).binding.map Prod.fst = some j then { p.record j with returnBinding := none } else p.record j := by
  rw [unbound, enterDisabled_record]
  cases h : (p.slot k).binding with
  | none => rfl
  | some b =>
    obtain ⟨i, g⟩ := b
    change (p.setRecord i _).record j = _
    rw [record_setRecord]
    by_cases hj : i = j
    · subst hj
      simp
    · simp [hj]

theorem unbound_binding (k : SlotIx) (p : Part) (j : SlotIx) :
    ((unbound k p).slot j).binding = if k = j then none else (p.slot j).binding := by
  rw [unbound, enterDisabled_binding, slot_withSlot]
  split
  · rfl
  · split <;> rfl

/-- An unbinding takes both halves away. -/
theorem unbound_agree {k : SlotIx} {p : Part} (h : HalvesAgree (fun i => (p.slot k).binding.map Prod.fst = some i) p) :
    BindingsAgree (unbound k p) := by
  obtain ⟨hlow, hslot, hrecord⟩ := h
  refine ⟨fun j hj => ?_, fun j i g => ?_, fun i j => ?_⟩
  · rw [unbound_binding]
    split
    · rfl
    · exact hlow j hj
  · rw [unbound_binding]
    split
    · simp
    · next hkj =>
      intro hb
      obtain ⟨hreturn, hgeneration, hlive⟩ := hslot j i g hb
      have hother : ¬ (p.slot k).binding.map Prod.fst = some i := by
        intro hk
        obtain ⟨⟨i', g'⟩, hb', rfl⟩ := Option.map_eq_some_iff.1 hk
        exact hkj (Option.some.inj ((hslot k i' g' hb').1.symm.trans hreturn))
      rw [unbound_record, if_neg hother]
      exact ⟨hreturn, hgeneration, hlive.resolve_left hother⟩
  · rw [unbound_record, unbound_binding]
    split
    · simp
    · next hother =>
      intro hreturn
      have hb := hrecord i j hreturn
      rw [if_neg]
      · exact hb
      · rintro rfl
        exact hother (by rw [hb]; rfl)

/-- One half of a return binding is written. -/
theorem HalfWay.setReturnBinding {p q : Part} (h : HalfWay p q) (i : RecordIx) (b : Option SlotIx) :
    HalfWay p (setReturnBinding i b q) := by
  have core : HalfWay q (Machine.setReturnBinding i b q) :=
    { limits := id
      comps := fun c j => by
        rw [Machine.setReturnBinding, record_setRecord]
        split
        · exact c i
        · exact c j
      laws := fun l => by
        refine recordLaws_setRecord (fun x j hj hc hc' ha => hj ?_) (fun x j hj hs hx hs' hx' => hj ?_) l
        · exact l.1 x j i hc' hc ha
        · exact l.2 x j i hs' hs hx' hx
      list := id
      fits := id }
  exact h.trans core

theorem unbound_halfWay (k : SlotIx) (p : Part) : HalfWay p (unbound k p) := by
  refine (HalfWay.withSlot ?_ _ _).trans ((Staged.refl _).enterDisabled k).toHalfWay
  split
  · exact (Staged.refl p).toHalfWay.setReturnBinding _ _
  · exact (Staged.refl p).toHalfWay

theorem Kept.unbindSlot {p q : Part} (h : Kept p q) (c : SelectionCause) (k : SlotIx) : Kept p (unbindSlot c k q) :=
  h.trans (Staged.choose ⟨unbound_halfWay k q, fun b => unbound_agree (b.halves _)⟩ c)

theorem Kept.recordLost {p q : Part} (h : Kept p q) (i : RecordIx) (g : Generation) : Kept p (recordLost i g q) :=
  ite (h.unbindSlot _ _) (ite (h.unbindSlot _ _) h)

/-- The part before the choice that ends a binding. -/
def bound (k : SlotIx) (i : RecordIx) (p : Part) : Part :=
  leaveDisabled k (setReturnBinding i (some k)
    (withSlot k (fun r => { r with binding := some (i, (p.record i).generation) }) p))

theorem bindSlot_eq (k : SlotIx) (i : RecordIx) (p : Part) : bindSlot k i p = choose .better (bound k i p) := rfl

theorem bound_record (k : SlotIx) (i j : RecordIx) (p : Part) :
    (bound k i p).record j = if i = j then { p.record i with returnBinding := some k } else p.record j :=
  record_setRecord _ i j _

theorem bound_binding (k j : SlotIx) (i : RecordIx) (p : Part) :
    ((bound k i p).slot j).binding = if k = j then some (i, (p.record i).generation) else (p.slot j).binding := by
  have same : (bound k i p).slot j = (withSlot k (fun r =>
      { r with state := .candidate, enabled := true, goodRun := 0, badRun := 0, outlierRun := 0, forced := false })
      (withSlot k (fun r => { r with binding := some (i, (p.record i).generation) }) p)).slot j := rfl
  rw [same, slot_withSlot, slot_withSlot, slot_withSlot, if_pos rfl]
  split <;> rfl

/-- A binding of a free slot 4 or 5 and a free live record writes both halves. -/
theorem bound_agree {k : SlotIx} {i : RecordIx} {p : Part} (hk : ¬ k.val < 4) (hvacant : (p.record i).state ≠ .vacant)
    (hretiring : (p.record i).state ≠ .retiring) (hslot : (p.slot k).binding = none)
    (hrecord : (p.record i).returnBinding = none) (h : BindingsAgree p) : BindingsAgree (bound k i p) := by
  obtain ⟨hlow, hslots, hrecords⟩ := h
  refine ⟨fun j hj => ?_, fun j i' g => ?_, fun i' j => ?_⟩
  · rw [bound_binding, if_neg (by rintro rfl; exact hk hj)]
    exact hlow j hj
  · rw [bound_binding, bound_record]
    split
    · next hkj =>
      rintro ⟨⟩
      rw [if_pos rfl]
      exact ⟨hkj ▸ rfl, rfl, hvacant, hretiring⟩
    · intro hb
      rw [if_neg]
      · exact hslots j i' g hb
      · rintro rfl
        exact absurd (hslots j i g hb).1 (by simp [hrecord])
  · rw [bound_binding, bound_record]
    split
    · next hi =>
      rintro ⟨⟩
      rw [if_pos rfl, hi]
    · intro hb
      rw [if_neg]
      · exact hrecords i' j hb
      · rintro rfl
        simpa [hslot] using hrecords i' k hb

theorem Kept.bindSlot {p q : Part} (h : Kept p q) {k : SlotIx} {i : RecordIx} (hk : ¬ k.val < 4)
    (hvacant : (q.record i).state ≠ .vacant) (hretiring : (q.record i).state ≠ .retiring)
    (hslot : (q.slot k).binding = none) (hrecord : (q.record i).returnBinding = none) : Kept p (bindSlot k i q) := by
  have halfWay : HalfWay q (bound k i q) :=
    (((Staged.refl q).toHalfWay.withSlot k _).setReturnBinding i _).trans ((Staged.refl _).leaveDisabled k).toHalfWay
  exact h.trans (Staged.choose ⟨halfWay, bound_agree hk hvacant hretiring hslot hrecord⟩ _)

end Sys2Proof.Machine

/-! SUPPORT. Every operation of the Selector, the Reference Inputs, the Record Table, the Delay Unit and the Protection
Unit keeps the invariants. -/

namespace Sys2Proof.Machine

/-! ## Changes of a record in its seat -/

namespace ServiceRecord.SameSeat

variable {r s : ServiceRecord}

theorem formCompensation (h : r.SameSeat s) : r.SameSeat s.formCompensation :=
  { h with
    compensation := fun _ => by
      unfold CompensationOk ServiceRecord.formCompensation compensationOf
      dsimp only
      split
      · exact ⟨le_rfl, by decide⟩
      · exact clampTo_between (by decide) _ }

theorem closeWindow (h : r.SameSeat s) (w : StatWindow) : r.SameSeat (closeWindow w s) := by
  unfold Machine.closeWindow
  split
  · exact { h with }
  · exact { h with }

theorem countSlot (h : r.SameSeat s) (c : SlotCount) : r.SameSeat (countSlot c s) := by
  unfold Machine.countSlot
  split
  · split
    · exact h.closeWindow _
    · exact { h with }
  · exact h

theorem filterDelay (h : r.SameSeat s) (d : Int) : r.SameSeat (filterDelay d s) := by
  unfold Machine.filterDelay
  split
  all_goals exact { h with }

theorem writeStatistics (h : r.SameSeat s) (on : Bool) : r.SameSeat (writeStatistics on s) := by
  unfold Machine.writeStatistics
  split
  · exact { h with }
  · exact { h with }

theorem writeImmediate (h : r.SameSeat s) (items : List Item) : r.SameSeat (writeImmediate items s) := by
  unfold Machine.writeImmediate
  dsimp only
  split
  · refine ServiceRecord.SameSeat.writeStatistics ?_ _
    exact { h with }
  · exact { h with }

theorem applyStaged (h : r.SameSeat s) : r.SameSeat (applyStaged s) := by
  unfold Machine.applyStaged
  dsimp only
  split
  · exact formCompensation { h with }
  · exact { h with }

end ServiceRecord.SameSeat

/-! ## The Selector and the Reference Inputs -/

theorem enterDisabled_slot (k j : SlotIx) (p : Part) :
    (enterDisabled k p).slot j =
      if k = j then
        { p.slot k with
          state := .disabled, enabled := false, goodRun := 0, badRun := 0, outlierRun := 0, forced := false }
      else p.slot j := slot_setSlot p k j _

theorem leaveDisabled_slot (k j : SlotIx) (p : Part) :
    (leaveDisabled k p).slot j =
      if k = j then
        { p.slot k with
          state := .candidate, enabled := true, goodRun := 0, badRun := 0, outlierRun := 0, forced := false }
      else p.slot j := slot_setSlot p k j _

/-- A write of the enabled field leaves the selection, the settings, the other slots and the lockout flag. -/
theorem writeEnabled_keeps (items : List Item) (k : SlotIx) (p : Part) :
    (writeEnabled items k p).selected = p.selected ∧ (writeEnabled items k p).hub.settings = p.hub.settings ∧
      (∀ j, k ≠ j → (writeEnabled items k p).slot j = p.slot j) ∧
      ((writeEnabled items k p).slot k).lockout = (p.slot k).lockout := by
  have left : (leaveDisabled k p).selected = p.selected ∧ (leaveDisabled k p).hub.settings = p.hub.settings ∧
      (∀ j, k ≠ j → (leaveDisabled k p).slot j = p.slot j) ∧
      ((leaveDisabled k p).slot k).lockout = (p.slot k).lockout :=
    ⟨rfl, rfl, fun j hj => by rw [leaveDisabled_slot, if_neg hj], by rw [leaveDisabled_slot, if_pos rfl]⟩
  have entered : (enterDisabled k p).selected = p.selected ∧ (enterDisabled k p).hub.settings = p.hub.settings ∧
      (∀ j, k ≠ j → (enterDisabled k p).slot j = p.slot j) ∧
      ((enterDisabled k p).slot k).lockout = (p.slot k).lockout :=
    ⟨rfl, rfl, fun j hj => by rw [enterDisabled_slot, if_neg hj], by rw [enterDisabled_slot, if_pos rfl]⟩
  have same : p.selected = p.selected ∧ p.hub.settings = p.hub.settings ∧ (∀ j, k ≠ j → p.slot j = p.slot j) ∧
      (p.slot k).lockout = (p.slot k).lockout := ⟨rfl, rfl, fun _ _ => rfl, rfl⟩
  unfold writeEnabled
  split
  · split
    · exact left
    · exact same
  · split
    · exact same
    · exact entered
  · exact same


namespace Kept

variable {p q r : Part}

theorem applySample (h : Kept p q) (k : SlotIx) (o : SampleOutcome) : Kept p (applySample k o q) := by
  have fresh := Staged.refl q
  refine h.trans ?_
  unfold Machine.applySample
  split
  · exact refl q
  · split
    · exact refl q
    · refine ite ?_ ((refl q).withSlot _ _)
      exact ite (((fresh.withSlot _ _).enterQualified _).choose _) ((refl q).withSlot _ _)
    · unfold qualifiedSample
      split
      · exact (refl q).withSlot _ _
      all_goals exact ite ((fresh.enterFailed _).choose _) ((refl q).withSlot _ _)
    · refine ite (Staged.choose (Staged.ite (Staged.enterQualified ?_ _) ?_) _) (refl q)
      all_goals exact (fresh.withSlot _ _).clearSlot _ _

theorem completeSample (h : Kept p q) (k : SlotIx) (s : Sample) : Kept p (completeSample k s q) :=
  (h.withInput _ _).applySample _ _

theorem completeRead (h : Kept p q) (k : SlotIx) (b : Bool) (v : Int) (a s : Option Int) (n : Nat) :
    Kept p (completeRead k b v a s n q) :=
  ite (h.completeSample _ _) ((h.withInput _ _).completeSample _ _)

theorem completeUnread (h : Kept p q) (k : SlotIx) : Kept p (completeUnread k q) := h.completeSample _ _

theorem ppsEdge (h : Kept p q) (k : SlotIx) : Kept p (ppsEdge k q) := ite h (ite (h.withInput _ _) h)

theorem completeTodMessage (h : Kept p q) (k : SlotIx) (m : OpenMessage) : Kept p (completeTodMessage k m q) := by
  unfold Machine.completeTodMessage takeTod
  split
  · exact h
  · dsimp only
    split
    · exact h.withInput _ _
    · refine ite (h.withInput _ _) (ite ((h.withInput _ _).withInput _ _) ?_)
      exact ite (((h.withInput _ _).withInput _ _).completeRead _ _ _ _ _ _)
        (((h.withInput _ _).withInput _ _).completeUnread _)

theorem todMessage (h : Kept p q) (k : SlotIx) (l : List SerialChar) : Kept p (todMessage k l q) :=
  ite h (ite (forEach_induct (R := Kept p) _ (fun m _ h => h.completeTodMessage k m) _ _ (h.withInput _ _)) h)

theorem completePktMessage (h : Kept p q) (m : OpenMessage) : Kept p (completePktMessage m q) := by
  unfold Machine.completePktMessage takePkt
  split
  · exact h
  · exact ite h (ite (ite h (h.completeUnread _))
      (ite h (ite (h.withInput _ _) ((h.withInput _ _).completeRead _ _ _ _ _ _))))

theorem pktMessage (h : Kept p q) (l : List SerialChar) : Kept p (pktMessage l q) :=
  ite h (ite (forEach_induct (R := Kept p) _ (fun m _ h => h.completePktMessage m) _ _ (h.withInput _ _)) h)

theorem completeLine (h : Kept p q) (n : Nat) : Kept p (completeLine n q) := by
  unfold Machine.completeLine
  split
  · exact h
  · exact ite (h.completeRead _ _ _ _ _ _) h

theorem completeMissing (h : Kept p q) (n : Nat) (k : SlotIx) : Kept p (completeMissing n k q) :=
  ite (h.completeSample _ _) h

theorem beginLine (h : Kept p q) : Kept p (beginLine q) := h.withInput _ _

theorem newSecond (h : Kept p q) (k : SlotIx) : Kept p (newSecond k q) := by
  unfold Machine.newSecond
  exact h.withInput _ _

theorem inputsBoundary (h : Kept p q) (n : Nat) : Kept p (inputsBoundary n q) := by
  have samples : Kept p (boundarySamples n q) :=
    forEach_induct (R := Kept p) _ (fun k _ h => h.completeMissing n k) _ _ (h.completeLine n)
  exact forEach_induct (R := Kept p) _ (fun k _ h => h.newSecond k) _ _ samples.beginLine

theorem offerEcho (h : Kept p q) (k : SlotIx) (i : RecordIx) (g : Generation) (x : EchoFields) (f : Bool) :
    Kept p (offerEcho k i g x f q) := by
  unfold Machine.offerEcho
  split
  · exact h
  · exact ite (h.completeRead _ _ _ _ _ _) h

/-! ## Host controls -/

theorem forceSlot (h : Kept p q) (k : SlotIx) : Kept p (forceSlot k q) := by
  have forced := ((Staged.refl q).withSlot k (fun r => { r with forced := true })).raiseSlot .forced k
  refine h.trans (ite (refl q) (Staged.choose ?_ _))
  exact Staged.ite forced (forced.enterFailed _)

theorem lockoutSlot (h : Kept p q) (k : SlotIx) : Kept p (lockoutSlot k q) :=
  h.trans (ite (refl q) (((Staged.refl q).withSlot _ _).choose _))

theorem releaseSlot (h : Kept p q) (k : SlotIx) : Kept p (releaseSlot k q) := by
  refine h.trans (ite (Staged.choose (Staged.withSlot (Staged.ite ?_ (Staged.refl q)) _ _) _) (refl q))
  exact (((Staged.refl q).withSlot _ _).clearSlot _ _).clearSlot _ _

theorem preferSlot (h : Kept p q) (x : Option SlotIx) : Kept p (preferSlot x q) :=
  h.trans (ite (refl q) (((Staged.refl q).withSettings _).choose _))

/-- A SET on table 4 that moves neither the preference nor the revertive setting moves no choice. -/
theorem setHub (h : Kept p q) (body : List Byte) : Kept p (setHub body q).1 := by
  refine h.trans ?_
  unfold Machine.setHub
  split
  · exact refl q
  · next items _ =>
    split
    · exact refl q
    · dsimp only
      split
      · next hsame =>
        obtain ⟨hpreferred, hrevertive⟩ := hsame
        refine ⟨(Staged.refl q).withSettings _, fun s => ⟨?_, s.2⟩⟩
        refine Eq.trans ?_ s.1
        simp only [Part.choice, Part.best, withHub_hub, ← hpreferred, ← hrevertive]
        rfl
      · exact ((Staged.refl q).withSettings _).choose _

/-- A SET on table 1 that moves neither the state nor the priority moves no choice. -/
theorem setSlotFields (h : Kept p q) (k : SlotIx) (items : List Item) : Kept p (setSlotFields k items q) := by
  have written : Staged q (Machine.withSlot k (writeSlot items) q) := (Staged.refl q).withSlot _ _
  have enabled : Staged q (writeEnabled items k (Machine.withSlot k (writeSlot items) q)) := by
    unfold writeEnabled
    split
    · exact Staged.ite (written.leaveDisabled _) written
    · exact Staged.ite written (written.enterDisabled _)
    · exact written
  refine h.trans ?_
  unfold Machine.setSlotFields
  dsimp only
  split
  · next hsame =>
    obtain ⟨hstate, hpriority⟩ := hsame
    obtain ⟨hselected, hsettings, hothers, hlockout⟩ :=
      writeEnabled_keeps items k (Machine.withSlot k (writeSlot items) q)
    refine enabled.settled hsettings hselected fun j => ?_
    by_cases hj : k = j
    · subst hj
      exact ⟨hstate, hlockout.trans (by rw [slot_withSlot, if_pos rfl]; rfl), hpriority⟩
    · rw [hothers j hj, slot_withSlot, if_neg hj]
      exact .refl _
  · exact enabled.choose _

theorem setReference (h : Kept p q) (index : Byte) (body : List Byte) : Kept p (setReference index body q).1 := by
  unfold Machine.setReference
  split
  · exact h
  · split
    · exact h
    · exact h.setSlotFields _ _

theorem forceFail (h : Kept p q) (slot : Byte) : Kept p (forceFail slot q).1 := by
  unfold Machine.forceFail
  split
  · exact h
  · split
    · exact h
    · exact h.forceSlot _

theorem lockout (h : Kept p q) (slot : Byte) : Kept p (lockout slot q).1 := by
  unfold Machine.lockout
  split
  · exact h
  · exact h.lockoutSlot _

theorem release (h : Kept p q) (slot : Byte) : Kept p (release slot q).1 := by
  unfold Machine.release
  split
  · exact h
  · exact h.releaseSlot _

theorem prefer (h : Kept p q) (slot : Byte) : Kept p (prefer slot q).1 := by
  unfold Machine.prefer
  split
  · exact h.preferSlot _
  · split
    · exact h
    · exact h.preferSlot _

theorem bindRequest (h : Kept p q) (slot index : Byte) : Kept p (bindRequest slot index q).1 := by
  unfold Machine.bindRequest
  split
  · exact h
  · split
    · exact h
    · next hk =>
      split
      · exact h
      · split
        · exact h
        · next hvacant =>
          split
          · exact h
          · next hretiring =>
            split
            · exact h
            · split
              · exact h
              · next hslot =>
                split
                · exact h
                · next hrecord =>
                  exact h.bindSlot hk hvacant hretiring (not_not.1 hslot) (not_not.1 hrecord)

theorem unbindRequest (h : Kept p q) (slot : Byte) : Kept p (unbindRequest slot q).1 := by
  unfold Machine.unbindRequest
  split
  · exact h
  · split
    · exact h
    · split
      · exact h
      · split
        · exact h
        · exact h.unbindSlot _ _

end Kept

/-! ## The end of a record and its retirement (R112, R113) -/

/-- The part once the Selector has been told that a bound record is lost (R56, R112). -/
def lossTold (i : RecordIx) (p : Part) : Part :=
  if (p.record i).returnBinding.isSome then recordLost i (p.record i).generation p else p

theorem choose_binding (c : SelectionCause) (p : Part) (k : SlotIx) :
    ((choose c p).slot k).binding = (p.slot k).binding := by rw [choose_slot]

/-- An unbinding takes the return binding from the slot's record, and from no other. -/
theorem unbindSlot_record (c : SelectionCause) (k : SlotIx) (p : Part) (j : RecordIx) :
    (unbindSlot c k p).record j =
      if (p.slot k).binding.map Prod.fst = some j then { p.record j with returnBinding := none } else p.record j := by
  rw [unbindSlot_eq, choose_record, unbound_record]

/-- Slot 4 or 5, the return slots. -/
theorem returnSlot_cases {k : SlotIx} (h : ¬ k.val < 4) : k = 4 ∨ k = 5 := by
  simp only [Fin.ext_iff]
  omega

/-- A lost record is bound to no slot. -/
theorem recordLost_returnBinding {p : Part} {i : RecordIx} (h : BindingsAgree p) :
    ((recordLost i (p.record i).generation p).record i).returnBinding = none := by
  obtain ⟨hlow, _, hrecord⟩ := h
  have taken : ∀ k, (p.slot k).binding = some (i, (p.record i).generation) →
      ((unbindSlot .recordLost k p).record i).returnBinding = none := by
    intro k hk
    simp [unbindSlot_record, hk]
  unfold recordLost
  split
  · exact taken 4 ‹_›
  · split
    · exact taken 5 ‹_›
    · next h4 h5 =>
      cases hb : (p.record i).returnBinding with
      | none => rfl
      | some k =>
        have hbound := hrecord i k hb
        obtain hk | hk := Nat.lt_or_ge k.val 4
        · simp [hlow k hk] at hbound
        · obtain rfl | rfl := returnSlot_cases (Nat.not_lt.2 hk)
          · exact absurd hbound h4
          · exact absurd hbound h5

@[simp] theorem clearStandings_record (i j : RecordIx) (p : Part) : (clearStandings i p).record j = p.record j := rfl

theorem lossTold_returnBinding {p : Part} {i : RecordIx} (h : BindingsAgree p) :
    ((lossTold i p).record i).returnBinding = none := by
  unfold lossTold
  split
  · exact recordLost_returnBinding h
  · next hnone => simpa using hnone

namespace Kept

variable {p q r : Part}

theorem clearStandings (h : Kept p q) (i : RecordIx) : Kept p (clearStandings i q) :=
  (((h.report _).report _).report _).report _

theorem vacate (h : Kept p q) (i : RecordIx) : Kept p (vacate i q) := by
  have lost : Kept q (lossTold i q) := ite ((refl q).recordLost _ _) (refl q)
  have comp : (0 : Int) ≤ 0 ∧ (0 : Int) ≤ compensationLimit := ⟨le_rfl, by decide⟩
  refine h.trans ((lost.clearStandings i).setRecord i _ (fun _ => comp) ?_ fun b => ?_)
  · exact recordLaws_setRecord (fun x j _ hc => by simp [ServiceRecord.counts, ServiceRecord.vacated] at hc)
      (fun x j _ hs => absurd rfl hs)
  · exact bindingsAgree_unbound ((clearStandings_record i i _).symm ▸ lossTold_returnBinding b) rfl ((lost.clearStandings i).bindings b)

theorem endLeft (h : Kept p q) (x : PortIx) (i : RecordIx) : Kept p (endLeft x i q) := (h.vacate _).report _

theorem endRetired (h : Kept p q) (d : Detail) (i : RecordIx) : Kept p (endRetired d i q) := (h.vacate _).report _

end Kept

end Sys2Proof.Machine

/-! SUPPORT. Every operation of the Record Table, the Delay Unit, the Protection Unit and the Port Engines keeps the
invariants. -/

namespace Sys2Proof.Machine

theorem zero_inRange : (0 : Int) ≤ 0 ∧ (0 : Int) ≤ compensationLimit := ⟨le_rfl, by decide⟩

/-! ## RETIRE (R113) -/

/-- The record as RETIRING leaves it, its return binding apart. -/
def retiringRecord (r : ServiceRecord) : ServiceRecord :=
  { r with state := .retiring, stagedOffset := none, stagedShare := none, dismissAttempts := 0 }

theorem enterRetiring_eq (i : RecordIx) (p : Part) :
    enterRetiring i p = recordLost i (p.record i).generation (withRecord i retiringRecord p) := rfl

/-- A record that retires is unbound from its slot, whose half names a record that is live no more until then. -/
theorem enterRetiring_agree {i : RecordIx} {p : Part} (h : BindingsAgree p) :
    BindingsAgree (recordLost i (p.record i).generation (withRecord i retiringRecord p)) := by
  obtain ⟨hlow, hslot, hrecord⟩ := h
  have halves : HalvesAgree (fun j => i = j) (withRecord i retiringRecord p) := by
    refine ⟨hlow, fun k j g hb => ?_, fun j k => ?_⟩
    · obtain ⟨hreturn, hgeneration, hlive⟩ := hslot k j g hb
      rw [record_withRecord]
      split
      · next hj =>
        subst hj
        exact ⟨hreturn, hgeneration, .inl rfl⟩
      · exact ⟨hreturn, hgeneration, .inr hlive⟩
    · rw [record_withRecord]
      split
      · next hj =>
        subst hj
        exact hrecord i k
      · exact hrecord j k
  have unbinds : ∀ k, (p.slot k).binding = some (i, (p.record i).generation) →
      BindingsAgree (unbindSlot .recordLost k (withRecord i retiringRecord p)) := by
    intro k hk
    have exempt : HalvesAgree (fun j => ((withRecord i retiringRecord p).slot k).binding.map Prod.fst = some j)
        (withRecord i retiringRecord p) := by
      have hk' : ((withRecord i retiringRecord p).slot k).binding = some (i, (p.record i).generation) := hk
      simpa [hk'] using halves
    exact bindingsAgree_congr (choose_binding _ _) (choose_record _ _) (unbound_agree exempt)
  unfold recordLost
  split
  · exact unbinds 4 ‹_›
  · split
    · exact unbinds 5 ‹_›
    · next h4 h5 =>
      obtain ⟨_, hslot', hrecord'⟩ := halves
      refine ⟨hlow, fun k j g hb => ?_, hrecord'⟩
      obtain ⟨hreturn, hgeneration, hlive⟩ := hslot' k j g hb
      refine ⟨hreturn, hgeneration, hlive.resolve_left ?_⟩
      rintro rfl
      have hbound : (p.slot k).binding = some (i, (p.record i).generation) := by
        rw [show (p.slot k).binding = some (i, g) from hb, (hslot k i g hb).2.1]
      obtain hk | hk := Nat.lt_or_ge k.val 4
      · simp [hlow k hk] at hbound
      · obtain rfl | rfl := returnSlot_cases (Nat.not_lt.2 hk)
        · exact h4 hbound
        · exact h5 hbound

namespace Kept

variable {p q r : Part}

theorem enterRetiring (h : Kept p q) (i : RecordIx) (hi : (q.record i).state ≠ .vacant) :
    Kept p (enterRetiring i q) := by
  have retired : HalfWay q (Machine.withRecord i retiringRecord q) :=
    { limits := id
      comps := fun c j => by
        rw [record_withRecord]
        split
        · exact c i
        · exact c j
      laws := fun l => recordLaws_setRecord
        (fun x j hj hc hc' ha => hj (l.1 x j i hc' (by
          simp only [ServiceRecord.counts, bne_iff_ne.2 hi]
          simpa [ServiceRecord.counts, retiringRecord] using hc) ha))
        (fun x j hj _ hx hs' hx' => hj (l.2 x j i hs' hi hx' hx)) l
      list := id
      fits := id }
  have told : Kept (Machine.withRecord i retiringRecord q) (Machine.enterRetiring i q) := (Kept.refl _).recordLost _ _
  exact
    { limits := fun l => told.limits (retired.limits (h.limits l))
      comps := fun c => told.comps (retired.comps (h.comps c))
      laws := fun l => told.laws (retired.laws (h.laws l))
      bindings := fun b => enterRetiring_agree (h.bindings b)
      list := fun one => told.list (h.list one)
      fits := fun f => told.fits (h.fits f)
      selection := fun s => told.selection (h.selection s) }

theorem retireRequest (h : Kept p q) (index : Byte) : Kept p (retireRequest index q).1 := by
  unfold Machine.retireRequest
  split
  · exact h
  · split
    · exact h
    · next hvacant =>
      split
      · exact h
      · split
        · exact h
        · exact ite (h.enterRetiring _ hvacant) (h.endRetired _ _)

/-! ## The Delay Unit (R139 to R153) -/

theorem reportPair (h : Kept p q) (c : Bool) (a b : Report) : Kept p (reportPair c a b q) := by
  have pair : Kept q { q with alarm := (q.alarm.take a).updateStanding b } :=
    (refl q).same
      { SameCore.refl q with
        list := fun one => ListKept.of_list_eq (updateStanding_list _ b) (take_kept _ a one) }
  exact ite (h.trans pair) (ite ((h.report _).report _) ((h.report _).report _))

theorem reportVerdict (h : Kept p q) (a b : TeState) (te : Int) (x : Bool) (port : PortIx) (i : RecordIx) :
    Kept p (reportVerdict a b te x port i q) := by
  unfold Machine.reportVerdict
  split
  all_goals first
    | exact h
    | exact h.report _
    | exact h.reportPair _ _ _

theorem judgeTe (h : Kept p q) (port : PortIx) (i : RecordIx) : Kept p (judgeTe port i q) := by
  unfold Machine.judgeTe
  dsimp only
  split
  · exact h
  · exact (h.withRecord i _).reportVerdict _ _ _ _ _ _

theorem countSlot (h : Kept p q) (i : RecordIx) (c : SlotCount) : Kept p (Machine.withRecord i (countSlot c) q) :=
  h.withRecord i _ ((ServiceRecord.SameSeat.refl _).countSlot c)

theorem takeDelay (h : Kept p q) (rtd : Int) (port : PortIx) (i : RecordIx) : Kept p (takeDelay rtd port i q) := by
  have filtered : Kept p (Machine.withRecord i
      (fun r => (filterDelay (oneWayDelay rtd (q.record i).share) r).formCompensation) q) :=
    h.withRecord i _ (((ServiceRecord.SameSeat.refl _).filterDelay _).formCompensation)
  unfold Machine.takeDelay
  refine Kept.countSlot ?_ _ _
  split
  · exact filtered.report _
  all_goals exact filtered

theorem measureEcho (h : Kept p q) (rtd : Option Int) (port : PortIx) (i : RecordIx) :
    Kept p (measureEcho rtd port i q) := by
  unfold Machine.measureEcho
  refine Kept.judgeTe ?_ _ _
  split
  · exact h.countSlot _ _
  · exact ite ((h.report _).withRecord i stopStatistics) (h.takeDelay _ _ _)

/-! ## Slot outcomes (R107 to R114) -/

theorem recordEcho (h : Kept p q) (port : PortIx) (i : RecordIx) : Kept p (recordEcho port i q) := by
  have seat : ∀ r : ServiceRecord, r.SameSeat
      { r with
        lastPort := some port, silentCount := 0, silentSeconds := 0
        state := stateAfterEcho r.state r.filter.isSome } := by
    intro r
    have fate : (stateAfterEcho r.state r.filter.isSome = .vacant ↔ r.state = .vacant) ∧
        (stateAfterEcho r.state r.filter.isSome = .retiring → r.state = .retiring) := by
      cases r.state <;> cases r.filter.isSome <;> decide
    exact ⟨fate.1, fate.2, rfl, rfl, rfl, rfl, rfl, rfl, id⟩
  exact ite ((h.withRecord i _ (seat _)).report _) (h.withRecord i _ (seat _))

theorem takeEcho (h : Kept p q) (port : PortIx) (t : SlotTarget) (a b : Option Stamp) (x : EchoFields) :
    Kept p (takeEcho port t a b x q) :=
  (((h.measureEcho _ _ _).recordEcho _ _).offerEcho _ _ _ _ _).offerEcho _ _ _ _ _

theorem countMissing (h : Kept p q) (port : PortIx) (i : RecordIx) : Kept p (countMissing port i q) := by
  unfold Machine.countMissing
  dsimp only
  split
  · next hstate =>
    have hvacant : (q.record i).state ≠ .vacant := by rcases hstate with hs | hs <;> simp [hs]
    refine ite (Kept.report (h.withRecord i _ ⟨?_, ?_, rfl, rfl, rfl, rfl, rfl, rfl, id⟩) _) (h.withRecord i _)
    · simp [hvacant]
    · simp
  · exact h

theorem takeDistress (h : Kept p q) (port : PortIx) (i : RecordIx) (hvacant : (q.record i).state ≠ .vacant) :
    Kept p (takeDistress port i q) := by
  unfold Machine.takeDistress
  dsimp only
  refine Kept.withRecord ((((h.report _).report _).report _).report _) i _ ⟨?_, ?_, rfl, rfl, rfl, rfl, rfl, rfl, ?_⟩
  · simpa using hvacant
  · simp
  · exact fun _ => zero_inRange

theorem liveOutcome (h : Kept p q) (port : PortIx) (t : SlotTarget) (a b : Option Stamp) (o : SlotOutcome)
    (hvacant : (q.record t.record).state ≠ .vacant) : Kept p (liveOutcome port t a b o q) := by
  unfold Machine.liveOutcome
  split
  · exact h.takeEcho _ _ _ _ _
  · exact h.takeDistress _ _ hvacant
  · exact h.endLeft _ _
  · exact ((h.countSlot _ _).judgeTe _ _).countMissing _ _

theorem recordOutcome (h : Kept p q) (port : PortIx) (t : SlotTarget) (a b : Option Stamp) (o : SlotOutcome) :
    Kept p (recordOutcome port t a b o q) := by
  unfold Machine.recordOutcome
  split
  · split
    all_goals rename_i hstate
    · exact h
    · exact h
    · exact h.liveOutcome _ _ _ _ _ (by simp [hstate])
    · exact h.liveOutcome _ _ _ _ _ (by simp [hstate])
    · exact h.liveOutcome _ _ _ _ _ (by simp [hstate])
    · exact ite (h.endRetired _ _) (ite (h.endRetired _ _) h)
  · exact h

theorem delaySent (h : Kept p q) (t : SlotTarget) : Kept p (delaySent t q) := ite (h.withRecord _ _) h

/-! ## The boundary of the Record Table (R101, R109) -/

theorem recordBoundary (h : Kept p q) (i : RecordIx) : Kept p (recordBoundary i q) := by
  have staged : Kept p (Machine.withRecord i (fun r =>
      let s := applyStaged r
      if s.state = .silent then { s with silentSeconds := nextSilentSeconds s.silentSeconds } else s) q) := by
    have seat := (ServiceRecord.SameSeat.refl (q.record i)).applyStaged
    refine h.withRecord i _ ?_
    dsimp only
    split
    · exact { seat with }
    · exact seat
  exact ite (staged.endRetired _ _) staged

theorem recordsBoundary (h : Kept p q) : Kept p (recordsBoundary q) :=
  forEach_induct (R := Kept p) _ (fun i _ h => h.recordBoundary i) _ _ h

end Kept

/-! ## Questions of the tables (R93, R94, R102) -/

theorem mem_allRecords (i : RecordIx) : i ∈ allRecords := List.mem_finRange i

/-- An address is free on a port exactly when no record that counts against the port holds it. -/
theorem addressFree_iff (p : Part) (q : PortIx) (a : Address) :
    p.addressFree q a = true ↔ ∀ i, (p.record i).counts q = true → (p.record i).address ≠ a := by
  simp [Part.addressFree, mem_allRecords]

theorem usableRecord_vacant {p : Part} {i : RecordIx} (h : p.usableRecord = some i) : (p.record i).state = .vacant := by
  have := List.find?_some h
  simp_all

theorem identityHolder_eq_none {p : Part} {x : Identity} (h : p.identityHolder x = none) (i : RecordIx)
    (hi : (p.record i).state ≠ .vacant) : (p.record i).identity ≠ some x := by
  have := List.find?_eq_none.1 h i (mem_allRecords i)
  simp_all

theorem identityElsewhere_eq_false {p : Part} {i : RecordIx} {x : Identity}
    (h : p.identityElsewhere i (some x) = false) {j : RecordIx} (hj : j ≠ i) (hs : (p.record j).state ≠ .vacant) :
    (p.record j).identity ≠ some x := by
  have := List.any_eq_false.1 h j (mem_allRecords j)
  simp_all

/-- The address that an enrolment takes is free (R104). -/
theorem enrolAddress_free {p : Part} {q : PortIx} {wish : Option Address} {a : Address}
    (h : p.enrolAddress q wish = some a) : p.addressFree q a = true := by
  have lowest : (p.freeAddresses q).head? = some a → p.addressFree q a = true := fun hhead =>
    (List.mem_filter.1 (List.mem_of_head? hhead)).2
  unfold Part.enrolAddress at h
  split at h
  · split at h
    · exact Option.some.inj h ▸ ‹_›
    · exact lowest h
  · exact lowest h

/-- With no clash every holder of the identity is RESERVED on the port (R102). -/
theorem clashing_eq_none {p : Part} {q : PortIx} {x : Identity} (h : p.clashing q x = none) {i : RecordIx}
    (hs : (p.record i).state ≠ .vacant) (hx : (p.record i).identity = some x) : (p.record i).reservedOn q = true := by
  have := List.find?_eq_none.1 h i (mem_allRecords i)
  simp_all

/-- The record that an ENROL is bound to is RESERVED on the port, and holds the identity when any record of the port that
is RESERVED does (R103). -/
theorem reservedFor_some {p : Part} {q : PortIx} {x : Identity} {wish : Option Address} {i : RecordIx}
    (h : p.reservedFor q x wish = some i) :
    (p.record i).reservedOn q = true ∧
      ((p.record i).identity = some x ∨ ∀ j, (p.record j).reservedOn q = true → (p.record j).identity ≠ some x) := by
  unfold Part.reservedFor at h
  split at h
  · next hfind =>
    have := List.find?_some hfind
    simp_all
  · next hnone =>
    have hi := List.find?_some h
    refine ⟨by simp_all, .inr fun j hj hx => ?_⟩
    have := List.find?_eq_none.1 hnone j (mem_allRecords j)
    simp_all

theorem reservedFor_eq_none {p : Part} {q : PortIx} {x : Identity} {wish : Option Address}
    (h : p.reservedFor q x wish = none) (j : RecordIx) (hj : (p.record j).reservedOn q = true) :
    (p.record j).identity ≠ some x := by
  unfold Part.reservedFor at h
  split at h
  · simp at h
  · next hnone =>
    intro hx
    have := List.find?_eq_none.1 hnone j (mem_allRecords j)
    simp_all

/-! ## Creation, SET and enrolment (R97, R98, R102 to R106) -/

namespace Kept

variable {p q r : Part}

/-- A VACANT record is taken for a free address of a port and an identity that no live record holds. -/
theorem create (h : Kept p q) {i : RecordIx} {x : ServiceRecord} {port : PortIx} {a : Address}
    {identity : Option Identity} {budget : Int} (hseat : (created (q.record i) port a identity budget).SameSeat x)
    (hvacant : (q.record i).state = .vacant) (hfree : q.addressFree port a = true)
    (hidentity : ∀ v, identity = some v → ∀ j, (q.record j).state ≠ .vacant → (q.record j).identity ≠ some v) :
    Kept p (q.setRecord i x) := by
  have hcomp : x.CompensationOk := hseat.compensation zero_inRange
  refine h.setRecord i x (fun _ => hcomp) (recordLaws_setRecord ?_ ?_) fun b => ?_
  · intro k j _ hc hc' ha
    have hk : port = k := by
      rw [hseat.counts] at hc
      simpa [ServiceRecord.counts, created] using hc
    subst hk
    exact (addressFree_iff q port a).1 hfree j hc' (ha.trans hseat.address)
  · intro v j _ _ hv hs
    exact hidentity v (hseat.identity.symm.trans hv) j hs
  · exact bindingsAgree_unbound ((h.bindings b).vacant hvacant) hseat.returnBinding (h.bindings b)

theorem createRequest (h : Kept p q) (port address : Byte) (body : List Byte) :
    Kept p (createRequest port address body q).1 := by
  unfold Machine.createRequest
  split
  · next items a _ _ =>
    split
    · exact h
    · next k _ =>
      split
      · exact h
      · next hfree =>
        split
        · exact h
        · next htaken =>
          split
          · exact h
          · next i husable =>
            refine Kept.bindPort (h.create (budget := 1500) (identity := (identityWritten items).getD none) ?_
              (usableRecord_vacant husable) (by simpa using hfree) fun v hv j hs => ?_) _
            · exact { (ServiceRecord.SameSeat.refl _).writeImmediate items with }
            · refine identityHolder_eq_none ?_ j hs
              simpa [Part.identityTaken, hv] using htaken
  · exact h

theorem setRecordRequest (h : Kept p q) (index : Byte) (body : List Byte) :
    Kept p (setRecordRequest index body q).1 := by
  unfold Machine.setRecordRequest
  split
  · exact h
  · next items _ =>
    split
    · exact h
    · next i _ =>
      split
      · exact h
      · next hvacant =>
        split
        · exact h
        · split
          · exact h
          · split
            · exact h
            · next helsewhere =>
              have seat := (ServiceRecord.SameSeat.refl (q.record i)).writeImmediate items
              refine h.setRecord i _ seat.compensation (fun l => recordLaws_setRecord ?_ ?_ l) fun b =>
                bindingsAgree_setRecord seat.returnBinding seat.generation seat.vacant.1 seat.retiring (h.bindings b)
              · intro k j hj hc hc' ha
                exact hj (l.1 k j i hc' ((seat.counts k).symm.trans hc) (ha.trans seat.address))
              · intro v j hj _ hv hs hx
                cases hw : identityWritten items with
                | none =>
                  have hold : (q.record i).identity = some v := by simpa [writeRecord, hw] using hv
                  exact hj (l.2 v j i hs hvacant hx hold)
                | some w =>
                  have hnew : w = some v := by simpa [writeRecord, hw] using hv
                  rw [hw, hnew] at helsewhere
                  exact identityElsewhere_eq_false (by simpa using helsewhere) hj hs hx

/-- A RESERVED record becomes PENDING with an identity that no other live record holds. -/
theorem enrolRecord (h : Kept p q) (port : PortIx) {x : Identity} {i : RecordIx} (hi : (q.record i).state = .reserved)
    (hx : RecordLaws q → ∀ j, j ≠ i → (q.record j).state ≠ .vacant → (q.record j).identity ≠ some x) :
    Kept p (enrolRecord port x i q) := by
  unfold Machine.enrolRecord
  refine Kept.report (Kept.setRecord h i
    { q.record i with
      state := .pending, identity := some x, silentCount := 0, silentSeconds := 0, dismissAttempts := 0
      resetRequest := false }
    id (fun l => recordLaws_setRecord ?_ ?_ l) fun b =>
    bindingsAgree_setRecord rfl rfl (by simp) (by simp) (h.bindings b)) _
  · intro k j hj hc hc' ha
    refine hj (l.1 k j i hc' ?_ ha)
    simpa [ServiceRecord.counts, hi] using hc
  · intro v j hj _ hv hs
    exact Option.some.inj hv ▸ hx l j hj hs

theorem refuseEnrol (h : Kept p q) (port : PortIx) (x : Identity) (d : Detail) : Kept p (refuseEnrol port x d q) :=
  Kept.report (h.steers ((Steers.refl q).withHub fun r => { r with lastRefused := some x }) id) _

theorem decideEnrol (h : Kept p q) (port : PortIx) (x : Identity) (wish : Option Address) :
    Kept p (decideEnrol port x wish q).1 := by
  unfold Machine.decideEnrol
  split
  · exact h.report _
  · next hclash =>
    split
    · next i hreserved =>
      obtain ⟨hon, hidentity⟩ := reservedFor_some hreserved
      have hstate : (q.record i).state = .reserved := by
        simp only [ServiceRecord.reservedOn, Bool.and_eq_true, beq_iff_eq] at hon
        exact hon.1
      refine h.enrolRecord port hstate fun l j hj hs hx => ?_
      obtain hsame | hnobody := hidentity
      · exact hj (l.2 x j i hs (by simp [hstate]) hx hsame)
      · exact hnobody j (clashing_eq_none hclash hs hx) hx
    · next hreserved =>
      split
      · exact h.refuseEnrol _ _ _
      · split
        · next a i haddress husable =>
          have nobody : ∀ j, (q.record j).state ≠ .vacant → (q.record j).identity ≠ some x := fun j hs hx =>
            reservedFor_eq_none hreserved j (clashing_eq_none hclash hs hx) hx
          have made := (h.create (budget := (q.port port).defaultBudget) (identity := some x)
            (ServiceRecord.SameSeat.refl _) (usableRecord_vacant husable) (enrolAddress_free haddress)
            fun v hv => Option.some.inj hv ▸ nobody).bindPort port
          refine made.enrolRecord port ?_ fun _ j hj hs => ?_
          · rw [Machine.bindPort, setPort_record, record_setRecord_self]
            rfl
          · rw [Machine.bindPort, setPort_record, record_setRecord_ne _ hj.symm] at hs ⊢
            exact nobody j hs
        · exact h.refuseEnrol _ _ _

end Kept

end Sys2Proof.Machine

/-! SUPPORT. Every operation of the Protection Unit, the Port Engines, the boundary, the resets and the Management Port
keeps the invariants, and so does every command. -/

namespace Sys2Proof.Machine

/-! ## The Protection Unit (R157 to R167) -/

theorem movable_iff (p : Part) (k : PairIx) (i : RecordIx) :
    p.movable k i = true ↔
      p.usablePort (protectPort k) = true ∧ p.portCount (protectPort k) < 4 ∧
        p.addressFree (protectPort k) (p.record i).address = true := by
  simp [Part.movable, and_assoc]

theorem candidate_iff (r : ServiceRecord) (k : PairIx) :
    r.candidate k = true ↔
      r.state ≠ .vacant ∧ r.homePort = workingPort k ∧ r.currentPort = workingPort k ∧ r.eligible = true ∧
        r.state ≠ .retiring := by
  simp [ServiceRecord.candidate, and_assoc]

theorem switched_iff (r : ServiceRecord) (k : PairIx) :
    r.switched k = true ↔ r.state ≠ .vacant ∧ r.homePort = workingPort k ∧ r.currentPort = protectPort k := by
  simp [ServiceRecord.switched, and_assoc]

/-- The filter shifted at a move leaves a record in its seat. -/
theorem ServiceRecord.SameSeat.reseed {r s : ServiceRecord} (h : r.SameSeat s) (shift : Int) :
    r.SameSeat (reseed shift s) :=
  ServiceRecord.SameSeat.formCompensation { h with }

namespace Kept

variable {p q r : Part}

/-- A record moves to another current port, at which no other record has its address. -/
theorem move (h : Kept p q) {i : RecordIx} {x : ServiceRecord} {port : PortIx}
    (hseat : (q.record i).SameSeat { x with currentPort := (q.record i).currentPort })
    (hport : x.currentPort = port)
    (hfree : RecordLaws q → ∀ j, j ≠ i → (q.record j).counts port = true →
      (q.record j).address ≠ (q.record i).address) : Kept p (q.setRecord i x) := by
  refine h.setRecord i x hseat.compensation (fun l => recordLaws_setRecord ?_ ?_ l) fun b =>
    bindingsAgree_setRecord hseat.returnBinding hseat.generation hseat.vacant.1 hseat.retiring (h.bindings b)
  · intro k j hj hc hc' ha
    have hplaces : k = port ∨ (q.record i).counts k = true := by
      have hhome := hseat.homePort
      have hvacant := hseat.vacant
      simp only [ServiceRecord.counts, hport, Bool.and_eq_true, bne_iff_ne, Bool.or_eq_true, beq_iff_eq] at hc ⊢
      obtain ⟨hs, hk | hk⟩ := hc
      · exact .inr ⟨fun hv => hs (hvacant.2 hv), .inl (hhome.symm.trans hk)⟩
      · exact .inl hk.symm
    have ha' : (q.record j).address = (q.record i).address := ha.trans hseat.address
    obtain rfl | hi := hplaces
    · exact hfree l j hj hc' ha'
    · exact hj (l.1 k j i hc' hi ha')
  · intro v j hj hs hv hs' hv'
    exact hj (l.2 v j i hs' (fun hi => hs (hseat.vacant.2 hi)) hv' (hseat.identity.symm.trans hv))

theorem moveRecord (h : Kept p q) (k : PairIx) (i : RecordIx) (hmovable : q.movable k i = true) :
    Kept p (moveRecord k i q) := by
  obtain ⟨_, _, hfree⟩ := (movable_iff q k i).1 hmovable
  refine ((Kept.report (h.move (port := protectPort k) ?_ rfl fun _ j _ => ?_) _).report _).bindPort _
  · exact { (ServiceRecord.SameSeat.refl (q.record i)).reseed (toQ (q.record i).protectOffset) with }
  · exact (addressFree_iff q _ _).1 hfree j

theorem considerRecord (h : Kept p q) (k : PairIx) (i : RecordIx) : Kept p (considerRecord k i q) := by
  unfold Machine.considerRecord
  split
  · split
    · exact h.moveRecord _ _ ‹_›
    · exact h.withRecord _ _
  · exact h

theorem switchPass (h : Kept p q) (k : PairIx) : Kept p (switchPass k q) :=
  forEach_induct (R := Kept p) _ (fun i _ h => h.considerRecord k i) _ _ h

theorem returnRecord (h : Kept p q) (k : PairIx) (i : RecordIx) : Kept p (returnRecord k i q) := by
  unfold Machine.returnRecord
  split
  · next hswitched =>
    obtain ⟨hvacant, hhome, _⟩ := (switched_iff _ k).1 hswitched
    refine ((h.move (port := workingPort k) ?_ rfl fun l j hj hc ha => ?_).report _).report _
    · unfold returned
      split
      · exact { ServiceRecord.SameSeat.refl (q.record i) with }
      · exact { (ServiceRecord.SameSeat.refl (q.record i)).reseed _ with }
    · refine hj (l.1 (workingPort k) j i hc ?_ ha)
      simp [ServiceRecord.counts, hvacant, hhome]
  · exact h

theorem clearBlocked (h : Kept p q) (k : PairIx) : Kept p (clearBlocked k q) :=
  forEach_induct (R := Kept p) _ (fun _ _ h => ite (h.withRecord _ _) h) _ _ h

theorem returnPair (h : Kept p q) (k : PairIx) : Kept p (returnPair k q) :=
  ((forEach_induct (R := Kept p) _ (fun i _ h => h.returnRecord k i) _ _ h).withPair _ _).clearBlocked _

theorem enterWait (h : Kept p q) (k : PairIx) : Kept p (enterWait k q) :=
  ite (((h.withPair _ _).clearBlocked _).returnPair _) ((h.withPair _ _).clearBlocked _)

theorem markFaulted (h : Kept p q) (k : PortIx) : Kept p (markFaulted k q) :=
  forEach_induct (R := Kept p) _ (fun _ _ h => ite (h.report _) h) _ _ h

theorem clearFaulted (h : Kept p q) (k : PortIx) : Kept p (clearFaulted k q) :=
  forEach_induct (R := Kept p) _ (fun _ _ h => ite (h.report _) h) _ _ h

theorem portEntersFault (h : Kept p q) (k : PortIx) : Kept p (portEntersFault k q) := by
  refine Kept.markFaulted (ite ?_ ?_) _
  · unfold workingFault
    split
    · exact (h.switchPass _).withPair _ _
    · exact h.switchPass _
    · exact h.switchPass _
    · exact (h.switchPass _).withPair _ _
  · unfold protectFault
    split
    · exact h
    all_goals exact ite h (h.returnPair _)

theorem portLeavesFault (h : Kept p q) (k : PortIx) : Kept p (portLeavesFault k q) := by
  refine ite ?_ (h.clearFaulted _)
  unfold workingClean
  split
  · exact ite ((h.clearFaulted _).returnPair _) (ite ((h.clearFaulted _).enterWait _) (h.clearFaulted _))
  all_goals exact h.clearFaulted _

theorem pairWaits (h : Kept p q) (l : List PairIx) : Kept p (pairWaits l q) :=
  forEach_induct (R := Kept p) _ (fun _ _ h => ite (ite ((h.withPair _ _).returnPair _) (h.withPair _ _)) h) _ _ h

theorem clearStale (h : Kept p q) (k : PairIx) : Kept p (clearStale k q) :=
  forEach_induct (R := Kept p) _ (fun _ _ h => ite (h.withRecord _ _) h) _ _ h

theorem sweepPair (h : Kept p q) (k : PairIx) : Kept p (sweepPair k q) := by
  unfold Machine.sweepPair
  split
  · exact (h.clearStale _).switchPass _
  · exact (h.clearStale _).switchPass _
  · exact h
  · exact h

theorem sweepBoundary (h : Kept p q) : Kept p (sweepBoundary q) :=
  forEach_induct (R := Kept p) _ (fun _ _ h => ite (h.markFaulted _) h) _ _
    (forEach_induct (R := Kept p) _ (fun k _ h => h.sweepPair k) _ _ h)

theorem setPairRequest (h : Kept p q) (index : Byte) (body : List Byte) : Kept p (setPairRequest index body q).1 := by
  have fields : ∀ k items, Kept p (setPairFields k items q) := by
    intro k items
    unfold setPairFields
    dsimp only
    split
    · exact h.withPair _ _
    · split
      · exact ite (h.withPair _ _) ((h.withPair _ _).withPair _ _)
      · exact ite ((h.withPair _ _).enterWait _) (h.withPair _ _)
      · exact h.withPair _ _
      · exact h.withPair _ _
  unfold Machine.setPairRequest
  split
  · exact h
  · split
    · exact h
    · exact fields _ _

theorem switchRequest (h : Kept p q) (pair : Byte) : Kept p (switchRequest pair q).1 := by
  unfold Machine.switchRequest switchPair
  split
  · exact h
  · split
    · dsimp only
      split
      · exact (h.switchPass _).withPair _ _
      · exact (h.switchPass _).withPair _ _
      · exact (h.switchPass _).withPair _ _
      · exact h
    · exact h

theorem restoreRequest (h : Kept p q) (pair : Byte) : Kept p (restoreRequest pair q).1 := by
  unfold Machine.restoreRequest
  split
  · exact h
  · split
    · exact h
    · exact ite h (h.returnPair _)

/-! ## The Port Engines (R122 to R136) -/

theorem unlessHeld (h : Kept p q) {f : Part → Part} (hf : ∀ r, Kept r (f r)) : Kept p (unlessHeld f q) :=
  ite h (h.trans (hf q))

theorem reportOutcome (h : Kept p q) (k : PortIx) (o : SlotOutcome) : Kept p (reportOutcome k o q) := by
  unfold Machine.reportOutcome
  dsimp only
  split
  · exact h.withEngine _ _
  · exact (h.withEngine _ _).recordOutcome _ _ _ _ _

theorem decideSlot (h : Kept p q) (k : PortIx) (o : SlotOutcome) (e : SlotError) : Kept p (decideSlot k o e q) :=
  (h.withPort _ _).reportOutcome _ _

theorem endSlot (h : Kept p q) (k : PortIx) : Kept p (endSlot k q) := by
  unfold Machine.endSlot
  dsimp only
  split
  · exact h
  · exact h.decideSlot _ _ _
  · exact h.decideSlot _ _ _
  · exact ite (h.decideSlot _ _ _) (h.withEngine _ _)

theorem beginSlot (h : Kept p q) (k : PortIx) (slot : PortSlot) : Kept p (beginSlot k slot q) :=
  (h.endSlot _).withEngine _ _

theorem elapse (h : Kept p q) (e : Nat) : Kept p { q with tb := q.tb.elapseTo e } := h.same { SameCore.refl q with }

theorem elapseToMs (h : Kept p q) (ms : Nat) : Kept p (elapseToMs ms q) := ite h (h.elapse _)

theorem passRaw (h : Kept p q) (dt : Nat) : Kept p (passRaw dt q) := ite h (h.same { SameCore.refl q with })

theorem beginRecordSlot (h : Kept p q) (k : PortIx) (t1 : Stamp) (i : RecordIx) : Kept p (beginRecordSlot k t1 i q) := by
  have attempt : Kept p (if (q.record i).state = .retiring then
      Machine.withRecord i (fun r => { r with dismissAttempts := r.dismissAttempts + 1 }) q else q) :=
    ite (h.withRecord _ _) h
  exact ite (attempt.recordOutcome _ _ _ _ _) (ite ((attempt.withEngine _ _).withEngine _ _) attempt)

theorem delaySlotStart (h : Kept p q) (k : PortIx) (a : Address) : Kept p (delaySlotStart k a q) := by
  refine (h.elapseToMs _).unlessHeld fun r => ?_
  dsimp only
  split
  · exact (refl r).beginSlot _ _
  · exact ite ((refl r).beginSlot _ _) (((refl r).beginSlot _ _).beginRecordSlot _ _ _)

theorem openSlotStart (h : Kept p q) (k : PortIx) : Kept p (openSlotStart k q) := by
  refine Kept.unlessHeld (ite (h.elapseToMs _) h) fun r => ite (ite ?_ ?_) (refl r)
  · exact (((refl r).beginSlot _ _).withEngine _ _).withEngine _ _
  · exact ((refl r).beginSlot _ _).withEngine _ _

theorem verdictSlotStart (h : Kept p q) (k : PortIx) : Kept p (verdictSlotStart k q) := by
  refine Kept.unlessHeld (ite (h.elapseToMs _) h) fun r => ite ?_ (refl r)
  dsimp only
  have begun := (refl r).beginSlot k .verdictSlot
  split
  · exact begun
  · exact ite ((begun.withEngine _ _).withEngine _ _) (begun.withEngine _ _)

theorem quietSlotStart (h : Kept p q) (k : PortIx) : Kept p (quietSlotStart k q) :=
  ite (h.elapseToMs _) ((h.elapseToMs _).beginSlot _ _)

theorem frameSent (h : Kept p q) (k : PortIx) : Kept p (frameSent k q) := by
  refine h.unlessHeld fun r => ?_
  have h := refl r
  split
  · next f _ =>
    cases f.kind with
    | delay =>
      cases (r.engine k).target with
      | some t => exact (h.withEngine _ _).delaySent t
      | none => exact h.withEngine _ _
    | dismiss => exact h.withEngine _ _
    | openFrame => exact h.withEngine _ _
    | epoch => exact (h.withEngine _ _).withPort _ _
    | verdict => exact (h.withEngine _ _).withPort _ _
  all_goals exact h

theorem frameAborted (h : Kept p q) (k : PortIx) (bit : Nat) (l : LineLevel) : Kept p (frameAborted k bit l q) := by
  refine h.unlessHeld fun r => ?_
  have h := refl r
  split
  · exact ite ((h.withEngine _ _).decideSlot _ _ _) h
  all_goals exact h

theorem windowClosed (h : Kept p q) (k : PortIx) : Kept p (windowClosed k q) := by
  refine h.unlessHeld fun r => ?_
  have h := refl r
  split
  · exact h.decideSlot _ _ _
  all_goals exact h

theorem responseStarted (h : Kept p q) (k : PortIx) : Kept p (responseStarted k q) := by
  refine h.unlessHeld fun r => ?_
  have h := refl r
  split
  · exact h.withEngine _ _
  all_goals exact h

theorem responseFailed (h : Kept p q) (k : PortIx) (l : List LineChar) : Kept p (responseFailed k l q) := by
  refine h.unlessHeld fun r => ?_
  have h := refl r
  split
  · split
    · exact h
    · exact h.decideSlot _ _ _
  all_goals exact h

theorem responseAccepted (h : Kept p q) (k : PortIx) (o : SlotOutcome) : Kept p (responseAccepted k o q) :=
  ite h (ite (h.decideSlot _ _ _) h)

theorem echoReceived (h : Kept p q) (k : PortIx) (l : List LineChar) : Kept p (echoReceived k l q) := by
  unfold Machine.echoReceived
  split
  · exact h.responseAccepted _ _
  · exact h

theorem leaveReceived (h : Kept p q) (k : PortIx) (l : List LineChar) : Kept p (leaveReceived k l q) :=
  ite (h.responseAccepted _ _) h

theorem distressReceived (h : Kept p q) (k : PortIx) (l : List LineChar) : Kept p (distressReceived k l q) :=
  ite (h.responseAccepted _ _) h

theorem enrolReceived (h : Kept p q) (k : PortIx) (l : List LineChar) : Kept p (enrolReceived k l q) := by
  unfold Machine.enrolReceived
  split
  · exact ite h (ite ((((h.withEngine _ _).withPort _ _).decideEnrol _ _ _).withEngine _ _) h)
  · exact h

theorem wakePulse (h : Kept p q) (k : PortIx) : Kept p (wakePulse k q) := ite h (ite h (h.withPort _ _))

theorem setPortRequest (h : Kept p q) (index : Byte) (body : List Byte) : Kept p (setPortRequest index body q).1 := by
  have fields : ∀ k items, Kept p (setPortFields k items q) := by
    intro k items
    unfold setPortFields
    dsimp only
    split
    · exact ite ((h.withPort _ _).withPort _ _) (h.withPort _ _)
    · exact ite (h.withPort _ _) ((((h.withPort _ _).withPort _ _).withEngine _ _).reportOutcome _ _)
    · exact h.withPort _ _
  unfold Machine.setPortRequest
  split
  · exact h
  · split
    · exact h
    · exact fields _ _

theorem judgePort (h : Kept p q) (k : PortIx) : Kept p (judgePort k q) := by
  unfold Machine.judgePort
  dsimp only
  split
  · exact ((h.withPort _ _).report _).portEntersFault _
  · exact ((h.withPort _ _).report _).portLeavesFault _
  · exact h.withPort _ _
  · exact h.withPort _ _

theorem beginPortSecond (h : Kept p q) (k : PortIx) : Kept p (beginPortSecond k q) := h.same { SameCore.refl q with }

theorem portBoundary (h : Kept p q) (l : List PortIx) (k : PortIx) : Kept p (portBoundary l k q) :=
  (((h.endSlot _).judgePort _).withPort _ _).beginPortSecond _

theorem portsBoundary (h : Kept p q) (l m : List PortIx) : Kept p (portsBoundary l m q) :=
  forEach_induct (R := Kept p) _ (fun k _ h => h.portBoundary l k) _ _ h

/-! ## The boundary (R8, R67) -/

theorem clearFresh (h : Kept p q) : Kept p (clearFresh q) := h.same { SameCore.refl q with }

theorem hubSecondEvent (h : Kept p q) : Kept p (hubSecondEvent q) := by
  have stepped : Kept p (if q.tb.stepMark = true then completeStep q else q) :=
    ite (h.steers (Steers.refl q).completeStep id) h
  have copied : ∀ {r : Part} (t : Take), Kept p r → Kept p (copyScale t r) := by
    intro r t hr
    refine hr.steers ((Steers.refl r).copyScale t) fun f => ?_
    unfold copyScale
    split
    · split <;> exact f
    · exact f
  unfold Machine.hubSecondEvent
  refine Kept.steers ?_ ((Steers.refl _).actOnTake _ _) (actOnTake_fits _ _)
  split
  · exact ite stepped.clearFresh (copied _ stepped.clearFresh)
  · exact stepped.clearFresh

theorem boundaryWork (h : Kept p q) (c : BoundaryContext) (b : BoundaryArgs) (w : BoundaryWork) :
    Kept p (boundaryWork c b w q) := by
  cases w
  · exact h.inputsBoundary _
  · exact h.hubSecondEvent
  · exact h.recordsBoundary
  · exact h.portsBoundary _ _
  · exact h.pairWaits _
  · exact h.sweepBoundary

/-- The next correction becomes the applied one (R6). -/
theorem timeBoundary (h : Kept p q) : Kept p { q with tb := q.tb.boundary } := by
  have corrections : q.tb.boundary.applied = q.tb.next ∧ q.tb.boundary.next = q.tb.next := by
    unfold TimeBase.boundary
    split <;> exact ⟨rfl, rfl⟩
  have limits : WithinLimits q → WithinLimits { q with tb := q.tb.boundary } := by
    intro l
    obtain ⟨hhub, _, hnext, hrestart⟩ := (withinLimits_iff q).1 l
    refine (withinLimits_iff _).2 ⟨hhub, ?_, ?_, hrestart⟩
    · exact corrections.1.symm ▸ hnext
    · exact corrections.2.symm ▸ hnext
  exact h.trans { refl q with limits := limits }

theorem hubBoundary (h : Kept p q) (b : BoundaryArgs) : Kept p (hubBoundary b q) := by
  have edges : ∀ r, Kept r (countEdges b.line r) := fun r => by
    rw [countEdges_frame]
    exact (refl r).same { SameCore.refl r with }
  unfold Machine.hubBoundary
  refine ite h (ite h.timeBoundary ?_)
  exact forEach_induct (R := Kept p) _ (fun w _ h => h.boundaryWork _ b w) _ _ (h.timeBoundary.trans (edges _))

end Kept

end Sys2Proof.Machine

/-! SUPPORT. The resets, the Management Port and every command keep the invariants; what every step keeps (R58 to R60, R80,
R84, R94, R116, R146, R173). -/

namespace Sys2Proof.Machine

/-! ## The tables after a reset (R38, R62, R117, R137, R168, R184) -/

@[simp] theorem resetTables_record (p : Part) (i : RecordIx) : (resetTables p).record i = {} := by
  simp [resetTables, Part.record]

@[simp] theorem resetTables_slots (p : Part) : (resetTables p).slots = resetSlots := rfl

@[simp] theorem resetTables_selected (p : Part) : (resetTables p).selected = none := rfl

/-- A reset slot is not eligible, and bound to nothing. -/
theorem resetSlot (k : SlotIx) : (resetSlots[k.val]).state ≠ .qualified ∧ (resetSlots[k.val]).binding = none := by
  revert k
  decide

/-- The Reference Table and the Record Table as a reset leaves them, with none selected. -/
structure TablesReset (p : Part) : Prop where
  slots       : p.slots = resetSlots
  records     : ∀ i, p.record i = {}
  selected    : p.selected = none
  hubSelected : p.hub.selected = none

namespace TablesReset

variable {p : Part}

theorem eligible (h : TablesReset p) (k : SlotIx) : p.eligible k = false := by
  have := (resetSlot k).1
  simp [Part.eligible, Part.slot, h.slots, this]

theorem choice (h : TablesReset p) : p.choice = none := by
  have hphase : p.bestPhase = none := by simp [Part.bestPhase, h.eligible]
  have hbest : p.best = none := by
    unfold Part.best Part.ranked
    rw [hphase]
    split <;> simp [h.eligible]
  simp [Part.choice, hbest, h.selected]

theorem selection (h : TablesReset p)
    (hstate : p.hub.state = .freeRun ∨ p.hub.state = .holdover ∨ p.hub.state = .holdoverExpired) : SelectionAgrees p := by
  refine ⟨h.choice.trans h.selected.symm, h.hubSelected.trans h.selected.symm, ?_⟩
  rw [hubStateFits_iff, h.selected]
  exact hstate

theorem comps (h : TablesReset p) : CompensationInRange p := by
  intro i
  rw [h.records]
  exact zero_inRange

theorem laws (h : TablesReset p) : RecordLaws p := by
  constructor <;> intro _ i j <;> simp [h.records, ServiceRecord.counts]

theorem bindings (h : TablesReset p) : BindingsAgree p := by
  have hfree : ∀ k, (p.slot k).binding = none := fun k => by
    rw [Part.slot, h.slots]
    exact (resetSlot k).2
  exact ⟨fun k _ => hfree k, fun k i g hb => by simp [hfree k] at hb, fun i k hb => by simp [h.records] at hb⟩

/-- A reset that keeps the figures within their limits and the list at one entry for each owner keeps the invariants. -/
theorem kept {q : Part} (h : TablesReset p)
    (hstate : p.hub.state = .freeRun ∨ p.hub.state = .holdover ∨ p.hub.state = .holdoverExpired)
    (hlimits : WithinLimits q → WithinLimits p) (hlist : p.alarm.OneEach) : Kept q p where
  limits := hlimits
  comps _ := h.comps
  laws _ := h.laws
  bindings _ := h.bindings
  list _ := hlist
  fits _ := (h.selection hstate).2
  selection _ := h.selection hstate

end TablesReset

theorem oneEach_empty : ({} : AlarmUnit).OneEach := List.nodup_nil

/-- The figures of a fresh hub record are within their limits. -/
theorem limited_default : ({} : HubRecord).Limited := ⟨by decide, by decide, by decide, by decide⟩

theorem zero_limited : magnitude 0 ≤ correctionLimit := by decide

/-- The restart figure of a power-on reset is in its range (R13). -/
theorem restart_default : ({} : Oscillator).restart ≤ 1000000 := by decide

theorem assertPorn_kept (p : Part) : Kept p (assertPorn p) := by
  have reset : TablesReset (assertPorn p) :=
    { slots := rfl, records := resetTables_record p, selected := rfl, hubSelected := rfl }
  refine reset.kept (.inl rfl) (fun _ => ?_) oneEach_empty
  exact (withinLimits_iff _).2 ⟨limited_default, zero_limited, zero_limited, restart_default⟩

/-- The part with the hub record that a warm reset gives before it enters a state (R90). -/
def warmStart (kind : ResetKind) (p : Part) : Part :=
  let q := resetTables p
  let q := { q with tb := { q.tb with pendingStep := none }, mgmt := { q.mgmt with lastReset := kind } }
  withHub warmFields (report (q.restartReport .warm) q)

theorem warmReset_eq (kind : ResetKind) (p : Part) :
    warmReset kind p =
      if (warmStart kind p).hub.wasLocked then warmHoldover (warmStart kind p) else enterFreeRun (warmStart kind p) :=
  rfl

theorem warmStart_reset (kind : ResetKind) (p : Part) : TablesReset (warmStart kind p) :=
  { slots := rfl, records := resetTables_record p, selected := rfl, hubSelected := rfl }

theorem warmStart_limits (kind : ResetKind) (p : Part) (h : WithinLimits p) : WithinLimits (warmStart kind p) := h

theorem warmStart_oneEach (kind : ResetKind) (p : Part) : (warmStart kind p).alarm.OneEach :=
  take_kept _ _ oneEach_empty

/-- What the Discipline Unit does after a reset leaves the tables reset. -/
theorem TablesReset.steers {p q : Part} (h : TablesReset p) (k : Steers p q) : TablesReset q :=
  { slots := k.frame.slots.trans h.slots
    records := fun i => by
      rw [Part.record, k.frame.records]
      exact h.records i
    selected := k.selected.trans h.selected
    hubSelected := k.hubSelected.trans h.hubSelected }

/-- The part at the entry to HOLDOVER in a warm reset: U is at least Uw (R90). -/
def warmBound (p : Part) : Part :=
  withHub (fun h => { h with state := .holdover, grade := .c, bound := max h.bound (toQ p.osc.restart) }) p

theorem warmHoldover_eq (p : Part) :
    warmHoldover p =
      compareBound false (predictCorrection (raiseHub .holdover (advanceCause (startPrediction (warmBound p))))) := rfl

theorem warmHoldover_steers (p : Part) : Steers (warmBound p) (warmHoldover p) :=
  ((((Steers.refl _).startPrediction.advanceCause).raiseHub _).predictCorrection).compareBound _

/-- With Uw in its range U stays within 10^9 ns (R13, R84). -/
theorem warmBound_limits {p : Part} (h : WithinLimits p) : WithinLimits (warmBound p) := by
  obtain ⟨hhub, happlied, hnext, hrestart⟩ := (withinLimits_iff p).1 h
  have hbound : max p.hub.bound (toQ p.osc.restart) ≤ boundCeiling := by
    have := hhub.bound
    unfold toQ boundCeiling at *
    omega
  exact (withinLimits_iff _).2 ⟨⟨hhub.integrator, hhub.correction, hhub.average, hbound⟩, happlied, hnext, hrestart⟩

theorem warmHoldover_state (p : Part) :
    (warmHoldover p).hub.state = .holdover ∨ (warmHoldover p).hub.state = .holdoverExpired := by
  rw [warmHoldover_eq]
  obtain h | ⟨_, h⟩ := expired_or_same
    (predictCorrection (raiseHub .holdover (advanceCause (startPrediction (warmBound p))))) false
  · rw [h, predictCorrection_state]
    exact .inl rfl
  · exact .inr h

theorem warmReset_kept (kind : ResetKind) (p : Part) : Kept p (warmReset kind p) := by
  have start := warmStart_reset kind p
  rw [warmReset_eq]
  split
  · have held : TablesReset (warmBound (warmStart kind p)) := ⟨start.slots, start.records, start.selected, start.hubSelected⟩
    have steers := warmHoldover_steers (warmStart kind p)
    exact (held.steers steers).kept (.inr (warmHoldover_state _))
      (fun l => steers.limits (warmBound_limits (warmStart_limits kind p l)))
      (steers.list (warmStart_oneEach kind p))
  · have steers := (Steers.refl (warmStart kind p)).enterFreeRun
    exact (start.steers steers).kept (.inl rfl) (fun l => steers.limits (warmStart_limits kind p l))
      (steers.list (warmStart_oneEach kind p))

/-! ## Items (R198) -/

/-- Every item of a body has a field of the table and a value that the field's kind allows. -/
theorem decodeItems_mem {kindOf : Nat → Option FieldKind} {raws : List RawItem} {items : List Item}
    (h : decodeItems kindOf raws = some items) :
    ∀ it ∈ items, ∃ kind bytes, kindOf it.field = some kind ∧ decodeValue kind bytes = some it.value := by
  induction raws generalizing items with
  | nil =>
    obtain rfl := Option.some.inj h
    simp
  | cons raw rest ih =>
    simp only [decodeItems, Option.bind_eq_bind, Option.bind_eq_some_iff] at h
    obtain ⟨kind, hkind, value, hvalue, others, hothers, hitems⟩ := h
    obtain rfl := Option.some.inj hitems
    intro it hit
    obtain rfl | hit := List.mem_cons.1 hit
    · exact ⟨kind, raw.value, hkind, hvalue⟩
    · exact ih hothers it hit

/-- A number that a request writes is in the range of its field. -/
theorem numberWritten_between {kindOf : Nat → Option FieldKind} {body : List Byte} {items : List Item} {field : Nat}
    {v lo hi : Int} (h : readItems kindOf body = some items) (hv : numberWritten items field = some v)
    (hkind : kindOf field = some (.num lo hi)) (hrange : lo ≤ hi) : lo ≤ v ∧ v ≤ hi := by
  simp only [readItems, Option.bind_eq_bind, Option.bind_eq_some_iff] at h
  obtain ⟨raws, _, decoded, hdecoded, hitems⟩ := h
  split at hitems
  · simp at hitems
  · obtain rfl := Option.some.inj hitems
    obtain ⟨it, hmem, hit⟩ := List.exists_of_findSome?_eq_some hv
    obtain ⟨kind, bytes, hfield, hvalue⟩ := decodeItems_mem hdecoded it hmem
    split at hit
    · next w c hw =>
      split at hit
      · next hf =>
        obtain rfl := Option.some.inj hit
        rw [hf, hkind] at hfield
        obtain rfl := Option.some.inj hfield
        rw [hw, decodeValue] at hvalue
        split at hvalue
        · simp only [Option.some.injEq, FieldValue.num.injEq] at hvalue
          exact hvalue.1 ▸ clampTo_between hrange _
        · simp at hvalue
      · simp at hit
    · simp at hit

namespace Kept

variable {p q r : Part}

theorem loadIfDue (h : Kept p q) : Kept p (loadIfDue q) :=
  ite h (h.same { SameCore.refl q with list := load_kept q.alarm })

theorem settle (h : Kept p q) (waiting : List Instr) : Kept p (settle waiting q) := ite h h.loadIfDue

theorem releasePorn (h : Kept p q) (since : Option Nat) : Kept p (releasePorn since q) := by
  have inputs : ∀ r, Kept r (releaseInputs r) := fun r =>
    (forEach_induct (R := Kept r) _ (fun k _ h => h.withInput k _) _ _ (refl r)).beginLine
  unfold Machine.releasePorn
  refine ite (Kept.loadIfDue (Kept.unlessHeld (Kept.report (Kept.report ?_ _) _) inputs)) h
  exact h.same { SameCore.refl q with }

theorem assertWrst (h : Kept p q) : Kept p (assertWrst q) := by
  have warm := h.trans (warmReset_kept .warmPin q)
  exact ite h (ite (h.same { SameCore.refl q with }) (warm.same { SameCore.refl _ with }))

theorem releaseWrst (h : Kept p q) : Kept p (releaseWrst q) :=
  ite (Kept.loadIfDue (h.same { SameCore.refl q with })) h

/-! ## Requests (R190) -/

/-- The restart figure that a SET on table 5 writes is in its range (R13). -/
theorem setOscillator (h : Kept p q) (body : List Byte) : Kept p (setOscillator body q).1 := by
  unfold Machine.setOscillator
  split
  · exact h
  · next items hitems =>
    split
    · exact h
    · have limits : WithinLimits q → WithinLimits { q with osc := writeOscillator items q.osc } := by
        intro l
        obtain ⟨hhub, happlied, hnext, hrestart⟩ := (withinLimits_iff q).1 l
        refine (withinLimits_iff _).2 ⟨hhub, happlied, hnext, ?_⟩
        change (numberWritten items 5).getD q.osc.restart ≤ 1000000
        cases hw : numberWritten items 5 with
        | none => exact hrestart
        | some v => exact (numberWritten_between hitems hw rfl (by decide)).2
      exact h.trans { refl q with limits := limits }

theorem handleSet (h : Kept p q) (table index : Byte) (body : List Byte) : Kept p (handleSet table index body q).1 := by
  unfold Machine.handleSet
  split
  · exact h.setRecordRequest _ _
  · exact h.setReference _ _
  · exact h.setPortRequest _ _
  · exact h.setPairRequest _ _
  · exact h.setHub _
  · exact h.setOscillator _
  · unfold setAlarm
    split
    · exact h
    · exact h.same { SameCore.refl q with }
  · exact h

theorem handleRequest (h : Kept p q) (code : Nat) (body : List Byte) : Kept p (handleRequest code body q).1 := by
  unfold Machine.handleRequest
  dsimp only
  split
  · exact h
  · exact (h.trans (warmReset_kept _ q)).loadIfDue
  · exact h
  · exact h.handleSet _ _ _
  · exact h
  · exact h.createRequest _ _ _
  · exact h.retireRequest _
  · exact h.bindRequest _ _
  · exact h.unbindRequest _
  · exact h.forceFail _
  · exact h.lockout _
  · exact h.release _
  · exact h.prefer _
  · exact h.switchRequest _
  · exact h.restoreRequest _
  · exact h.steers ((Steers.refl q).withHub fun r => { r with stepPermission := true }) id
  · exact h.same { SameCore.refl q with }
  · exact h

theorem withMgmt (h : Kept p q) (m : MgmtPort) : Kept p { q with mgmt := m } := h.same { SameCore.refl q with }

theorem takeRequest (h : Kept p q) (frame : List Byte) : Kept p (takeRequest frame q) := by
  have dealt : Kept p (dealWith frame q).1 := by
    unfold dealWith
    split
    · exact h.handleRequest _ _
    · exact h
  exact dealt.withMgmt _

theorem takeWaiting (h : Kept p q) : Kept p (takeWaiting q) := by
  obtain ⟨frame, _, _, _, htake⟩ | ⟨_, htake⟩ := takeWaiting_cases q
  · rw [htake]
    exact (h.withMgmt _).takeRequest _
  · rwa [htake]

theorem placeRequest (h : Kept p q) (frame : List Byte) : Kept p (placeRequest frame q) := by
  unfold Machine.placeRequest
  refine ite h ?_
  split
  · exact h
  · exact (h.withMgmt _).takeWaiting

/-! ## Transactions (R186 to R192) -/

theorem beginTransaction (h : Kept p q) (header : Byte) : Kept p (beginTransaction header q) := ite h (h.withMgmt _)

theorem completeTransaction (h : Kept p q) (op : Operation) (header : Byte) {effect : Part → Part}
    (heffect : ∀ r, Kept r (effect r)) : Kept p (completeTransaction op header effect q) := by
  have begun := h.beginTransaction header
  unfold Machine.completeTransaction
  dsimp only
  split
  · exact ite (Kept.withMgmt (ite (begun.trans (heffect _)) begun) _) h
  · exact h

theorem emptyReply (h : Kept p q) : Kept p (emptyReply q) := (h.withMgmt _).takeWaiting

theorem freeBuffer (h : Kept p q) : Kept p (freeBuffer q) := Kept.loadIfDue (h.same { SameCore.refl q with })

/-! ## Commands -/

theorem lineEvent (h : Kept p q) (k : PortIx) (e : LineEvent) : Kept p (lineEvent k e q) := by
  cases e
  · exact h.delaySlotStart _ _
  · exact h.openSlotStart _
  · exact h.verdictSlotStart _
  · exact h.quietSlotStart _
  · exact h.frameAborted _ _ _
  · exact h.windowClosed _
  · exact h.responseFailed _ _
  · exact h.echoReceived _ _
  · exact h.leaveReceived _ _
  · exact h.distressReceived _ _

theorem runCause (h : Kept p q) (c : Cause) : Kept p (runCause c q) := by
  cases c
  · exact h.hubBoundary _
  · exact h.lineEvent _ _
  · exact h.todMessage _ _
  · exact h.pktMessage _
  · exact h.placeRequest _

end Kept

/-- The effect of every command keeps the invariants. -/
theorem exec_kept (c : Instr) : ∃ f : Part → Part, (∀ s, exec c s = commandDone f s) ∧ ∀ p, Kept p (f p) := by
  have boundary : ∀ (b : BoundaryArgs) (reached : Part → Bool) (p : Part),
      Kept p (whenReached (reached p) (hubBoundary b) p) := fun b _ p => .ite ((Kept.refl p).hubBoundary b) (.refl p)
  have cause : ∀ (c : Cause) (reached : Part → Bool) (p : Part),
      Kept p (whenReached (reached p) (runCause c) p) := fun c _ p => .ite ((Kept.refl p).runCause c) (.refl p)
  cases c with
  | status header =>
    exact ⟨_, fun _ => rfl, fun p => .ite ((Kept.refl p).completeTransaction _ _ .refl) (.refl p)⟩
  | writeM dt frame =>
    exact ⟨_, fun _ => rfl, fun p =>
      ((Kept.refl p).passRaw dt).completeTransaction _ _ fun r => (Kept.refl r).placeRequest frame⟩
  | readM dt =>
    exact ⟨_, fun _ => rfl, fun p => ((Kept.refl p).passRaw dt).completeTransaction _ _ fun r => (Kept.refl r).emptyReply⟩
  | readA => exact ⟨_, fun _ => rfl, fun p => (Kept.refl p).completeTransaction _ _ fun r => (Kept.refl r).freeBuffer⟩
  | transactionCutShort => exact ⟨_, fun _ => rfl, fun p => (Kept.refl p).withMgmt _⟩
  | unknownRequest frame => exact ⟨_, fun _ => rfl, fun p => .ite ((Kept.refl p).placeRequest _) (.refl p)⟩
  | lookOscillatorRecord dt tag index =>
    exact ⟨_, fun _ => rfl, fun p => ((Kept.refl p).passRaw dt).placeRequest _⟩
  | alarmBufferLoad => exact ⟨_, fun _ => rfl, fun p => (Kept.refl p).loadIfDue⟩
  | pornAssert => exact ⟨_, fun _ => rfl, assertPorn_kept⟩
  | pornRelease since => exact ⟨_, fun _ => rfl, fun p => (Kept.refl p).releasePorn since⟩
  | wrstnAssert => exact ⟨_, fun _ => rfl, fun p => (Kept.refl p).assertWrst⟩
  | wrstnRelease => exact ⟨_, fun _ => rfl, fun p => (Kept.refl p).releaseWrst⟩
  | hubSecondBoundary b => exact ⟨_, fun _ => rfl, fun p => (Kept.refl p).hubBoundary b⟩
  | stepHoldEnd => exact ⟨_, fun _ => rfl, fun p => .ite (.refl p) ((Kept.refl p).elapse _)⟩
  | hsoFall => exact ⟨_, fun _ => rfl, fun p => .ite (.refl p) ((Kept.refl p).same { SameCore.refl p with })⟩
  | lockEntry b => exact ⟨_, fun _ => rfl, boundary b _⟩
  | outOfWindowReacquire b => exact ⟨_, fun _ => rfl, boundary b _⟩
  | autoRetire i b => exact ⟨_, fun _ => rfl, boundary b _⟩
  | lineFaultEntry q b => exact ⟨_, fun _ => rfl, boundary b _⟩
  | lineCleanEntry q b => exact ⟨_, fun _ => rfl, boundary b _⟩
  | portPark q b => exact ⟨_, fun _ => rfl, boundary b _⟩
  | pairWtrExpiry k b => exact ⟨_, fun _ => rfl, boundary b _⟩
  | delaySlotStart q a => exact ⟨_, fun _ => rfl, fun p => (Kept.refl p).delaySlotStart q a⟩
  | openSlotStart q => exact ⟨_, fun _ => rfl, fun p => (Kept.refl p).openSlotStart q⟩
  | verdictSlotStart q => exact ⟨_, fun _ => rfl, fun p => (Kept.refl p).verdictSlotStart q⟩
  | frameSentWhole q => exact ⟨_, fun _ => rfl, fun p => (Kept.refl p).frameSent q⟩
  | readbackMismatch q bit l => exact ⟨_, fun _ => rfl, fun p => (Kept.refl p).frameAborted q bit l⟩
  | responseWindowClose q => exact ⟨_, fun _ => rfl, fun p => (Kept.refl p).windowClosed q⟩
  | responseStart dt q => exact ⟨_, fun _ => rfl, fun p => ((Kept.refl p).passRaw dt).responseStarted q⟩
  | responseError q l => exact ⟨_, fun _ => rfl, fun p => (Kept.refl p).responseFailed q l⟩
  | echo q l => exact ⟨_, fun _ => rfl, fun p => (Kept.refl p).echoReceived q l⟩
  | delayStep q l =>
    refine ⟨fun p => whenReached (stepsDelay q l p (echoReceived q l p)) (echoReceived q l) p,
      fun _ => rfl, fun p => ?_⟩
    exact Kept.ite ((Kept.refl p).echoReceived q l) (.refl p)
  | statisticsWindowClose i c => exact ⟨_, fun _ => rfl, cause c _⟩
  | leave q l => exact ⟨_, fun _ => rfl, fun p => (Kept.refl p).leaveReceived q l⟩
  | distress q l => exact ⟨_, fun _ => rfl, fun p => (Kept.refl p).distressReceived q l⟩
  | enrol q l => exact ⟨_, fun _ => rfl, fun p => (Kept.refl p).enrolReceived q l⟩
  | silentEntry i c => exact ⟨_, fun _ => rfl, cause c _⟩
  | retireUnacknowledged i c => exact ⟨_, fun _ => rfl, cause c _⟩
  | wakePulse q => exact ⟨_, fun _ => rfl, fun p => (Kept.refl p).wakePulse q⟩
  | ppsEdge dt k => exact ⟨_, fun _ => rfl, fun p => ((Kept.refl p).passRaw dt).ppsEdge _⟩
  | todMessage k l => exact ⟨_, fun _ => rfl, fun p => (Kept.refl p).todMessage _ l⟩
  | pktMessage l => exact ⟨_, fun _ => rfl, fun p => (Kept.refl p).pktMessage l⟩
  | lineClockLost =>
    refine ⟨_, fun _ => rfl, fun p => ?_⟩
    have lost : Kept p { p with lineClock := { p.lineClock with present := false } } :=
      (Kept.refl p).same { SameCore.refl p with }
    exact lost.withInput _ _
  | jumpReferenceRetake k c => exact ⟨_, fun _ => rfl, cause c _⟩
  | slotQualify k c => exact ⟨_, fun _ => rfl, cause c _⟩
  | slotHoldOffFail k c => exact ⟨_, fun _ => rfl, cause c _⟩
  | slotOutlierFail k c => exact ⟨_, fun _ => rfl, cause c _⟩
  | almPulseEnd =>
    refine ⟨fun p => { p with alarm := { p.alarm with alm := p.alarm.alm.endPulse } },
      fun _ => rfl, fun p => ?_⟩
    exact (Kept.refl p).same { SameCore.refl p with }
  | mgtPulseEnd =>
    refine ⟨fun p => { p with mgmt := { p.mgmt with mgt := p.mgmt.mgt.endPulse } },
      fun _ => rfl, fun p => ?_⟩
    exact (Kept.refl p).withMgmt _
  | lineClockReturn => exact ⟨_, fun _ => rfl, fun p => (Kept.refl p).same { SameCore.refl p with }⟩
  | transactionBegin header => exact ⟨_, fun _ => rfl, fun p => (Kept.refl p).beginTransaction header⟩
  | quietSlotStart q => exact ⟨_, fun _ => rfl, fun p => (Kept.refl p).quietSlotStart q⟩
  | almOwedPulse =>
    refine ⟨fun p => { p with alarm := { p.alarm with alm := p.alarm.alm.endGap p.alarm.settings.pulseWidth } },
      fun _ => rfl, fun p => ?_⟩
    exact (Kept.refl p).same { SameCore.refl p with }
  | mgtOwedPulse =>
    refine ⟨fun p => { p with mgmt := { p.mgmt with mgt := p.mgmt.mgt.endGap p.alarm.settings.pulseWidth } },
      fun _ => rfl, fun p => ?_⟩
    exact (Kept.refl p).withMgmt _
  | _ => exact ⟨_, fun _ => rfl, fun p => (Kept.refl p).placeRequest _⟩

/-- Every step keeps the invariants. -/
theorem step_kept {s t : State} (h : step s = .next t) : Kept s.part t.part := by
  obtain ⟨p, queue⟩ := s
  cases queue with
  | nil =>
    obtain rfl := Host.Outcome.next.inj h
    exact .refl _
  | cons c rest =>
    obtain ⟨f, hexec, hkept⟩ := exec_kept c
    rw [step_cons, hexec, commandDone_next] at h
    obtain rfl := Host.Outcome.next.inj h
    exact (hkept p).settle rest

/-- Settles O55: every operation keeps the limits, since each figure is clamped or saturated where it is formed. -/
theorem figuresStayWithinTheirLimits : Obligations.FiguresStayWithinTheirLimits :=
  ⟨fun _ _ h hstep => (step_kept hstep).limits h, fun _ _ h hstep => (step_kept hstep).comps h⟩

/-- Settles O56: a choice follows whatever changes the eligibility of a slot, and moves the hub state to one that fits. -/
theorem selectionAlwaysAgrees : Obligations.SelectionAlwaysAgrees :=
  fun _ _ h hstep => (step_kept hstep).selection h

/-- Settles O57: a record is created, moved or given an identity only after the checks of R97, R98, R102 to R104 and
R157. -/
theorem recordLawsHoldAtEveryStep : Obligations.RecordLawsHoldAtEveryStep :=
  fun _ _ h hstep => (step_kept hstep).laws h

/-- Settles O58: both halves of a return binding are written together, and taken away together before a record ends. -/
theorem returnBindingsAlwaysAgree : Obligations.ReturnBindingsAlwaysAgree :=
  fun _ _ h hstep => (step_kept hstep).bindings h

/-- Settles O59: a report changes its owner's entry where it stands, and adds one only where there is none. -/
theorem listHoldsOneEntryPerOwner : Obligations.ListHoldsOneEntryPerOwner :=
  fun _ _ h hstep => (step_kept hstep).list h

/-- Settles O60: the tables of the reset state are those of a reset, and its figures are the power-on ones. -/
theorem resetMeetsEveryInvariant : Obligations.ResetMeetsEveryInvariant := by
  have reset : TablesReset State.reset.part :=
    { slots := rfl, records := fun i => by simp [State.reset, Part.record], selected := rfl, hubSelected := rfl }
  exact ⟨(withinLimits_iff _).2 ⟨limited_default, zero_limited, zero_limited, restart_default⟩, reset.comps, reset.selection (.inl rfl),
    reset.laws, reset.bindings, List.nodup_nil⟩

end Sys2Proof.Machine

/-! SUPPORT. A request that is taken as it is placed: how it is answered (R189 to R191), and what its items write (R198). -/

namespace Sys2Proof.Machine

/-! ## Requests that are taken at once (R189 to R191) -/

/-- A request of a known code and an allowed length reaches its owner (R190). -/
theorem dealWith_known {code tag : Byte} {body : List Byte}
    (hknown : lengthAllowed code.toNat (body.length + 2) = some true) (p : Part) :
    dealWith (code :: tag :: body) p = handleRequest code.toNat body p := by
  simp [dealWith, knownRequest, requestCode, hknown]

/-- A request of a known code and an allowed length completes with its owner's work and the owner's answer. -/
theorem completes_request {c : Instr} {s : State} {code tag : Byte} {body : List Byte} {q : Part} {r : Reply}
    (hexec : exec c s = request code tag body s) (hready : s.part.Ready) (hlen : body.length ≤ 253)
    (hknown : lengthAllowed code.toNat (body.length + 2) = some true)
    (hact : handleRequest code.toNat body s.part = (q, r)) : Completes c s (q.answer code tag r) := by
  obtain ⟨hheld, hinbound, hreply⟩ := hready
  have htaken := placeRequest_taken (code :: tag :: body) s.part hheld hinbound hreply (by simpa using by omega)
  rw [dealWith_known hknown, hact] at htaken
  rw [Completes, hexec, request, commandDone_next, htaken]
  rfl

/-- An answer changes the Management Port alone. -/
theorem answer_mgmt_eq {p q : Part} (code tag : Byte) (r : Reply) (hmgmt : q.mgmt = p.mgmt)
    (hsettings : q.alarm.settings = p.alarm.settings) : (q.answer code tag r).mgmt = (p.answer code tag r).mgmt := by
  simp only [Part.answer, hmgmt, hsettings]

/-! ## Indices (Figure 11-3) -/

theorem indexOf_eq_none {n : Nat} {b : Byte} (h : n ≤ b.toNat) : indexOf n b = none :=
  dif_neg (Nat.not_lt.2 h)

theorem indexOf_of_lt {n : Nat} {b : Byte} (h : b.toNat < n) : indexOf n b = some ⟨b.toNat, h⟩ := dif_pos h

/-! ## Items as they stand in a body (Figure 11-3) -/

theorem joinItems_cons (it : RawItem) (rest : List RawItem) :
    joinItems (it :: rest) = it.field :: byte it.value.length :: (it.value ++ joinItems rest) := by
  simp [joinItems]

theorem length_joinItems (items : List RawItem) :
    (joinItems items).length = (items.map (fun it => it.value.length + 2)).sum := by
  induction items with
  | nil => rfl
  | cons it rest ih =>
    simp only [joinItems_cons, List.length_cons, List.length_append, ih, List.map_cons, List.sum_cons]
    omega

theorem itemsFit_iff {room : Nat} {items : List RawItem} :
    itemsFit room items = true ↔ (∀ it ∈ items, it.value.length ≤ 255) ∧ (joinItems items).length ≤ room := by
  simp [itemsFit, length_joinItems]

theorem toNat_byte {n : Nat} (h : n ≤ 255) : (byte n).toNat = n := by
  rw [byte, BitVec.toNat_ofNat]
  exact Nat.mod_eq_of_lt (by omega)

/-- A body splits into the items that it was made of. -/
theorem splitItems_joinItems : ∀ (items : List RawItem) (n : Nat), (∀ it ∈ items, it.value.length ≤ 255) →
    (joinItems items).length ≤ n → splitItems n (joinItems items) = some items
  | [], _, _, _ => by simp [joinItems, splitItems]
  | it :: rest, n, hfit, hn => by
    obtain ⟨hit, hrest⟩ := List.forall_mem_cons.1 hfit
    rw [length_joinItems, List.map_cons, List.sum_cons, ← length_joinItems] at hn
    obtain ⟨m, rfl⟩ : ∃ m, n = m + 1 := ⟨n - 1, by omega⟩
    rw [joinItems_cons, splitItems, toNat_byte hit, if_neg (by simp), List.drop_left, List.take_left,
      splitItems_joinItems rest m hrest (by omega)]
    rfl

/-! ## Items that a table takes (R198) -/

/-- An item's field is one of the table, and its value one that the field's kind allows. -/
def takesItem (kindOf : Nat → Option FieldKind) (it : RawItem) : Bool :=
  ((kindOf it.field.toNat).bind (fun kind => decodeValue kind it.value)).isSome

theorem decodeItems_cons (kindOf : Nat → Option FieldKind) (raw : RawItem) (rest : List RawItem) :
    decodeItems kindOf (raw :: rest) =
      ((kindOf raw.field.toNat).bind (fun kind => decodeValue kind raw.value)).bind (fun value =>
        (decodeItems kindOf rest).map (fun items => ⟨raw.field.toNat, value⟩ :: items)) := by
  simp only [decodeItems, Option.bind_eq_bind, Option.bind_assoc, Option.map_eq_bind, Option.pure_def]
  rfl

theorem decodeItems_isSome (kindOf : Nat → Option FieldKind) (raws : List RawItem) :
    (decodeItems kindOf raws).isSome = raws.all (takesItem kindOf) := by
  induction raws with
  | nil => rfl
  | cons raw rest ih =>
    rw [decodeItems_cons, List.all_cons, ← ih, takesItem]
    cases (kindOf raw.field.toNat).bind (fun kind => decodeValue kind raw.value) <;> simp

theorem decodeItems_field {kindOf : Nat → Option FieldKind} {raws : List RawItem} {items : List Item}
    (h : decodeItems kindOf raws = some items) : items.map Item.field = raws.map (fun raw => raw.field.toNat) := by
  induction raws generalizing items with
  | nil =>
    obtain rfl := Option.some.inj h
    rfl
  | cons raw rest ih =>
    rw [decodeItems_cons, Option.bind_eq_some_iff] at h
    obtain ⟨value, _, h⟩ := h
    obtain ⟨others, hothers, rfl⟩ := Option.map_eq_some_iff.1 h
    simp [ih hothers]

theorem namedTwice_eq (items : List Item) : namedTwice items = !decide (items.map Item.field).Nodup := by
  induction items with
  | nil => rfl
  | cons it rest ih =>
    have hany : rest.any (fun other => other.field == it.field) = decide (it.field ∈ rest.map Item.field) := by
      rw [Bool.eq_iff_iff]
      simp
    rw [namedTwice, ih, hany]
    simp [List.nodup_cons, Bool.decide_and, Bool.not_and, -List.mem_map]

theorem nodup_fields (raws : List RawItem) :
    (raws.map (fun raw => raw.field.toNat)).Nodup ↔ (raws.map RawItem.field).Nodup := by
  have hcomp : raws.map (fun raw => raw.field.toNat) = (raws.map RawItem.field).map BitVec.toNat := by simp
  rw [hcomp]
  exact List.nodup_map_iff fun _ _ h => BitVec.eq_of_toNat_eq h

/-- A table takes items when each is one that it takes and no field is named twice. -/
def takesItems (kindOf : Nat → Option FieldKind) (raws : List RawItem) : Bool :=
  decide (raws.map RawItem.field).Nodup && raws.all (takesItem kindOf)

/-- The items of a body that the table takes are read as decoded. -/
theorem readItems_joinItems {kindOf : Nat → Option FieldKind} {raws : List RawItem} {room : Nat}
    (hfit : itemsFit room raws = true) (htakes : takesItems kindOf raws = true) :
    ∃ items, decodeItems kindOf raws = some items ∧ readItems kindOf (joinItems raws) = some items := by
  obtain ⟨hvalues, _⟩ := itemsFit_iff.1 hfit
  obtain ⟨hnodup, hall⟩ := (Bool.and_eq_true _ _).mp htakes
  rw [← decodeItems_isSome] at hall
  obtain ⟨items, hitems⟩ := Option.isSome_iff_exists.1 hall
  have htwice : namedTwice items = false := by
    rw [namedTwice_eq, decodeItems_field hitems]
    simpa using (nodup_fields raws).2 (of_decide_eq_true hnodup)
  refine ⟨items, hitems, ?_⟩
  simp [readItems, splitItems_joinItems raws _ hvalues le_rfl, hitems, htwice]

/-- Items that the table does not take are a BAD_REQUEST. -/
theorem readItems_eq_none {kindOf : Nat → Option FieldKind} {raws : List RawItem} {room : Nat}
    (hfit : itemsFit room raws = true) (htakes : takesItems kindOf raws = false) :
    readItems kindOf (joinItems raws) = none := by
  obtain ⟨hvalues, _⟩ := itemsFit_iff.1 hfit
  simp only [readItems, splitItems_joinItems raws _ hvalues le_rfl, Option.bind_eq_bind, Option.bind_some]
  cases hitems : decodeItems kindOf raws with
  | none => rfl
  | some items =>
    have hall := decodeItems_isSome kindOf raws
    rw [hitems, Option.isSome_some] at hall
    have hnodup : ¬ (raws.map RawItem.field).Nodup := by
      intro h
      simp [takesItems, h, ← hall] at htakes
    have htwice : namedTwice items = true := by
      rw [namedTwice_eq, decodeItems_field hitems]
      simpa using mt (nodup_fields raws).1 hnodup
    simp [htwice]

/-! ## What decoded items write -/

theorem valueOf_cons (raw : RawItem) (rest : List RawItem) (field : Byte) :
    valueOf (raw :: rest) field = if raw.field = field then some raw.value else valueOf rest field := by
  unfold valueOf
  by_cases h : raw.field = field
  · simp [h]
  · have hne : (raw.field == field) = false := by simpa using h
    simp [hne, h]

/-- The item of a field that items name, with the kind of that field. -/
theorem valueOf_takes {kindOf : Nat → Option FieldKind} {raws : List RawItem} {field : Byte} {bytes : List Byte}
    (htakes : takesItems kindOf raws = true) (h : valueOf raws field = some bytes) :
    ((kindOf field.toNat).bind (fun kind => decodeValue kind bytes)).isSome = true := by
  obtain ⟨raw, hraw, rfl⟩ := Option.map_eq_some_iff.1 h
  have hfield : raw.field = field := by simpa using List.find?_some hraw
  have hall := List.all_eq_true.1 ((Bool.and_eq_true _ _).mp htakes).2 raw (List.mem_of_find?_eq_some hraw)
  rwa [takesItem, hfield] at hall

/-- What is written is read off the value that the items give the field, as the field's kind decodes it. -/
theorem findSome_decoded {α : Type} {kindOf : Nat → Option FieldKind} {field : Byte} {kind : FieldKind}
    (read : Item → Option α) (hkind : kindOf field.toNat = some kind)
    (hother : ∀ n value, n ≠ field.toNat → (∃ bytes kind, kindOf n = some kind ∧ decodeValue kind bytes = some value) →
      read ⟨n, value⟩ = none) (hself : ∀ bytes value, decodeValue kind bytes = some value →
      (read ⟨field.toNat, value⟩).isSome) :
    ∀ {raws : List RawItem} {items : List Item}, decodeItems kindOf raws = some items →
      items.findSome? read =
        (valueOf raws field).bind (fun bytes => (decodeValue kind bytes).bind (fun v => read ⟨field.toNat, v⟩))
  | [], items, h => by
    obtain rfl := Option.some.inj h
    rfl
  | raw :: rest, items, h => by
    rw [decodeItems_cons, Option.bind_eq_some_iff] at h
    obtain ⟨value, hvalue, h⟩ := h
    obtain ⟨others, hothers, rfl⟩ := Option.map_eq_some_iff.1 h
    obtain ⟨rawKind, hrawKind, hdecoded⟩ := Option.bind_eq_some_iff.1 hvalue
    rw [List.findSome?_cons, valueOf_cons]
    by_cases hfield : raw.field = field
    · subst hfield
      obtain rfl := Option.some.inj (hkind.symm.trans hrawKind)
      obtain ⟨x, hx⟩ := Option.isSome_iff_exists.1 (hself _ _ hdecoded)
      simp [hdecoded, hx]
    · have hne : raw.field.toNat ≠ field.toNat := fun hn => hfield (BitVec.eq_of_toNat_eq hn)
      rw [hother _ _ hne ⟨_, _, hrawKind, hdecoded⟩, if_neg hfield]
      exact findSome_decoded read hkind hother hself hothers

variable {kindOf : Nat → Option FieldKind} {raws : List RawItem} {items : List Item}

/-- A number field holds the written number, clamped. -/
theorem numberWritten_decoded (h : decodeItems kindOf raws = some items) {n : Nat} {field : Byte} {lo hi : Int}
    (hn : field.toNat = n) (hkind : kindOf n = some (.num lo hi)) (htakes : takesItems kindOf raws = true) :
    numberWritten items n = (valueOf raws field).map (fun bytes => clampTo lo hi (signedNumberOf bytes)) := by
  subst hn
  rw [numberWritten, findSome_decoded _ hkind ?other ?self h]
  case other =>
    intro m value hm _
    cases value <;> simp [hm]
  case self =>
    intro bytes value hvalue
    rw [decodeValue] at hvalue
    split at hvalue
    · obtain rfl := Option.some.inj hvalue
      simp
    · simp at hvalue
  cases hv : valueOf raws field with
  | none => rfl
  | some bytes =>
    have htaken := valueOf_takes htakes hv
    rw [hkind] at htaken
    by_cases hlen : bytes.length = 4
    · simp [decodeValue, hlen]
    · simp [decodeValue, hlen] at htaken

/-- A field that the table does not have is not written. -/
theorem numberWritten_absent (h : decodeItems kindOf raws = some items) {n : Nat} (hkind : kindOf n = none) :
    numberWritten items n = none := by
  have hfield : ∀ it ∈ items, it.field ≠ n := by
    intro it hit hn
    obtain ⟨kind, _, hk, _⟩ := decodeItems_mem h it hit
    rw [hn, hkind] at hk
    simp at hk
  rw [numberWritten, List.findSome?_eq_none_iff]
  intro it hit
  cases it.value <;> simp [hfield it hit]

/-- A number field after a request: the written number, clamped, or the one held. -/
theorem numberWritten_held (h : decodeItems kindOf raws = some items) {n : Nat} {field : Byte} {lo hi : Int}
    {ranges : Ranges} (hn : field.toNat = n) (hkind : kindOf n = some (.num lo hi))
    (hrange : ranges.lookup field = some (lo, hi)) (htakes : takesItems kindOf raws = true) (old : Int) :
    (numberWritten items n).getD old = heldNumber ranges raws field old := by
  rw [numberWritten_decoded h hn hkind htakes, heldNumber, hrange]
  cases valueOf raws field <;> rfl

theorem numberWritten_kept (h : decodeItems kindOf raws = some items) {n : Nat} {field : Byte} {ranges : Ranges}
    (hkind : kindOf n = none) (hrange : ranges.lookup field = none) (old : Int) :
    (numberWritten items n).getD old = heldNumber ranges raws field old := by
  rw [numberWritten_absent h hkind, heldNumber, hrange]
  cases valueOf raws field <;> rfl

theorem numberWritten_isSome (h : decodeItems kindOf raws = some items) {n : Nat} {field : Byte} {lo hi : Int}
    (hn : field.toNat = n) (hkind : kindOf n = some (.num lo hi)) (htakes : takesItems kindOf raws = true) :
    (numberWritten items n).isSome = named raws field := by
  rw [numberWritten_decoded h hn hkind htakes, named, Option.isSome_map]

/-- A kind whose values are one byte, read as a code. -/
def FieldKind.oneByte : FieldKind → Bool
  | .code _ => true
  | .anyCode => true
  | .num _ _ => false
  | .ident => false
  | .pulseWidth => false

theorem decodeValue_oneByte {kind : FieldKind} {bytes : List Byte} {value : FieldValue} (hkind : kind.oneByte = true)
    (h : decodeValue kind bytes = some value) : ∃ c : Byte, bytes = [c] ∧ value = .code c.toNat := by
  have one : ∀ {bytes : List Byte}, bytes.length = 1 → ∃ c : Byte, bytes = [c] ∧ numberOf bytes = c.toNat := by
    intro bytes hlen
    obtain ⟨c, rfl⟩ := List.length_eq_one_iff.1 hlen
    exact ⟨c, rfl, by simp [numberOf]⟩
  cases kind with
  | code listed =>
    rw [decodeValue] at h
    split at h
    · next hbytes =>
      obtain ⟨c, hc, hnumber⟩ := one hbytes.1
      exact ⟨c, hc, by rw [← hnumber, Option.some.inj h]⟩
    · simp at h
  | anyCode =>
    rw [decodeValue] at h
    split at h
    · next hbytes =>
      obtain ⟨c, hc, hnumber⟩ := one hbytes
      exact ⟨c, hc, by rw [← hnumber, Option.some.inj h]⟩
    · simp at h
  | num _ _ => simp [FieldKind.oneByte] at hkind
  | ident => simp [FieldKind.oneByte] at hkind
  | pulseWidth => simp [FieldKind.oneByte] at hkind

/-- The value that items give a field of one byte. -/
theorem valueOf_oneByte {field : Byte} {kind : FieldKind} {bytes : List Byte} (htakes : takesItems kindOf raws = true)
    (hkind : kindOf field.toNat = some kind) (hone : kind.oneByte = true) (h : valueOf raws field = some bytes) :
    ∃ c : Byte, bytes = [c] ∧ decodeValue kind bytes = some (.code c.toNat) := by
  have htaken := valueOf_takes htakes h
  rw [hkind, Option.bind_some] at htaken
  obtain ⟨value, hvalue⟩ := Option.isSome_iff_exists.1 htaken
  obtain ⟨c, hc, rfl⟩ := decodeValue_oneByte hone hvalue
  exact ⟨c, hc, hvalue⟩

/-- A field of one byte after a request: what the written code stands for, or what was held. -/
theorem codeWritten_held {α : Type} (h : decodeItems kindOf raws = some items) {n : Nat} {field : Byte}
    {kind : FieldKind} (hn : field.toNat = n) (hkind : kindOf n = some kind) (hone : kind.oneByte = true)
    (htakes : takesItems kindOf raws = true) {read : Nat → α} {meaning : Byte → α}
    (hmeaning : ∀ c : Byte, read c.toNat = meaning c) (old : α) :
    ((codeWritten items n).map read).getD old = heldCode raws field meaning old := by
  subst hn
  rw [codeWritten, findSome_decoded _ hkind ?other ?self h]
  case other =>
    intro m value hm _
    cases value <;> simp [hm]
  case self =>
    intro bytes value hvalue
    obtain ⟨c, _, rfl⟩ := decodeValue_oneByte hone hvalue
    simp
  unfold heldCode
  cases hv : valueOf raws field with
  | none => rfl
  | some bytes =>
    obtain ⟨c, rfl, hdecoded⟩ := valueOf_oneByte htakes hkind hone hv
    simp [hdecoded, hmeaning]

/-- A flag after a request: the written one, or the one held. -/
theorem flagWritten_held (h : decodeItems kindOf raws = some items) {n : Nat} {field : Byte} {kind : FieldKind}
    (hn : field.toNat = n) (hkind : kindOf n = some kind) (hone : kind.oneByte = true)
    (htakes : takesItems kindOf raws = true) (old : Bool) :
    (flagWritten items n).getD old = heldFlag raws field old := by
  have hmeaning : ∀ c : Byte, (c.toNat == 1) = (c == 1) := by
    intro c
    rw [Bool.eq_iff_iff, beq_iff_eq, beq_iff_eq, BitVec.toNat_eq]
    rfl
  exact codeWritten_held h hn hkind hone htakes hmeaning old

end Sys2Proof.Machine

/-! SUPPORT. What each table takes of a request's items, and when a number is clamped (R15, R52, R65, R91, R97, R120, R155,
R182, R198). -/

namespace Sys2Proof.Machine

/-! ## Values that a kind of field allows -/

theorem decodeValue_num_isSome (lo hi : Int) (bytes : List Byte) :
    (decodeValue (.num lo hi) bytes).isSome = (bytes.length == 4) := by
  rw [decodeValue, Bool.eq_iff_iff]
  split <;> simp_all

theorem decodeValue_pulseWidth_isSome (bytes : List Byte) :
    (decodeValue .pulseWidth bytes).isSome = (bytes.length == 4) := by
  rw [decodeValue, Bool.eq_iff_iff]
  split <;> simp_all

theorem decodeValue_anyCode_isSome (bytes : List Byte) :
    (decodeValue .anyCode bytes).isSome = (bytes.length == 1) := by
  rw [decodeValue, Bool.eq_iff_iff]
  split <;> simp_all

theorem decodeValue_ident_isSome (bytes : List Byte) :
    (decodeValue .ident bytes).isSome = (bytes.length == 6 || bytes.length == 0) := by
  rw [decodeValue, Bool.eq_iff_iff]
  split
  · simp_all
  · split <;> simp_all

theorem decodeValue_code_isSome (listed : List Byte) (bytes : List Byte) :
    (decodeValue (.code (listed.map BitVec.toNat)) bytes).isSome = listed.any (fun n => bytes == [n]) := by
  have hone : (bytes.length = 1 ∧ numberOf bytes ∈ listed.map BitVec.toNat) ↔ ∃ n ∈ listed, bytes = [n] := by
    constructor
    · rintro ⟨hlen, hmem⟩
      obtain ⟨c, rfl⟩ := List.length_eq_one_iff.1 hlen
      obtain ⟨n, hn, hc⟩ := List.mem_map.1 hmem
      refine ⟨n, hn, ?_⟩
      rw [BitVec.eq_of_toNat_eq (show c.toNat = n.toNat by simpa [numberOf] using hc.symm)]
    · rintro ⟨n, hn, rfl⟩
      exact ⟨rfl, List.mem_map.2 ⟨n, hn, by simp [numberOf]⟩⟩
  rw [decodeValue, Bool.eq_iff_iff]
  split
  · next h => simpa using hone.1 h
  · next h => simpa using fun x hx he => h (hone.2 ⟨x, hx, he⟩)

/-! ## The items that each table takes -/

/-- A field's kind and a list of ranges and codes take the same values. -/
theorem admits_eq {kindOf : Nat → Option FieldKind} {ranges : Ranges} {codes : List (Byte × List Byte)}
    {others : RawItem → Bool}
    (h : ∀ it : RawItem, takesItem kindOf it =
      ((ranges.any (fun r => r.1 == it.field) && it.value.length == 4) ||
        codes.any (fun c => c.1 == it.field && c.2.any (fun n => it.value == [n])) || others it))
    (items : List RawItem) : admits ranges codes others items = takesItems kindOf items := by
  unfold admits takesItems
  congr 2
  funext it
  rw [h]

theorem byte_beq (a b : Byte) : (a == b) = (a.toNat == b.toNat) := by
  rw [Bool.eq_iff_iff, beq_iff_eq, beq_iff_eq, BitVec.toNat_eq]

theorem onOff_isSome (bytes : List Byte) :
    (decodeValue onOff bytes).isSome = [0#8, 1#8].any (fun n => bytes == [n]) :=
  decodeValue_code_isSome [0#8, 1#8] bytes

theorem recordAdmits_eq (items : List RawItem) : recordAdmits items = takesItems recordFields items := by
  refine admits_eq (fun it => ?_) items
  unfold takesItem recordRanges
  simp only [byte_beq, List.any_cons, List.any_nil]
  generalize it.field.toNat = n
  rcases n with _ | _ | _ | _ | _ | _ | _ | _ | _ | _ | _ | n <;>
    simp [recordFields, decodeValue_num_isSome, decodeValue_ident_isSome, onOff_isSome]

theorem slotAdmits_eq (k : SlotIx) (items : List RawItem) : slotAdmits k items = takesItems (slotFields k) items := by
  refine admits_eq (fun it => ?_) items
  unfold takesItem slotRanges
  simp only [byte_beq]
  generalize it.field.toNat = n
  fin_cases k <;> rcases n with _ | _ | _ | _ | _ | _ | _ | _ | _ | _ | n <;>
    simp [slotFields, lineSlot, decodeValue_num_isSome, onOff_isSome, nothingElse]

theorem portAdmits_eq (items : List RawItem) : portAdmits items = takesItems portFields items := by
  refine admits_eq (fun it => ?_) items
  have hmode := decodeValue_code_isSome [0#8, 1#8] it.value
  unfold takesItem portRanges
  simp only [byte_beq, List.any_cons, List.any_nil]
  generalize it.field.toNat = n
  rcases n with _ | _ | _ | _ | n <;>
    simp_all [portFields, decodeValue_num_isSome, onOff_isSome, nothingElse]

theorem pairAdmits_eq (items : List RawItem) : pairAdmits items = takesItems pairFields items := by
  refine admits_eq (fun it => ?_) items
  unfold takesItem pairRanges
  simp only [byte_beq, List.any_cons, List.any_nil]
  generalize it.field.toNat = n
  rcases n with _ | _ | _ | n <;> simp [pairFields, decodeValue_num_isSome, onOff_isSome, nothingElse]

theorem hubAdmits_eq (items : List RawItem) : hubAdmits items = takesItems hubFields items := by
  refine admits_eq (fun it => ?_) items
  have hclass := decodeValue_code_isSome [0#8, 1#8, 2#8] it.value
  unfold takesItem hubRanges
  simp only [byte_beq, List.any_cons, List.any_nil]
  generalize it.field.toNat = n
  rcases n with _ | _ | _ | _ | _ | _ | _ | n <;>
    simp_all [hubFields, decodeValue_num_isSome, decodeValue_anyCode_isSome, onOff_isSome]

theorem oscillatorAdmits_eq (items : List RawItem) : oscillatorAdmits items = takesItems oscillatorFields items := by
  refine admits_eq (fun it => ?_) items
  unfold takesItem oscillatorRanges
  simp only [byte_beq, List.any_cons, List.any_nil]
  generalize it.field.toNat = n
  rcases n with _ | _ | _ | _ | _ | _ | n <;> simp [oscillatorFields, decodeValue_num_isSome, nothingElse]

theorem alarmAdmits_eq (items : List RawItem) : alarmAdmits items = takesItems alarmFields items := by
  refine admits_eq (fun it => ?_) items
  have hthreshold := decodeValue_code_isSome [1#8, 2#8, 3#8, 4#8, 5#8] it.value
  have hmode := decodeValue_code_isSome [0#8, 1#8] it.value
  unfold takesItem
  simp only [byte_beq, List.any_cons, List.any_nil]
  generalize it.field.toNat = n
  rcases n with _ | _ | _ | _ | _ | _ | _ | _ | _ | _ | n <;>
    simp_all [alarmFields, decodeValue_pulseWidth_isSome, onOff_isSome]

/-! ## Clamped numbers (R191, R198) -/

/-- A written number lies outside the range of its field. -/
def outside (kind : Option FieldKind) (v : Int) : Bool :=
  match kind with
  | some (.num lo hi) => decide (v < lo) || decide (hi < v)
  | _ => false

/-- A table's number fields: their ranges are those listed for it, the least value first, and none is a pulse width. -/
structure RangesOf (kindOf : Nat → Option FieldKind) (ranges : Ranges) : Prop where
  listed : ∀ (field : Byte) (v : Int),
    ranges.any (fun r => r.1 == field && (decide (v < r.2.1) || decide (r.2.2 < v))) = outside (kindOf field.toNat) v
  ordered : ∀ n lo hi, kindOf n = some (.num lo hi) → lo ≤ hi
  width : ∀ n, kindOf n ≠ some .pulseWidth

theorem recordRanges_of : RangesOf recordFields recordRanges where
  listed field v := by
    unfold recordRanges
    simp only [byte_beq, List.any_cons, List.any_nil]
    generalize field.toNat = n
    rcases n with _ | _ | _ | _ | _ | _ | _ | _ | _ | _ | _ | n <;> simp [recordFields, outside, onOff]
  ordered n lo hi h := by
    unfold recordFields at h
    split at h <;> simp [onOff] at h <;> omega
  width n := by
    unfold recordFields
    split <;> simp [onOff]

theorem portRanges_of : RangesOf portFields portRanges where
  listed field v := by
    unfold portRanges
    simp only [byte_beq, List.any_cons, List.any_nil]
    generalize field.toNat = n
    rcases n with _ | _ | _ | _ | n <;> simp [portFields, outside, onOff]
  ordered n lo hi h := by
    unfold portFields at h
    split at h <;> simp [onOff] at h <;> omega
  width n := by
    unfold portFields
    split <;> simp [onOff]

theorem pairRanges_of : RangesOf pairFields pairRanges where
  listed field v := by
    unfold pairRanges
    simp only [byte_beq, List.any_cons, List.any_nil]
    generalize field.toNat = n
    rcases n with _ | _ | _ | n <;> simp [pairFields, outside, onOff]
  ordered n lo hi h := by
    unfold pairFields at h
    split at h <;> simp [onOff] at h <;> omega
  width n := by
    unfold pairFields
    split <;> simp [onOff]

theorem hubRanges_of : RangesOf hubFields hubRanges where
  listed field v := by
    unfold hubRanges
    simp only [byte_beq, List.any_cons, List.any_nil]
    generalize field.toNat = n
    rcases n with _ | _ | _ | _ | _ | _ | _ | n <;> simp [hubFields, outside, onOff]
  ordered n lo hi h := by
    unfold hubFields at h
    split at h <;> simp [onOff] at h <;> omega
  width n := by
    unfold hubFields
    split <;> simp [onOff]

theorem oscillatorRanges_of : RangesOf oscillatorFields oscillatorRanges where
  listed field v := by
    unfold oscillatorRanges
    simp only [byte_beq, List.any_cons, List.any_nil]
    generalize field.toNat = n
    rcases n with _ | _ | _ | _ | _ | _ | n <;> simp [oscillatorFields, outside]
  ordered n lo hi h := by
    unfold oscillatorFields at h
    split at h <;> simp at h <;> omega
  width n := by
    unfold oscillatorFields
    split <;> simp

theorem slotRanges_of (k : SlotIx) : RangesOf (slotFields k) (slotRanges k) where
  listed field v := by
    unfold slotRanges
    simp only [byte_beq]
    generalize field.toNat = n
    fin_cases k <;> rcases n with _ | _ | _ | _ | _ | _ | _ | _ | _ | _ | n <;>
      simp [slotFields, lineSlot, outside, onOff]
  ordered n lo hi h := by
    unfold slotFields at h
    split at h <;> (try split at h) <;> simp [onOff] at h <;> omega
  width n := by
    unfold slotFields
    split <;> (try split) <;> simp [onOff]

/-- A decoded value is a number that was clamped (R191). -/
def FieldValue.clamped : FieldValue → Bool
  | .num _ c => c
  | .code _ => false
  | .ident _ => false

theorem anyClamped_cons (it : Item) (rest : List Item) :
    anyClamped (it :: rest) = (it.value.clamped || anyClamped rest) := by
  cases h : it.value <;> simp [anyClamped, h, FieldValue.clamped]

/-- A decoded value is marked as clamped exactly when it is a number outside its range. -/
theorem clamped_iff_outside {kind : FieldKind} {bytes : List Byte} {value : FieldValue} (hwidth : kind ≠ .pulseWidth)
    (hordered : ∀ lo hi, kind = .num lo hi → lo ≤ hi) (h : decodeValue kind bytes = some value) :
    value.clamped = outside (some kind) (signedNumberOf bytes) := by
  cases kind with
  | num lo hi =>
    rw [decodeValue] at h
    split at h
    · obtain rfl := Option.some.inj h
      have hle := hordered lo hi rfl
      have houtside : (clampTo lo hi (signedNumberOf bytes) != signedNumberOf bytes) =
          (decide (signedNumberOf bytes < lo) || decide (hi < signedNumberOf bytes)) := by
        rw [Bool.eq_iff_iff]
        simp only [bne_iff_ne, Bool.or_eq_true, decide_eq_true_eq, clampTo]
        omega
      exact houtside
    · simp at h
  | code listed =>
    obtain ⟨c, _, rfl⟩ := decodeValue_oneByte rfl h
    rfl
  | anyCode =>
    obtain ⟨c, _, rfl⟩ := decodeValue_oneByte rfl h
    rfl
  | ident =>
    rw [decodeValue] at h
    split at h
    · obtain rfl := Option.some.inj h
      rfl
    · split at h
      · obtain rfl := Option.some.inj h
        rfl
      · simp at h
  | pulseWidth => exact absurd rfl hwidth

/-- The reply has the clamped flag exactly when a number was written outside its range. -/
theorem anyClamped_eq {kindOf : Nat → Option FieldKind} {ranges : Ranges} {raws : List RawItem} {items : List Item}
    (hranges : RangesOf kindOf ranges) (h : decodeItems kindOf raws = some items) :
    anyClamped items = clampsAny ranges raws := by
  induction raws generalizing items with
  | nil =>
    obtain rfl := Option.some.inj h
    rfl
  | cons raw rest ih =>
    rw [decodeItems_cons, Option.bind_eq_some_iff] at h
    obtain ⟨value, hvalue, h⟩ := h
    obtain ⟨others, hothers, rfl⟩ := Option.map_eq_some_iff.1 h
    obtain ⟨kind, hkind, hdecoded⟩ := Option.bind_eq_some_iff.1 hvalue
    have hclamped := clamped_iff_outside (fun hk => hranges.width _ (hk ▸ hkind))
      (fun lo hi hk => hranges.ordered _ lo hi (hk ▸ hkind)) hdecoded
    rw [← hkind, ← hranges.listed] at hclamped
    have hrest := ih hothers
    unfold clampsAny at *
    rw [anyClamped_cons, List.any_cons, hrest, ← hclamped]

end Sys2Proof.Machine

/-! SUPPORT. The machine and the resets: every command completes, and what the resets leave (R18, R19, R38, R62, R89, R90,
R117, R137, R168, R177, R184, R196). -/

namespace Sys2Proof.Machine

/-- Settles O1: a step is `exec` of the front command, and idles on an empty queue, by definition. -/
theorem stepRunsTheFrontCommand : Obligations.StepRunsTheFrontCommand :=
  ⟨fun _ _ _ => rfl, fun _ => rfl⟩

/-! ## Every command completes (R177) -/

/-- Outside a reset, and with no loading next in the queue, the end of a command loads the buffer. -/
theorem settle_alarm {waiting : List Instr} {p : Part} (hheld : p.held = false)
    (hnext : waiting.head? ≠ some .alarmBufferLoad) : (settle waiting p).alarm = p.alarm.load := by
  rw [settle, if_neg hnext, loadIfDue, if_neg (ne_true_of_eq_false hheld)]

/-- Settles O2: every command is done on the part alone, and its end loads an empty buffer. -/
theorem everyCommandCompletesAndLoadsTheBuffer : Obligations.EveryCommandCompletesAndLoadsTheBuffer := by
  intro c s
  refine ⟨_, exec_done c s, rfl, fun hheld hnext hempty => ?_⟩
  have halarm : (settle s.pending (commandWork c s.part)).alarm = (commandWork c s.part).alarm.load :=
    settle_alarm ((settle_held _ _).symm.trans hheld) hnext
  rw [halarm] at hempty ⊢
  exact AlarmUnit.load_empty _ hempty

/-! ## Power-on reset (R18, R89) -/

@[simp] theorem resetTables_input (p : Part) (k : SlotIx) : (resetTables p).input k = {} := by
  simp [resetTables, Part.input]

@[simp] theorem resetTables_port (p : Part) (q : PortIx) : (resetTables p).port q = {} := by
  simp [resetTables, Part.port]

@[simp] theorem resetTables_engine (p : Part) (q : PortIx) : (resetTables p).engine q = {} := by
  simp [resetTables, Part.engine]

@[simp] theorem resetTables_pair (p : Part) (k : PairIx) : (resetTables p).pair k = {} := by
  simp [resetTables, Part.pair]

/-- The part that a power-on reset leaves while PORn is asserted, with no transaction open: only what the latest
transaction clocked out, the last reset and the line clock are as before. -/
theorem assertPorn_eq {p : Part} (hwrst : p.wrst = false) (hnone : p.mgmt.transaction = none) :
    assertPorn p =
      { lineClock := p.lineClock, slots := resetSlots, porn := true
        mgmt := { lastReset := p.mgmt.lastReset, spiOut := p.mgmt.spiOut } } := by
  simp [assertPorn, resetTables, MgmtPort.reset, hwrst, hnone]

theorem allSlots_eq : allSlots = [0, 1, 2, 3, 4, 5] := by decide

/-- The line clock's reading at the release of PORn, where the raw oscillator has counted nothing (R29; log entry 45). -/
theorem lineReading_released {p : Part} {sinceEdge : Option Nat} (htb : p.tb = { hso := true })
    (hclock : p.lineClock = releasedClock 0 sinceEdge) :
    p.lineReading = { phase := (sinceEdge.getD 0 : Nat), raw := 0 } := by
  have hraw : p.tb.rawCount = 0 := by
    rw [htb]
    rfl
  simp [Part.lineReading, LineClock.phase, hraw, hclock, releasedClock, toQ]

/-- The inputs after the release of PORn (R29, R38). -/
theorem releaseInputs_eq {p : Part} {sinceEdge : Option Nat} (hinputs : p.inputs = Vector.replicate 6 {})
    (hslots : p.slots = resetSlots) (htb : p.tb = { hso := true }) (hclock : p.lineClock = releasedClock 0 sinceEdge) :
    releaseInputs p =
      { p with
        inputs :=
          releasedInputs.set 3
            { wholeSecond := true
              lineStart := sinceEdge.map (fun since => { phase := (since : Int), raw := 0 }) } } := by
  have hreleased : forEach allSlots (fun k => withInput k (releasedInput k)) p = { p with inputs := releasedInputs } := by
    rw [allSlots_eq]
    simp only [forEach, List.foldl_cons, List.foldl_nil, withInput, Part.setInput, Part.input, hinputs]
    rfl
  have hreading := lineReading_released (p := { p with inputs := releasedInputs }) htb hclock
  have hrunning : Part.running { p with inputs := releasedInputs } lineSlot = true := by
    simp only [Part.running, Part.slot, hslots]
    rfl
  have hstart : (if Part.running { p with inputs := releasedInputs } lineSlot && p.lineClock.present then
      some { phase := ((sinceEdge.getD 0 : Nat) : Int), raw := 0 } else none) =
      sinceEdge.map (fun since => ({ phase := (since : Int), raw := 0 } : LineReading)) := by
    rw [hrunning, hclock]
    cases sinceEdge <;> rfl
  rw [releaseInputs, hreleased, beginLine, withInput, hreading, ← hstart]
  rfl

/-- The RESTART entry of a power-on reset, formed with FREE_RUN, is loaded at the release (R184). -/
theorem released_alarm {p : Part} (halarm : p.alarm = {}) (hhub : p.hub = {}) :
    (raiseHub .freeRun (report (p.restartReport .powerOn) p)).alarm.load = State.reset.part.alarm := by
  simp only [raiseHub, Part.restartReport, Part.hubReport, report_alarm, report_hub, halarm, hhub]
  rfl

theorem unlessHeld_of_free {f : Part → Part} {p : Part} (h : p.held = false) : unlessHeld f p = f p :=
  if_neg (ne_true_of_eq_false h)

theorem loadIfDue_of_free {p : Part} (h : p.held = false) : loadIfDue p = { p with alarm := p.alarm.load } :=
  if_neg (ne_true_of_eq_false h)

/-- Settles O3: the assertion resets every block, and the release is worked out at the state that it gives. -/
theorem powerOnResetGivesTheResetState : Obligations.PowerOnResetGivesTheResetState := by
  intro s sinceEdge hwrst hnone
  have hassert : exec .pornAssert s = .next { s with part := assertPorn s.part } := by
    change commandDone assertPorn s = _
    rw [commandDone_next, settle_idle _ (.inr rfl)]
  refine ⟨_, hassert, rfl, rfl, rfl, rfl, rfl, rfl, rfl, resetTables_input s.part, resetTables_record s.part,
    resetTables_port s.part, resetTables_engine s.part, resetTables_pair s.part, rfl, rfl, rfl, rfl, ?_⟩
  rw [assertPorn_eq hwrst hnone]
  change commandDone (releasePorn sinceEdge) _ = _
  rw [commandDone_next]
  generalize hstart : ({ lineClock := releasedClock 0 sinceEdge, tb := { hso := true }, slots := resetSlots
                         mgmt := { spiOut := s.part.mgmt.spiOut } } : Part) = p
  have hinputs : releaseInputs (raiseHub .freeRun (report (p.restartReport .powerOn) p)) = _ :=
    releaseInputs_eq (p := raiseHub .freeRun (report (p.restartReport .powerOn) p)) (sinceEdge := sinceEdge)
      (by subst hstart; rfl) (by subst hstart; rfl) (by subst hstart; rfl) (by subst hstart; rfl)
  have halarm := released_alarm (p := p) (by subst hstart; rfl) (by subst hstart; rfl)
  have hheld : (raiseHub .freeRun (report (p.restartReport .powerOn) p)).held = false := by subst hstart; rfl
  have hrelease : releasePorn sinceEdge
      { lineClock := s.part.lineClock, slots := resetSlots, porn := true
        mgmt := { lastReset := s.part.mgmt.lastReset, spiOut := s.part.mgmt.spiOut } } =
      loadIfDue (unlessHeld releaseInputs (raiseHub .freeRun (report (p.restartReport .powerOn) p))) := by
    have hraw : ({} : TimeBase).rawCount = 0 := rfl
    subst hstart
    rw [releasePorn, if_pos rfl]
    dsimp only
    rw [hraw]
  rw [hrelease, unlessHeld_of_free hheld, hinputs, loadIfDue_of_free, settle_of_loaded _ rfl]
  · dsimp only
    rw [halarm]
    subst hstart
    simp only [releasedClock, Nat.cast_zero, zero_sub]
    rfl
  · exact hheld

/-! ## Warm reset (R19, R90) -/

/-- While a reset input is asserted the end of a command changes nothing (R184). -/
theorem settle_of_held (waiting : List Instr) {p : Part} (h : p.held = true) : settle waiting p = p := by
  simp [settle, loadIfDue, h]

/-- The list holds the RESTART entry of a warm reset alone, and the buffer is empty (R184). -/
structure AlarmUnit.RestartAlone (a : AlarmUnit) : Prop where
  settings : a.settings = {}
  buffer   : a.buffer = none
  entry    : ∃ e : Entry, a.list = [e] ∧ e.owner = .hub ∧ hasCondition e.raised .restart = true ∧ e.detail = some .warm

theorem hasCondition_or {m : BitVec 16} {c : Condition} (n : BitVec 16) (h : hasCondition m c = true) :
    hasCondition (m ||| n) c = true := by
  unfold hasCondition at *
  simp [h]

/-- A report of the hub without a detail joins the RESTART entry and leaves it one. -/
theorem AlarmUnit.RestartAlone.take {a : AlarmUnit} (h : a.RestartAlone) {r : Report} (howner : r.owner = .hub)
    (hdetail : r.detail = none) : (a.take r).RestartAlone := by
  obtain ⟨e, hlist, hhub, hraised, hwarm⟩ := h.entry
  refine ⟨(take_settings a r).trans h.settings, (take_buffer a r).trans h.buffer, ?_⟩
  by_cases henters : a.passesOn r = false ∨ a.atThreshold r = false
  · exact ⟨e, (take_list_of_not a r henters).trans hlist, hhub, hraised, hwarm⟩
  · obtain ⟨hpass, hat⟩ := not_or.1 henters
    have hentry : (a.updateStanding r).hasEntry .hub = true := by
      simp [AlarmUnit.hasEntry, hlist, hhub]
    refine ⟨e.merge r, ?_, hhub, ?_, ?_⟩
    · simp only [Bool.not_eq_false] at hpass hat
      simp [AlarmUnit.take, hpass, hat, AlarmUnit.enter, AlarmUnit.coalescedRecord, howner, AlarmUnit.putEntry, hentry,
        hlist, hhub]
    · simp only [Entry.merge]
      split
      · exact hasCondition_or _ hraised
      · exact hraised
    · simp [Entry.merge, hdetail, newer, hwarm]

section RestartAlone

variable {p : Part} (h : p.alarm.RestartAlone)
include h

theorem AlarmUnit.RestartAlone.raiseHub (c : Condition) : (raiseHub c p).alarm.RestartAlone :=
  h.take (r := p.hubReport c true) rfl rfl

theorem AlarmUnit.RestartAlone.clearHub (c : Condition) : (clearHub c p).alarm.RestartAlone :=
  h.take (r := p.hubReport c false) rfl rfl

theorem AlarmUnit.RestartAlone.followLimit (clamped : Bool) : (followLimit clamped p).alarm.RestartAlone := by
  unfold Machine.followLimit
  split
  · split
    · exact h
    · exact h.raiseHub _
  · exact h.clearHub _

theorem AlarmUnit.RestartAlone.predictCorrection : (predictCorrection p).alarm.RestartAlone := by
  unfold Machine.predictCorrection
  split
  · exact h
  · next r _ =>
    exact AlarmUnit.RestartAlone.followLimit
      (p := handOver (withHub (fun h => { h with correction := clampCorrection (r.correctionAt p.hub.t) }) p)) h _

theorem AlarmUnit.RestartAlone.compareBound : (compareBound false p).alarm.RestartAlone := by
  unfold Machine.compareBound
  split
  · exact AlarmUnit.RestartAlone.raiseHub (p := Machine.withHub _ p) h _
  · exact h

theorem AlarmUnit.RestartAlone.warmHoldover : (warmHoldover p).alarm.RestartAlone := by
  have entered : (Machine.raiseHub .holdover (advanceCause (startPrediction (warmBound p)))).alarm.RestartAlone :=
    AlarmUnit.RestartAlone.raiseHub (p := advanceCause (startPrediction (warmBound p))) h _
  exact entered.predictCorrection.compareBound

theorem AlarmUnit.RestartAlone.enterFreeRun : (enterFreeRun p).alarm.RestartAlone :=
  AlarmUnit.RestartAlone.raiseHub (p := correctionToF (withHub _ p)) h _

end RestartAlone

theorem warmStart_restartAlone (kind : ResetKind) (p : Part) : (warmStart kind p).alarm.RestartAlone :=
  ⟨rfl, rfl, _, rfl, rfl, hasCondition_mask .restart, rfl⟩

/-- The hub record after the entry to HOLDOVER in a warm reset (R85, R90). -/
theorem warmHoldover_hub (p : Part) :
    (warmHoldover p).hub =
      { p.hub with
        state :=
          if toQ p.hub.settings.holdoverLimit < max p.hub.bound (toQ p.osc.restart) then .holdoverExpired else .holdover
        grade := if toQ p.hub.settings.holdoverLimit < max p.hub.bound (toQ p.osc.restart) then .d else .c
        bound := max p.hub.bound (toQ p.osc.restart), t := 0, prediction := some (warmBound p).newPrediction
        causeNumber := nextCause p.hub.causeNumber
        correction := clampCorrection (if p.hub.averageValid then p.hub.average else p.hub.integrator) } := by
  have hrate : (warmBound p).newPrediction.correctionAt 0 =
      if p.hub.averageValid then p.hub.average else p.hub.integrator := by
    simp [Prediction.correctionAt, Part.newPrediction, warmBound, roundDiv]
    rfl
  have hpredicted : (predictCorrection (raiseHub .holdover (advanceCause (startPrediction (warmBound p))))).hub =
      { p.hub with
        state := .holdover, grade := .c, bound := max p.hub.bound (toQ p.osc.restart), t := 0
        prediction := some (warmBound p).newPrediction, causeNumber := nextCause p.hub.causeNumber
        correction := clampCorrection (if p.hub.averageValid then p.hub.average else p.hub.integrator) } := by
    rw [predictCorrection_hub]
    simp only [raiseHub_hub, advanceCause_hub, startPrediction_hub, hrate]
    rfl
  rw [warmHoldover_eq]
  obtain ⟨_, hover, hhub⟩ | ⟨hnot, hsame⟩ := compareBound_cases
    (predictCorrection (raiseHub .holdover (advanceCause (startPrediction (warmBound p))))) false
  · rw [hhub, hpredicted]
    rw [hpredicted] at hover
    simp only [if_pos hover]
    rfl
  · rw [hsame, hpredicted]
    rw [hpredicted] at hnot
    have hunder := fun hlt => hnot ⟨rfl, hlt⟩
    simp only [if_neg hunder]

theorem predictCorrection_next {p : Part} {r : Prediction} (h : p.hub.prediction = some r) :
    (predictCorrection p).tb.next = (predictCorrection p).hub.correction := by
  simp only [predictCorrection, h, followLimit_tb, followLimit_hub]
  rfl

theorem warmHoldover_next (p : Part) : (warmHoldover p).tb.next = (warmHoldover p).hub.correction := by
  have hnext := predictCorrection_next
    (p := raiseHub .holdover (advanceCause (startPrediction (warmBound p)))) (r := (warmBound p).newPrediction) rfl
  rw [warmHoldover_eq, compareBound_tb, hnext]
  obtain ⟨_, _, hhub⟩ | ⟨_, hsame⟩ := compareBound_cases
    (predictCorrection (raiseHub .holdover (advanceCause (startPrediction (warmBound p))))) false
  · rw [hhub]
  · rw [hsame]

theorem warmHoldover_frame (p : Part) : HubFrame p (warmHoldover p) :=
  ((HubFrame.refl p).withHub _).trans (warmHoldover_steers p).frame

theorem warmHoldover_pendingStep (p : Part) : (warmHoldover p).tb.pendingStep = p.tb.pendingStep := by
  rw [warmHoldover_eq, compareBound_tb, predictCorrection_pendingStep]
  rfl

/-- A frame of the Discipline Unit with the fields of the Time Base that it does not cover. -/
theorem HubFrame.tb_eq {p q : Part} (h : HubFrame p q) :
    q.tb = { p.tb with next := q.tb.next, pendingStep := q.tb.pendingStep } := by
  rw [← h.tb]

/-- What a warm reset leaves, whether or not the hub was locked once (R19, R38, R62, R90, R117, R137, R168, R184, R196). -/
structure WarmReset (kind : ResetKind) (p q : Part) : Prop where
  frame : HubFrame (warmStart kind p) q
  next : q.tb.next = q.hub.correction
  pendingStep : q.tb.pendingStep = none
  selected : q.selected = none
  alarm : q.alarm.RestartAlone

theorem warmReset_leaves (kind : ResetKind) (p : Part) : WarmReset kind p (warmReset kind p) := by
  rw [warmReset_eq]
  split
  · exact
      { frame := warmHoldover_frame _, next := warmHoldover_next _, pendingStep := warmHoldover_pendingStep _
        selected := (warmHoldover_steers _).selected, alarm := (warmStart_restartAlone kind p).warmHoldover }
  · exact
      { frame := (HubFrame.refl _).enterFreeRun, next := rfl, pendingStep := rfl, selected := rfl
        alarm := (warmStart_restartAlone kind p).enterFreeRun }

theorem warmReset_hub_of_locked {p : Part} (kind : ResetKind) (h : p.hub.wasLocked = true) :
    (warmReset kind p).hub = (warmHoldover (warmStart kind p)).hub := by
  rw [warmReset_eq, if_pos (show (warmStart kind p).hub.wasLocked = true from h)]

theorem warmReset_hub_of_unlocked {p : Part} (kind : ResetKind) (h : p.hub.wasLocked = false) :
    (warmReset kind p).hub = (enterFreeRun (warmStart kind p)).hub := by
  rw [warmReset_eq, if_neg (show ¬ (warmStart kind p).hub.wasLocked = true from ne_true_of_eq_false h)]

theorem held_eq_false {p : Part} : p.held = false ↔ p.porn = false ∧ p.wrst = false := by
  simp [Part.held]

/-- The assertion of WRSTn outside a reset. -/
theorem exec_wrstnAssert {s : State} (h : s.part.held = false) :
    exec .wrstnAssert s = .next { s with part := { warmReset .warmPin s.part with wrst := true } } := by
  obtain ⟨hporn, hwrst⟩ := held_eq_false.1 h
  change commandDone assertWrst s = _
  have hassert : assertWrst s.part = { warmReset .warmPin s.part with wrst := true } := by
    simp [assertWrst, hporn, hwrst]
  rw [commandDone_next, hassert, settle_of_held _ (by simp [Part.held])]

/-- Settles O4: the tables are reset, and the hub record enters HOLDOVER with a new prediction or FREE_RUN. -/
theorem warmResetKeepsTheLearnedState : Obligations.WarmResetKeepsTheLearnedState := by
  intro s hheld
  obtain ⟨hporn, _⟩ := held_eq_false.1 hheld
  have reset := warmReset_leaves .warmPin s.part
  have htb : (warmReset .warmPin s.part).tb =
      { s.part.tb with pendingStep := none, next := (warmReset .warmPin s.part).hub.correction } := by
    rw [reset.frame.tb_eq, reset.pendingStep, reset.next]
    rfl
  refine ⟨_, exec_wrstnAssert hheld, rfl, rfl, reset.frame.porn.trans hporn, htb, reset.frame.osc, reset.frame.lineClock,
    reset.selected, reset.frame.slots, ?inputs, ?records, ?ports, ?engines, ?pairs, ?_⟩
  case inputs => exact fun k => by simp only [Part.input, reset.frame.inputs]; exact resetTables_input s.part k
  case records => exact fun i => by simp only [Part.record, reset.frame.records]; exact resetTables_record s.part i
  case ports => exact fun q => by simp only [Part.port, reset.frame.ports]; exact resetTables_port s.part q
  case engines => exact fun q => by simp only [Part.engine, reset.frame.engines]; exact resetTables_engine s.part q
  case pairs => exact fun k => by simp only [Part.pair, reset.frame.pairs]; exact resetTables_pair s.part k
  have hmgmt := reset.frame.mgmt
  refine ⟨congrArg MgmtPort.inbound hmgmt, congrArg MgmtPort.reply hmgmt, congrArg MgmtPort.resetSeen hmgmt,
    congrArg MgmtPort.lastReset hmgmt, reset.alarm.settings, reset.alarm.buffer, reset.alarm.entry, ?_⟩
  dsimp only
  cases hlocked : s.part.hub.wasLocked with
  | true =>
    rw [warmReset_hub_of_locked .warmPin hlocked, warmHoldover_hub]
    exact ⟨rfl, rfl, rfl, rfl, hlocked, rfl, rfl, rfl, rfl, rfl, rfl, rfl, rfl,
      fun _ => ⟨rfl, rfl, rfl, rfl, rfl, rfl, rfl⟩, nofun⟩
  | false =>
    rw [warmReset_hub_of_unlocked .warmPin hlocked, enterFreeRun_hub]
    exact ⟨rfl, rfl, rfl, rfl, hlocked, rfl, rfl, rfl, rfl, rfl, rfl, rfl, rfl, nofun,
      fun _ => ⟨rfl, rfl, rfl, rfl, rfl⟩⟩

/-! ## RESTART (R195) -/

section SetMgmt

variable (m : MgmtPort) (p : Part)

theorem predictCorrection_setMgmt :
    predictCorrection { p with mgmt := m } = { predictCorrection p with mgmt := m } := by
  have limit : ∀ (b : Bool) (q : Part), followLimit b { q with mgmt := m } = { followLimit b q with mgmt := m } := by
    intro b q
    unfold followLimit
    split
    · dsimp only
      split <;> rfl
    · rfl
  unfold predictCorrection
  dsimp only
  split
  · rfl
  · next r _ =>
    exact limit _
      (handOver (withHub (fun h => { h with correction := clampCorrection (r.correctionAt p.hub.t) }) p))

theorem compareBound_setMgmt (advance : Bool) :
    compareBound advance { p with mgmt := m } = { compareBound advance p with mgmt := m } := by
  unfold compareBound
  dsimp only
  split
  · cases advance <;> rfl
  · rfl

theorem warmHoldover_setMgmt : warmHoldover { p with mgmt := m } = { warmHoldover p with mgmt := m } := by
  rw [warmHoldover_eq, warmHoldover_eq, ← compareBound_setMgmt, ← predictCorrection_setMgmt]
  rfl

end SetMgmt

/-- The two kinds of warm reset differ in the kind that IDENT tells alone (R194). -/
theorem warmReset_kind (kind other : ResetKind) (p : Part) :
    warmReset kind p = { warmReset other p with mgmt := { (warmReset other p).mgmt with lastReset := kind } } := by
  have hmgmt : (warmReset other p).mgmt = (warmStart other p).mgmt := (warmReset_leaves other p).frame.mgmt
  have hstart : warmStart kind p =
      { warmStart other p with mgmt := { (warmStart other p).mgmt with lastReset := kind } } := rfl
  rw [hmgmt, warmReset_eq, warmReset_eq other, hstart]
  dsimp only
  split
  · exact warmHoldover_setMgmt _ _
  · rfl

theorem warmReset_held (kind : ResetKind) (p : Part) : (warmReset kind p).held = p.held := by
  have frame := (warmReset_leaves kind p).frame
  rw [Part.held, frame.porn, frame.wrst]
  rfl

/-- Settles O6: both ends of a reset make the loading themselves, and RESTART is the warm reset of WRSTn with its own
kind. -/
theorem warmResetsEndWithTheRestartNotice : Obligations.WarmResetsEndWithTheRestartNotice := by
  refine ⟨fun s e rest hwrst hporn hbuffer hlist => ?release, fun s tag hready => ?restart⟩
  case release =>
    have hheld : Part.held { s.part with wrst := false } = false := by simp [Part.held, hporn]
    change commandDone releaseWrst s = _
    rw [commandDone_next, releaseWrst, if_pos hwrst, loadIfDue_of_free hheld, settle_of_loaded _ rfl]
    simp only [AlarmUnit.load, hbuffer, hlist]
  case restart =>
    have hheld := hready.1
    refine ⟨_, exec_wrstnAssert hheld, ?_⟩
    have hact : handleRequest (0x02#8).toNat [] s.part = (restartPart s.part, { code := .done }) := rfl
    have hdone : Completes (.restart tag) s ((restartPart s.part).answer 0x02#8 tag { code := .done }) :=
      completes_request rfl hready (by simp) rfl hact
    have reset := warmReset_leaves .warmPin s.part
    have hmgt : (warmReset .warmPin s.part).mgmt.mgt = {} := congrArg MgmtPort.mgt reset.frame.mgmt
    have hwrst : (warmReset .warmPin s.part).wrst = false := reset.frame.wrst.trans (held_eq_false.1 hheld).2
    have hrestart : restartPart s.part =
        { warmReset .warmPin s.part with
          alarm := (warmReset .warmPin s.part).alarm.load
          mgmt := { (warmReset .warmPin s.part).mgmt with lastReset := .warmRequest } } := by
      rw [restartPart, loadIfDue_of_free ((warmReset_held _ _).trans hheld), warmReset_kind .warmRequest .warmPin]
    rw [hrestart] at hdone
    rw [hdone, settle_of_loaded _ rfl]
    simp only [Part.answer, load_settings, reset.alarm.settings, PulseLine.load, hmgt, hwrst]
    rfl

end Sys2Proof.Machine

/-! SUPPORT. What an operation may touch: a frame with the parts of the state that it is given leave to change, and the
leave that each shared operation needs. -/

namespace Sys2Proof.Machine

/-! ## Leave to change -/

/-- What may change: the hub record with the selection and the next correction, the pending step, the slots with their
inputs, the records, the ports, the engines and the pairs named, the entries of the owners named, and the standing
conditions, by owner and bit. -/
structure Access where
  hub     : Prop
  step    : Prop
  slots   : SlotIx → Prop
  records : RecordIx → Prop
  ports   : PortIx → Prop
  engines : PortIx → Prop
  pairs   : PairIx → Prop
  owners  : Owner → Prop
  marks   : Owner → Nat → Prop

/-- The entries of the list that one owner has. -/
def AlarmUnit.entriesOf (a : AlarmUnit) (o : Owner) : List Entry := a.list.filter (fun e => e.owner == o)

/-- From one Alarm Unit to another only the entries and the standing conditions given leave have changed. -/
structure AlarmWithin (A : Access) (a b : AlarmUnit) : Prop where
  settings : b.settings = a.settings
  buffer   : b.buffer = a.buffer
  alm      : b.alm = a.alm
  entries  : ∀ o, ¬ A.owners o → b.entriesOf o = a.entriesOf o
  marks    : ∀ o n, ¬ A.marks o n → (b.standingOf o).getLsbD n = (a.standingOf o).getLsbD n

/-- From one part to another only what is given leave has changed. -/
structure Within (A : Access) (p q : Part) : Prop where
  tb        : q.tb = { p.tb with next := q.tb.next, pendingStep := q.tb.pendingStep }
  step      : ¬ A.step → q.tb.pendingStep = p.tb.pendingStep
  next      : ¬ A.hub → q.tb.next = p.tb.next
  hub       : ¬ A.hub → q.hub = p.hub
  selected  : ¬ A.hub → q.selected = p.selected
  osc       : q.osc = p.osc
  lineClock : q.lineClock = p.lineClock
  mgmt      : q.mgmt = p.mgmt
  porn      : q.porn = p.porn
  wrst      : q.wrst = p.wrst
  alarm     : AlarmWithin A p.alarm q.alarm
  slots     : ∀ k, ¬ A.slots k → q.slot k = p.slot k
  inputs    : ∀ k, ¬ A.slots k → q.input k = p.input k
  records   : ∀ i, ¬ A.records i → q.record i = p.record i
  ports     : ∀ x, ¬ A.ports x → q.port x = p.port x
  engines   : ∀ x, ¬ A.engines x → q.engine x = p.engine x
  pairs     : ∀ k, ¬ A.pairs k → q.pair k = p.pair k

/-! ## Reports -/

theorem entriesOf_putEntry_ne {a : AlarmUnit} {o x : Owner} {f : Entry → Entry} {e : Entry} (hne : o ≠ x)
    (hf : ∀ y, (f y).owner = y.owner) (he : e.owner = o) : (a.putEntry o f e).entriesOf x = a.entriesOf x := by
  unfold AlarmUnit.putEntry AlarmUnit.entriesOf
  split
  · have kept : ∀ l : List Entry,
        (l.map (fun y => if y.owner = o then f y else y)).filter (fun y => y.owner == x) =
          l.filter (fun y => y.owner == x) := by
      intro l
      induction l with
      | nil => rfl
      | cons y rest ih =>
        rw [List.map_cons, List.filter_cons, List.filter_cons, ih]
        by_cases hy : y.owner = o
        · simp [hy, hf, hne]
        · simp [hy]
    exact kept a.list
  · simp [he, hne]

/-- The standing condition that a report moves is that of its owner and its bit. -/
theorem updateStanding_getLsbD {a : AlarmUnit} {r : Report} {o : Owner} {n : Nat}
    (h : r.condition.standing = true → ¬ (r.owner = o ∧ r.condition.bit = n)) :
    ((a.updateStanding r).standingOf o).getLsbD n = (a.standingOf o).getLsbD n := by
  unfold AlarmUnit.updateStanding
  by_cases hs : r.condition.standing = true
  · rw [if_pos hs]
    have hne := h hs
    by_cases ho : r.owner = o
    · have hbit : r.condition.bit ≠ n := fun hn => hne ⟨ho, hn⟩
      have hmask : r.condition.mask.getLsbD n = false := by
        simp only [Condition.mask, BitVec.getLsbD_shiftLeft, BitVec.getLsbD_one, Bool.and_eq_false_imp,
          decide_eq_false_iff_not]
        intro hlt
        simp only [Bool.and_eq_true, decide_eq_true_eq, Bool.not_eq_true', decide_eq_false_iff_not] at hlt
        omega
      split
      · rw [standingOf_setStanding, if_pos ho, BitVec.getLsbD_or, hmask, Bool.or_false, ho]
      · rw [standingOf_setStanding, if_pos ho, BitVec.getLsbD_and, BitVec.getLsbD_not, hmask, ho]
        by_cases hn : n < 16
        · simp [hn]
        · simp [BitVec.getLsbD_of_ge _ _ (Nat.le_of_not_lt hn)]
    · split <;> rw [standingOf_setStanding, if_neg ho]
  · rw [if_neg hs]

/-- Leave to make a report: on its owner's entry and its standing condition, and on the hub's entry when it may be
coalesced. -/
structure Access.Reports (A : Access) (r : Report) : Prop where
  owner     : A.owners r.owner
  coalesced : r.ancillary = true → A.owners .hub
  mark      : r.condition.standing = true → A.marks r.owner r.condition.bit

namespace AlarmWithin

variable {A : Access} {a b c : AlarmUnit}

theorem refl (A : Access) (a : AlarmUnit) : AlarmWithin A a a := ⟨rfl, rfl, rfl, fun _ _ => rfl, fun _ _ _ => rfl⟩

theorem trans (h : AlarmWithin A a b) (g : AlarmWithin A b c) : AlarmWithin A a c where
  settings := g.settings.trans h.settings
  buffer := g.buffer.trans h.buffer
  alm := g.alm.trans h.alm
  entries o ho := (g.entries o ho).trans (h.entries o ho)
  marks o n ho := (g.marks o n ho).trans (h.marks o n ho)

theorem updateStanding (A : Access) (a : AlarmUnit) {r : Report}
    (hmark : r.condition.standing = true → A.marks r.owner r.condition.bit) : AlarmWithin A a (a.updateStanding r) where
  settings := updateStanding_settings a r
  buffer := updateStanding_buffer a r
  alm := updateStanding_alm a r
  entries o _ := by rw [AlarmUnit.entriesOf, updateStanding_list]; rfl
  marks o n hn := updateStanding_getLsbD (fun hs ⟨ho, hb⟩ => hn (ho ▸ hb ▸ hmark hs))

theorem enter (A : Access) (a : AlarmUnit) {r : Report} (howner : A.owners r.owner)
    (hcoalesced : r.ancillary = true → A.owners .hub) : AlarmWithin A a (a.enter r) where
  settings := enter_settings a r
  buffer := enter_buffer a r
  alm := enter_alm a r
  entries o ho := by
    unfold AlarmUnit.enter
    split
    · next i hi =>
      have hancillary : r.ancillary = true := by
        by_contra hnot
        rw [coalescedRecord_of_not_ancillary a (by simpa using hnot)] at hi
        simp at hi
      exact entriesOf_putEntry_ne (fun h => ho (h ▸ hcoalesced hancillary)) (fun _ => rfl) rfl
    · exact entriesOf_putEntry_ne (fun h => ho (h ▸ howner)) (fun _ => rfl) rfl
  marks o n _ := by rw [enter_standing]

theorem take (A : Access) (a : AlarmUnit) {r : Report} (hr : A.Reports r) : AlarmWithin A a (a.take r) := by
  unfold AlarmUnit.take
  split
  · split
    · exact (updateStanding A a hr.mark).trans (enter A _ hr.owner hr.coalesced)
    · exact updateStanding A a hr.mark
  · exact refl A a

end AlarmWithin

/-! ## The primitive operations -/

/-- What is given leave and what is not are two things. -/
theorem ne_of_leave {α : Type} {leave : α → Prop} {x y : α} (hx : leave x) (hy : ¬ leave y) : x ≠ y :=
  fun h => hy (h ▸ hx)

namespace Within

variable {A : Access} {p q r : Part}

theorem refl (A : Access) (p : Part) : Within A p p where
  tb := rfl
  step _ := rfl
  next _ := rfl
  hub _ := rfl
  selected _ := rfl
  osc := rfl
  lineClock := rfl
  mgmt := rfl
  porn := rfl
  wrst := rfl
  alarm := .refl A _
  slots _ _ := rfl
  inputs _ _ := rfl
  records _ _ := rfl
  ports _ _ := rfl
  engines _ _ := rfl
  pairs _ _ := rfl

theorem trans (h : Within A p q) (g : Within A q r) : Within A p r where
  tb := by rw [g.tb, h.tb]
  step s := (g.step s).trans (h.step s)
  next s := (g.next s).trans (h.next s)
  hub s := (g.hub s).trans (h.hub s)
  selected s := (g.selected s).trans (h.selected s)
  osc := g.osc.trans h.osc
  lineClock := g.lineClock.trans h.lineClock
  mgmt := g.mgmt.trans h.mgmt
  porn := g.porn.trans h.porn
  wrst := g.wrst.trans h.wrst
  alarm := h.alarm.trans g.alarm
  slots k s := (g.slots k s).trans (h.slots k s)
  inputs k s := (g.inputs k s).trans (h.inputs k s)
  records k s := (g.records k s).trans (h.records k s)
  ports k s := (g.ports k s).trans (h.ports k s)
  engines k s := (g.engines k s).trans (h.engines k s)
  pairs k s := (g.pairs k s).trans (h.pairs k s)

/-- A test that leads to one of two kept outcomes. -/
theorem ite {c : Prop} [Decidable c] (h : Within A p q) (g : Within A p r) : Within A p (if c then q else r) := by
  split
  · exact h
  · exact g

/-- A test that leads to one of two kept outcomes, where the test tells what leave there is. -/
theorem dite {c : Prop} [Decidable c] (h : c → Within A p q) (g : ¬ c → Within A p r) :
    Within A p (if c then q else r) := by
  split
  · exact h ‹_›
  · exact g ‹_›

theorem held (h : Within A p q) : q.held = p.held := by rw [Part.held, h.porn, h.wrst, Part.held]

theorem report (h : Within A p q) {x : Report} (hx : A.Reports x) : Within A p (report x q) :=
  h.trans { refl A q with alarm := .take A _ hx }

theorem withSlot (h : Within A p q) {k : SlotIx} (hk : A.slots k) (f : SlotRecord → SlotRecord) :
    Within A p (withSlot k f q) :=
  h.trans { refl A q with slots := fun _ hj => slot_setSlot_ne q (ne_of_leave hk hj) _ }

theorem withInput (h : Within A p q) {k : SlotIx} (hk : A.slots k) (f : SlotInput → SlotInput) :
    Within A p (withInput k f q) :=
  h.trans { refl A q with inputs := fun _ hj => input_setInput_ne q (ne_of_leave hk hj) _ }

theorem setRecord (h : Within A p q) {i : RecordIx} (hi : A.records i) (x : ServiceRecord) :
    Within A p (q.setRecord i x) :=
  h.trans { refl A q with records := fun _ hj => record_setRecord_ne q (ne_of_leave hi hj) _ }

theorem withRecord (h : Within A p q) {i : RecordIx} (hi : A.records i) (f : ServiceRecord → ServiceRecord) :
    Within A p (withRecord i f q) := h.setRecord hi _

theorem setReturnBinding (h : Within A p q) {i : RecordIx} (hi : A.records i) (b : Option SlotIx) :
    Within A p (setReturnBinding i b q) := h.setRecord hi _

theorem setPort (h : Within A p q) {x : PortIx} (hx : A.ports x) (r : PortRecord) : Within A p (q.setPort x r) :=
  h.trans { refl A q with ports := fun _ hj => port_setPort_ne q (ne_of_leave hx hj) _ }

theorem withPort (h : Within A p q) {x : PortIx} (hx : A.ports x) (f : PortRecord → PortRecord) :
    Within A p (withPort x f q) := h.setPort hx _

theorem bindPort (h : Within A p q) {x : PortIx} (hx : A.ports x) : Within A p (bindPort x q) := h.setPort hx _

theorem setEngine (h : Within A p q) {x : PortIx} (hx : A.engines x) (e : Engine) : Within A p (q.setEngine x e) :=
  h.trans { refl A q with engines := fun _ hj => engine_setEngine_ne q (ne_of_leave hx hj) _ }

theorem withEngine (h : Within A p q) {x : PortIx} (hx : A.engines x) (f : Engine → Engine) :
    Within A p (withEngine x f q) := h.setEngine hx _

theorem withPair (h : Within A p q) {k : PairIx} (hk : A.pairs k) (f : PairRecord → PairRecord) :
    Within A p (withPair k f q) :=
  h.trans { refl A q with pairs := fun _ hj => pair_setPair_ne q (ne_of_leave hk hj) _ }

theorem withHub (h : Within A p q) (hA : A.hub) (f : HubRecord → HubRecord) : Within A p (withHub f q) :=
  h.trans { refl A q with hub := fun n => absurd hA n }

theorem handOver (h : Within A p q) (hA : A.hub) : Within A p (handOver q) :=
  h.trans { refl A q with tb := rfl, next := fun n => absurd hA n }

theorem requestStep (h : Within A p q) (hA : A.step) (d : Int) : Within A p (requestStep d q) :=
  h.trans { refl A q with tb := rfl, step := fun n => absurd hA n }

/-- What a narrower leave allows, a wider one does. -/
theorem mono {B : Access} (h : Within A p q) (hhub : A.hub → B.hub) (hstep : A.step → B.step)
    (hslots : ∀ k, A.slots k → B.slots k) (hrecords : ∀ i, A.records i → B.records i)
    (hports : ∀ x, A.ports x → B.ports x) (hengines : ∀ x, A.engines x → B.engines x)
    (hpairs : ∀ k, A.pairs k → B.pairs k) (howners : ∀ o, A.owners o → B.owners o)
    (hmarks : ∀ o n, A.marks o n → B.marks o n) : Within B p q where
  tb := h.tb
  step s := h.step (mt hstep s)
  next s := h.next (mt hhub s)
  hub s := h.hub (mt hhub s)
  selected s := h.selected (mt hhub s)
  osc := h.osc
  lineClock := h.lineClock
  mgmt := h.mgmt
  porn := h.porn
  wrst := h.wrst
  alarm := ⟨h.alarm.settings, h.alarm.buffer, h.alarm.alm, fun o s => h.alarm.entries o (mt (howners o) s),
    fun o n s => h.alarm.marks o n (mt (hmarks o n) s)⟩
  slots k s := h.slots k (mt (hslots k) s)
  inputs k s := h.inputs k (mt (hslots k) s)
  records k s := h.records k (mt (hrecords k) s)
  ports k s := h.ports k (mt (hports k) s)
  engines k s := h.engines k (mt (hengines k) s)
  pairs k s := h.pairs k (mt (hpairs k) s)

end Within

end Sys2Proof.Machine

/-! SUPPORT. The leave that the operations of the blocks need, one after another. -/

namespace Sys2Proof.Machine

/-- Leave for the Discipline Unit and the choice: the hub record, the hub's entry, and the hub's own standing conditions,
bits 0 to 4. -/
structure Access.Choice (A : Access) : Prop where
  hub   : A.hub
  owner : A.owners .hub
  marks : ∀ n, n ≤ 4 → A.marks .hub n

/-- Leave for a slot: its record and input, its entry and its standing conditions. -/
structure Access.Slot (A : Access) (k : SlotIx) : Prop where
  slot  : A.slots k
  owner : A.owners (.slot k)
  marks : ∀ n, A.marks (.slot k) n

/-- Leave for a record: the record, its entry and its standing conditions. -/
structure Access.Record (A : Access) (i : RecordIx) : Prop where
  record : A.records i
  owner  : A.owners (.record i)
  marks  : ∀ n, A.marks (.record i) n

/-- Leave for the return slots, which a record's end or echo may reach (R31, R56). -/
structure Access.Returns (A : Access) : Prop where
  choice : A.Choice
  slot4  : A.Slot 4
  slot5  : A.Slot 5

namespace Within

variable {A : Access} {p q r : Part}

/-! ## The Discipline Unit and the choice -/

section Choice

variable (h : Within A p q) (hA : A.Choice)
include h hA

theorem raiseHub {c : Condition} (hc : c.standing = true → c.bit ≤ 4) : Within A p (raiseHub c q) :=
  h.report ⟨hA.owner, fun _ => hA.owner, fun hs => hA.marks _ (hc hs)⟩

theorem clearHub {c : Condition} (hc : c.standing = true → c.bit ≤ 4) : Within A p (clearHub c q) :=
  h.report ⟨hA.owner, fun _ => hA.owner, fun hs => hA.marks _ (hc hs)⟩

theorem advanceCause : Within A p (advanceCause q) := h.withHub hA.hub _

theorem correctionToF : Within A p (correctionToF q) := (h.withHub hA.hub _).handOver hA.hub

theorem followLimit (b : Bool) : Within A p (followLimit b q) := by
  unfold Machine.followLimit
  split
  · split
    · exact h
    · exact h.raiseHub hA (by decide)
  · exact h.clearHub hA (by decide)

theorem loopUpdate (g : Gains) (e : Int) : Within A p (loopUpdate g e q) :=
  ((h.withHub hA.hub _).handOver hA.hub).followLimit hA _

theorem filterUpdate (x : Int) : Within A p (filterUpdate x q) :=
  ((h.withHub hA.hub _).handOver hA.hub).followLimit hA _

theorem startPrediction : Within A p (startPrediction q) := h.withHub hA.hub _

theorem predictCorrection : Within A p (predictCorrection q) := by
  unfold Machine.predictCorrection
  split
  · exact h
  · exact ((h.withHub hA.hub _).handOver hA.hub).followLimit hA _

theorem enterFreeRun : Within A p (enterFreeRun q) :=
  ((h.withHub hA.hub _).correctionToF hA).raiseHub hA (by decide)

theorem startLineCount : Within A p (startLineCount q) := h.withHub hA.hub _

theorem enterLockedFreq : Within A p (enterLockedFreq q) := (h.withHub hA.hub _).startLineCount hA

theorem averageUpdate : Within A p (averageUpdate q) := by
  unfold Machine.averageUpdate
  exact h.withHub hA.hub _

theorem setBound (u : Int) : Within A p (setBound u q) := h.withHub hA.hub _

theorem enterAcquire (g : Grade) : Within A p (enterAcquire g q) := h.withHub hA.hub _

theorem enterLocked : Within A p (enterLocked q) := h.withHub hA.hub _

theorem advanceLineCount : Within A p (advanceLineCount q) := h.withHub hA.hub _

theorem advancePrediction : Within A p (advancePrediction q) := h.withHub hA.hub _

theorem enterBridging (o : BridgedFrom) : Within A p (enterBridging o q) :=
  ((((h.withHub hA.hub _).advanceCause hA).raiseHub hA (by decide)).correctionToF hA).startPrediction hA

theorem compareBound (b : Bool) : Within A p (compareBound b q) := by
  unfold Machine.compareBound
  split
  · cases b
    · exact (h.withHub hA.hub _).raiseHub hA (by decide)
    · exact ((h.advanceCause hA).withHub hA.hub _).raiseHub hA (by decide)
  · exact h

theorem enterHoldover : Within A p (enterHoldover q) := by
  unfold Machine.enterHoldover
  by_cases hb : q.hub.state = .bridging
  · simp only [hb, decide_true, if_true]
    exact ((((h.withHub hA.hub _).raiseHub hA (by decide)).clearHub hA (by decide)).predictCorrection hA).compareBound hA _
  · simp only [hb, decide_false, Bool.false_eq_true, if_false]
    exact (((((h.startPrediction hA).withHub hA.hub _).raiseHub hA (by decide))).predictCorrection hA).compareBound hA _

theorem leaveState : Within A p (leaveState q) := by
  unfold Machine.leaveState
  split
  · exact h.clearHub hA (by decide)
  · exact h
  · exact h
  · exact h
  · exact (h.withHub hA.hub _).clearHub hA (by decide)
  · exact (h.withHub hA.hub _).clearHub hA (by decide)
  · exact ((h.withHub hA.hub _).clearHub hA (by decide)).clearHub hA (by decide)

theorem moveOnReport (new : Option SlotIx) : Within A p (moveOnReport new q) := by
  unfold Machine.moveOnReport
  split
  · exact h.withHub hA.hub _
  · exact (h.leaveState hA).withHub hA.hub _
  · exact (h.leaveState hA).withHub hA.hub _
  · exact (h.leaveState hA).withHub hA.hub _
  · exact (h.leaveState hA).withHub hA.hub _
  · exact (h.leaveState hA).withHub hA.hub _
  · exact (h.leaveState hA).withHub hA.hub _
  · exact h
  · exact (h.leaveState hA).enterLockedFreq hA
  · exact (h.leaveState hA).enterLockedFreq hA
  · exact (h.leaveState hA).enterLockedFreq hA
  · exact (h.leaveState hA).enterLockedFreq hA
  · exact (h.leaveState hA).enterLockedFreq hA
  · exact (h.leaveState hA).enterLockedFreq hA
  · exact h
  · exact ite (h.enterHoldover hA) (h.enterFreeRun hA)
  · exact h.enterHoldover hA
  · exact h.enterHoldover hA
  · exact h.enterHoldover hA
  · exact h
  · exact h

theorem selectionReport (new : Option SlotIx) (c : SelectionCause) : Within A p (selectionReport new c q) :=
  (((h.withHub hA.hub _).advanceCause hA).report ⟨hA.owner, fun _ => hA.owner, fun hs => Bool.noConfusion hs⟩)
    |>.moveOnReport hA _

theorem select (s : Option SlotIx) : Within A p { q with selected := s } :=
  h.trans { refl A q with selected := fun n => absurd hA.hub n }

theorem choose (c : SelectionCause) : Within A p (choose c q) := by
  unfold Machine.choose
  exact ite h ((h.select hA _).selectionReport hA _ _)

theorem acquireGood (e a : Int) : Within A p (acquireGood e a q) :=
  have run := ((h.loopUpdate hA _ _).setBound hA _).withHub hA.hub _
  ite (run.enterLocked hA) run

theorem lockedGood (e a : Int) : Within A p (lockedGood e a q) :=
  have run := (((h.loopUpdate hA _ _).setBound hA _).averageUpdate hA).withHub hA.hub _
  ite (run.enterAcquire hA _) run

theorem lockedFreqGood (x : Int) : Within A p (lockedFreqGood x q) :=
  ((h.filterUpdate hA _).averageUpdate hA).advanceLineCount hA

theorem bridgingGood (x a : Int) : Within A p (bridgingGood x a q) := by
  unfold Machine.bridgingGood
  dsimp only
  split
  · exact ((h.leaveState hA).enterLocked hA).lockedGood hA _ _
  · exact ((h.leaveState hA).enterLockedFreq hA).lockedFreqGood hA _

/-- The action on the take; a step is asked for only where no step mark stands (R71, R72). -/
theorem actOnTake {b : Bool} (hstep : b = false → A.step) (t : Option Take) : Within A p (actOnTake b t q) := by
  unfold Machine.actOnTake
  dsimp only
  split
  · exact h
  · refine dite (fun _ => h) (fun hb => ?_)
    split
    · exact ite ((((h.requestStep (hstep (by simpa using hb)) _).correctionToF hA).withHub hA.hub _)) (h.acquireGood hA _ _)
    · exact (h.correctionToF hA).withHub hA.hub _
  · split
    · exact h.lockedGood hA _ _
    · exact h.enterBridging hA _
  · split
    · exact h.lockedFreqGood hA _
    · exact h.enterBridging hA _
  · split
    · exact (h.advancePrediction hA).bridgingGood hA _ _
    · exact h.withHub hA.hub _
  · exact ((h.advancePrediction hA).predictCorrection hA).compareBound hA _
  · exact (h.advancePrediction hA).predictCorrection hA

omit hA in
theorem clearFresh (hslots : ∀ k, A.slots k) : Within A p (clearFresh q) :=
  h.trans { refl A q with inputs := fun k hk => absurd (hslots k) hk }

theorem copyScale (t : Take) : Within A p (copyScale t q) := by
  unfold Machine.copyScale
  split
  · exact ite (h.withHub hA.hub _) h
  · exact h

theorem completeStep : Within A p (completeStep q) :=
  (h.withHub hA.hub _).report ⟨hA.owner, fun _ => hA.owner, nofun⟩

theorem hubSecondEvent (hslots : ∀ k, A.slots k) (hstep : q.tb.stepMark = false → A.step) :
    Within A p (hubSecondEvent q) := by
  unfold Machine.hubSecondEvent
  refine Within.actOnTake ?_ hA hstep _
  have completed : Within A p (if q.tb.stepMark = true then Machine.completeStep q else q) :=
    ite (h.completeStep hA) h
  have fresh := completed.clearFresh hslots
  split
  · exact ite fresh (fresh.copyScale hA _)
  · exact fresh

end Choice

/-! ## Slots and samples -/

section Slots

variable (h : Within A p q) (hA : A.Choice) {k : SlotIx} (hk : A.Slot k)

section
include h hk

theorem raiseSlot (c : Condition) : Within A p (raiseSlot c k q) := h.report ⟨hk.owner, nofun, fun _ => hk.marks _⟩

theorem clearSlot (c : Condition) : Within A p (clearSlot c k q) := h.report ⟨hk.owner, nofun, fun _ => hk.marks _⟩

theorem enterQualified : Within A p (enterQualified k q) := (h.withSlot hk.slot _).raiseSlot hk _

theorem enterFailed : Within A p (enterFailed k q) := (h.withSlot hk.slot _).raiseSlot hk _

theorem enterDisabled : Within A p (enterDisabled k q) :=
  (((h.withSlot hk.slot _).withInput hk.slot _).clearSlot hk _).clearSlot hk _

theorem leaveDisabled : Within A p (leaveDisabled k q) := by
  unfold Machine.leaveDisabled startInput
  exact (h.withSlot hk.slot _).withInput hk.slot _

end

include h hA hk

theorem candidateGood : Within A p (candidateGood k q) :=
  ite (((h.withSlot hk.slot _).enterQualified hk).choose hA _) (h.withSlot hk.slot _)

theorem qualifiedSample (o : SampleOutcome) : Within A p (qualifiedSample k o q) := by
  unfold Machine.qualifiedSample
  split
  · exact h.withSlot hk.slot _
  all_goals exact ite ((h.enterFailed hk).choose hA _) (h.withSlot hk.slot _)

theorem failedGood : Within A p (failedGood k q) := by
  have candidate := (h.withSlot hk.slot (fun r =>
    { r with state := .candidate, goodRun := 1, badRun := 0, outlierRun := 0 })).clearSlot hk .failed
  exact Within.choose (ite (candidate.enterQualified hk) candidate) hA _

theorem applySample (o : SampleOutcome) : Within A p (applySample k o q) := by
  unfold Machine.applySample
  split
  · exact h
  · split
    · exact h
    · exact ite (h.candidateGood hA hk) (h.withSlot hk.slot _)
    · exact h.qualifiedSample hA hk _
    · exact ite (h.failedGood hA hk) h

theorem completeSample (s : Sample) : Within A p (completeSample k s q) :=
  (h.withInput hk.slot _).applySample hA hk _

theorem completeRead (b : Bool) (v : Int) (a s : Option Int) (n : Nat) : Within A p (completeRead k b v a s n q) :=
  ite (h.completeSample hA hk _) ((h.withInput hk.slot _).completeSample hA hk _)

theorem completeMissing (n : Nat) : Within A p (completeMissing n k q) := ite (h.completeSample hA hk _) h

theorem offerEcho (i : RecordIx) (g : Generation) (x : EchoFields) (f : Bool) : Within A p (offerEcho k i g x f q) := by
  unfold Machine.offerEcho
  split
  · exact h
  · exact ite (h.completeRead hA hk _ _ _ _ _) h

end Slots

/-! ## The inputs at a boundary -/

section Inputs

variable (h : Within A p q) (hA : A.Choice) (hslots : ∀ k, A.Slot k)
include h hA hslots

theorem completeLine (n : Nat) : Within A p (completeLine n q) := by
  unfold Machine.completeLine
  split
  · exact h
  · exact ite (h.completeRead hA (hslots _) _ _ _ _ _) h

theorem boundarySamples (n : Nat) : Within A p (boundarySamples n q) :=
  forEach_induct (R := Within A p) _ (fun k _ h => h.completeMissing hA (hslots k) n) _ _ (h.completeLine hA hslots n)

omit hA in
theorem newSecond (k : SlotIx) : Within A p (newSecond k q) := by
  unfold Machine.newSecond
  exact h.withInput (hslots k).slot _

theorem inputsBoundary (n : Nat) : Within A p (inputsBoundary n q) :=
  forEach_induct (R := Within A p) _ (fun k _ h => h.newSecond hslots k) _ _
    ((h.boundarySamples hA hslots n).withInput (hslots lineSlot).slot _)

end Inputs

/-! ## Records -/

section Records

variable (h : Within A p q) {i : RecordIx} (hi : A.Record i)

section
include h hi

theorem raiseRecord (c : Condition) (x : PortIx) : Within A p (raiseRecord c x i q) :=
  h.report ⟨hi.owner, nofun, fun _ => hi.marks _⟩

theorem clearRecord (c : Condition) (x : PortIx) : Within A p (clearRecord c x i q) :=
  h.report ⟨hi.owner, nofun, fun _ => hi.marks _⟩

theorem clearTe (c : Condition) (te : Option Int) (x : PortIx) : Within A p (clearTe c te x i q) :=
  h.report ⟨hi.owner, nofun, fun _ => hi.marks _⟩

theorem clearStandings : Within A p (clearStandings i q) :=
  (((h.clearRecord hi _ _).clearTe hi _ _ _).clearTe hi _ _ _).clearRecord hi _ _

omit hi in
theorem reportPair (c : Bool) {a b : Report} (ha : A.Reports a) (hb : A.Reports b) : Within A p (reportPair c a b q) := by
  unfold Machine.reportPair
  refine ite ?_ (ite ((h.report hb).report ha) ((h.report ha).report hb))
  exact h.trans { refl A q with alarm := (AlarmWithin.take A _ ha).trans (.updateStanding A _ hb.mark) }

theorem reportVerdict (hhub : A.owners .hub) (a b : TeState) (te : Int) (x : Bool) (port : PortIx) :
    Within A p (reportVerdict a b te x port i q) := by
  have raised : ∀ c : Condition, A.Reports { recordPortReport c true port i q with te := some te, ancillary := x } :=
    fun _ => ⟨hi.owner, fun _ => hhub, fun _ => hi.marks _⟩
  have cleared : ∀ c : Condition, A.Reports { recordPortReport c false port i q with te := some te } :=
    fun _ => ⟨hi.owner, nofun, fun _ => hi.marks _⟩
  unfold Machine.reportVerdict
  split
  · exact h.report (raised _)
  · exact h.report (raised _)
  · exact h.report (raised _)
  · exact h.report (raised _)
  · exact h.report (cleared _)
  · exact h.reportPair _ (raised _) (cleared _)
  · exact h.reportPair _ (raised _) (cleared _)
  · exact h.report (cleared _)
  all_goals exact h

theorem judgeTe (hhub : A.owners .hub) (port : PortIx) : Within A p (judgeTe port i q) := by
  unfold Machine.judgeTe
  dsimp only
  split
  · exact h
  · exact (h.withRecord hi.record _).reportVerdict hi hhub _ _ _ _ _

theorem measureMissing (hhub : A.owners .hub) (port : PortIx) : Within A p (measureMissing port i q) :=
  (h.withRecord hi.record _).judgeTe hi hhub _

theorem takeDelay (rtd : Int) (port : PortIx) : Within A p (takeDelay rtd port i q) := by
  unfold Machine.takeDelay
  refine Within.withRecord ?_ hi.record _
  split
  · exact (h.withRecord hi.record _).raiseRecord hi _ _
  all_goals exact h.withRecord hi.record _

theorem measureEcho (hhub : A.owners .hub) (rtd : Option Int) (port : PortIx) :
    Within A p (measureEcho rtd port i q) := by
  unfold Machine.measureEcho
  refine Within.judgeTe ?_ hi hhub _
  split
  · exact h.withRecord hi.record _
  · exact ite ((h.raiseRecord hi _ _).withRecord hi.record _) (h.takeDelay hi _ _)

theorem recordEcho (port : PortIx) : Within A p (recordEcho port i q) :=
  ite ((h.withRecord hi.record _).clearRecord hi _ _) (h.withRecord hi.record _)

theorem countMissing (port : PortIx) : Within A p (countMissing port i q) :=
  ite (ite ((h.withRecord hi.record _).raiseRecord hi _ _) (h.withRecord hi.record _)) h

theorem takeDistress (port : PortIx) : Within A p (takeDistress port i q) := by
  unfold Machine.takeDistress
  dsimp only
  exact ((((h.raiseRecord hi _ _).clearTe hi _ _ _).clearTe hi _ _ _).clearRecord hi _ _).withRecord hi.record _

end

section Ends

variable (hA : A.Returns)
include h hi hA

theorem unbindSlot {k : SlotIx} (hk : A.Slot k) {g : Generation} (hbound : (q.slot k).binding = some (i, g))
    (c : SelectionCause) : Within A p (unbindSlot c k q) := by
  unfold Machine.unbindSlot
  rw [hbound]
  exact (((h.setReturnBinding hi.record none).withSlot hk.slot _).enterDisabled hk).choose hA.choice _

theorem recordLost (g : Generation) : Within A p (recordLost i g q) :=
  dite (fun hb => h.unbindSlot hi hA hA.slot4 hb _) (fun _ => dite (fun hb => h.unbindSlot hi hA hA.slot5 hb _) (fun _ => h))

theorem vacate : Within A p (vacate i q) :=
  ((ite (h.recordLost hi hA _) h).clearStandings hi).withRecord hi.record _

theorem endLeft (port : PortIx) : Within A p (endLeft port i q) :=
  (h.vacate hi hA).report ⟨hi.owner, nofun, nofun⟩

theorem endRetired (d : Detail) : Within A p (endRetired d i q) :=
  (h.vacate hi hA).report ⟨hi.owner, nofun, nofun⟩

theorem recordBoundary : Within A p (recordBoundary i q) :=
  ite ((h.withRecord hi.record _).endRetired hi hA _) (h.withRecord hi.record _)

theorem retiringOutcome {t : SlotTarget} (ht : t.record = i) (o : SlotOutcome) : Within A p (retiringOutcome t o q) := by
  subst ht
  exact ite (h.endRetired hi hA _) (ite (h.endRetired hi hA _) h)

theorem takeEcho {t : SlotTarget} (ht : t.record = i) (port : PortIx) (a b : Option Stamp) (x : EchoFields) :
    Within A p (takeEcho port t a b x q) := by
  subst ht
  exact (((h.measureEcho hi hA.choice.owner _ _).recordEcho hi _).offerEcho hA.choice hA.slot4 _ _ _ _).offerEcho
    hA.choice hA.slot5 _ _ _ _

theorem liveOutcome {t : SlotTarget} (ht : t.record = i) (port : PortIx) (a b : Option Stamp) (o : SlotOutcome) :
    Within A p (liveOutcome port t a b o q) := by
  unfold Machine.liveOutcome
  split
  · exact h.takeEcho hi hA ht _ _ _ _
  · subst ht
    exact h.takeDistress hi _
  · subst ht
    exact h.endLeft hi hA _
  · subst ht
    exact (h.measureMissing hi hA.choice.owner _).countMissing hi _

theorem recordOutcome {t : SlotTarget} (ht : t.record = i) (port : PortIx) (a b : Option Stamp) (o : SlotOutcome) :
    Within A p (recordOutcome port t a b o q) := by
  unfold Machine.recordOutcome
  split
  · split
    · exact h
    · exact h
    · exact h.liveOutcome hi hA ht _ _ _ _
    · exact h.liveOutcome hi hA ht _ _ _ _
    · exact h.liveOutcome hi hA ht _ _ _ _
    · exact h.retiringOutcome hi hA ht _
  · exact h

end Ends

end Records

theorem recordsBoundary (h : Within A p q) (hrecords : ∀ i, A.Record i) (hA : A.Returns) :
    Within A p (recordsBoundary q) :=
  forEach_induct (R := Within A p) _ (fun i _ h => h.recordBoundary (hrecords i) hA) _ _ h

end Within

end Sys2Proof.Machine

/-! SUPPORT. The leave that the Protection Unit, the ports and the boundary need. -/

namespace Sys2Proof.Machine

/-- Leave for a pair: its record, its protect port, and every record. -/
structure Access.Pair (A : Access) (k : PairIx) : Prop where
  pair    : A.pairs k
  protect : A.ports (protectPort k)
  record  : ∀ i, A.Record i

/-- Leave for a port: its record, its engine, and the hub's PORT_FAULT, bit 5. -/
structure Access.Port (A : Access) (x : PortIx) : Prop where
  port   : A.ports x
  engine : A.engines x
  owner  : A.owners .hub
  mark   : A.marks .hub 5

namespace Within

variable {A : Access} {p q r : Part}

/-! ## Pairs -/

section Records

variable (h : Within A p q) (hrecords : ∀ i, A.Record i)
include h hrecords

theorem markFaulted (x : PortIx) : Within A p (markFaulted x q) :=
  forEach_induct (R := Within A p) _ (fun i _ h => ite (h.raiseRecord (hrecords i) _ _) h) _ _ h

theorem clearFaulted (x : PortIx) : Within A p (clearFaulted x q) :=
  forEach_induct (R := Within A p) _ (fun i _ h => ite (h.clearRecord (hrecords i) _ _) h) _ _ h

theorem clearBlocked (k : PairIx) : Within A p (clearBlocked k q) :=
  forEach_induct (R := Within A p) _ (fun i _ h => ite (h.withRecord (hrecords i).record _) h) _ _ h

theorem clearStale (k : PairIx) : Within A p (clearStale k q) :=
  forEach_induct (R := Within A p) _ (fun i _ h => ite (h.withRecord (hrecords i).record _) h) _ _ h

end Records

section Pair

variable (h : Within A p q) {k : PairIx} (hk : A.Pair k)
include h hk

theorem moveRecord (i : RecordIx) : Within A p (moveRecord k i q) :=
  (((h.withRecord (hk.record i).record _).clearRecord (hk.record i) _ _).raiseRecord (hk.record i) _ _).bindPort
    hk.protect

theorem considerRecord (i : RecordIx) : Within A p (considerRecord k i q) :=
  ite (ite (h.moveRecord hk i) (h.withRecord (hk.record i).record _)) h

theorem switchPass : Within A p (switchPass k q) :=
  forEach_induct (R := Within A p) _ (fun i _ h => h.considerRecord hk i) _ _ h

theorem returnRecord (i : RecordIx) : Within A p (returnRecord k i q) :=
  ite (((h.withRecord (hk.record i).record _).clearRecord (hk.record i) _ _).raiseRecord (hk.record i) _ _) h

theorem returnPair : Within A p (returnPair k q) :=
  Within.clearBlocked
    ((forEach_induct (R := Within A p) _ (fun i _ h => h.returnRecord hk i) _ _ h).withPair hk.pair _) hk.record _

theorem enterWait : Within A p (enterWait k q) :=
  have waiting := (h.withPair hk.pair _).clearBlocked hk.record _
  ite (waiting.returnPair hk) waiting

theorem workingFault : Within A p (workingFault k q) := by
  unfold Machine.workingFault
  split
  · exact (h.switchPass hk).withPair hk.pair _
  · exact h.switchPass hk
  · exact h.switchPass hk
  · exact (h.switchPass hk).withPair hk.pair _

theorem protectFault : Within A p (protectFault k q) := by
  unfold Machine.protectFault
  split
  · exact h
  all_goals exact ite h (h.returnPair hk)

theorem workingClean : Within A p (workingClean k q) := by
  unfold Machine.workingClean
  split
  · exact ite (h.returnPair hk) (ite (h.enterWait hk) h)
  all_goals exact h

theorem pairWaitStep : Within A p (pairWaitStep k q) :=
  ite (ite ((h.withPair hk.pair _).returnPair hk) (h.withPair hk.pair _)) h

theorem sweepPair : Within A p (sweepPair k q) := by
  unfold Machine.sweepPair
  split
  · exact (h.clearStale hk.record k).switchPass hk
  · exact (h.clearStale hk.record k).switchPass hk
  · exact h
  · exact h

end Pair

theorem pairWaits (h : Within A p q) {l : List PairIx} (hl : ∀ k ∈ l, A.Pair k) : Within A p (pairWaits l q) := by
  induction l generalizing q with
  | nil => exact h
  | cons k rest ih =>
    exact ih (h.pairWaitStep (hl k (List.mem_cons_self ..))) (fun j hj => hl j (List.mem_cons_of_mem _ hj))

theorem sweepBoundary (h : Within A p q) (hpairs : ∀ k, A.Pair k) : Within A p (sweepBoundary q) :=
  forEach_induct (R := Within A p) _ (fun _ _ h => ite (h.markFaulted (hpairs 0).record _) h) _ _
    (forEach_induct (R := Within A p) _ (fun k _ h => h.sweepPair (hpairs k)) _ _ h)

/-! ## Ports -/

section Port

variable (h : Within A p q) {x : PortIx} (hx : A.Port x)

section
include h hx

theorem setSlotError (e : SlotError) : Within A p (setSlotError x e q) := h.withPort hx.port _

omit hx in
theorem portEntersFault (hk : A.Pair (pairOf x)) : Within A p (portEntersFault x q) :=
  Within.markFaulted (ite (h.workingFault hk) (h.protectFault hk)) hk.record _

omit hx in
theorem portLeavesFault (hk : A.Pair (pairOf x)) : Within A p (portLeavesFault x q) :=
  have cleared := h.clearFaulted hk.record x
  ite (cleared.workingClean hk) cleared

theorem reportPortFault : Within A p (reportPortFault q) := h.report ⟨hx.owner, nofun, fun _ => hx.mark⟩

theorem judgePort (hk : A.Pair (pairOf x)) : Within A p (judgePort x q) := by
  unfold Machine.judgePort
  dsimp only
  split
  · exact ((h.withPort hx.port _).reportPortFault hx).portEntersFault hk
  · exact ((h.withPort hx.port _).reportPortFault hx).portLeavesFault hk
  · exact h.withPort hx.port _
  · exact h.withPort hx.port _

theorem countPort (l : List PortIx) : Within A p (countPort l x q) := h.withPort hx.port _

theorem beginPortSecond : Within A p (beginPortSecond x q) := h.setEngine hx.engine _

end

section Outcome

variable (hopen : ∀ t, (q.engine x).target = some t → A.Record t.record ∧ A.Returns)
include h hx hopen

theorem reportOutcome (o : SlotOutcome) : Within A p (reportOutcome x o q) := by
  unfold Machine.reportOutcome
  dsimp only
  split
  · exact h.withEngine hx.engine _
  · next t ht =>
    obtain ⟨hi, hA⟩ := hopen t ht
    exact (h.withEngine hx.engine _).recordOutcome hi hA rfl _ _ _ _

theorem decideSlot (o : SlotOutcome) (e : SlotError) : Within A p (decideSlot x o e q) :=
  Within.reportOutcome (h.setSlotError hx e) hx hopen o

theorem endSlot : Within A p (endSlot x q) := by
  unfold Machine.endSlot
  dsimp only
  split
  · exact h
  · exact h.decideSlot hx hopen _ _
  · exact h.decideSlot hx hopen _ _
  · exact ite (h.decideSlot hx hopen _ _) (h.withEngine hx.engine _)

theorem beginSlot (s : PortSlot) : Within A p (beginSlot x s q) := (h.endSlot hx hopen).withEngine hx.engine _

theorem portBoundary (hk : A.Pair (pairOf x)) (l : List PortIx) : Within A p (portBoundary l x q) :=
  (((h.endSlot hx hopen).judgePort hx hk).countPort hx l).beginPortSecond hx

end Outcome

end Port

theorem portsBoundary (h : Within A p q) (hports : ∀ x, A.Port x) (hpairs : ∀ k, A.Pair k) (hA : A.Returns)
    (l m : List PortIx) : Within A p (portsBoundary l m q) :=
  forEach_induct (R := Within A p) _
    (fun x _ h => h.portBoundary (hports x) (fun t _ => ⟨(hpairs 0).record t.record, hA⟩) (hpairs _) l) _ _ h

end Within

/-! ## With no slot open -/

/-- No slot open, the boundary of one port leaves none open. -/
theorem portBoundary_noSlotOpen {p : Part} (h : p.NoSlotOpen) (l : List PortIx) (x : PortIx) :
    (portBoundary l x p).NoSlotOpen := by
  intro y
  by_cases hy : y = x
  · subst hy
    simp [portBoundary, beginPortSecond]
  · have access : Within { hub := False, step := False, slots := fun _ => False, records := fun _ => True
                           ports := fun _ => True, engines := fun z => z = x, pairs := fun _ => True
                           owners := fun _ => True, marks := fun _ _ => True } p (portBoundary l x p) :=
      Within.portBoundary (.refl _ p) ⟨trivial, rfl, trivial, trivial⟩ (fun t ht => by rw [h x] at ht; simp at ht)
        ⟨trivial, trivial, fun _ => ⟨trivial, trivial, fun _ => trivial⟩⟩ l
    rw [access.engines y hy]
    exact h y

/-- With no slot open the ports' work at a boundary needs no leave for the slots and the hub record. -/
theorem Within.portsBoundary_noSlotOpen {A : Access} {p q : Part} (h : Within A p q) (hq : q.NoSlotOpen)
    (hports : ∀ x, A.Port x) (hpairs : ∀ k, A.Pair k) (l m : List PortIx) :
    Within A p (Machine.portsBoundary l m q) ∧ (Machine.portsBoundary l m q).NoSlotOpen :=
  forEach_induct (R := fun r => Within A p r ∧ r.NoSlotOpen) _
    (fun x _ ⟨h, hopen⟩ =>
      ⟨h.portBoundary (hports x) (fun t ht => by rw [hopen x] at ht; simp at ht) (hpairs _) l,
        portBoundary_noSlotOpen hopen l x⟩) _ _ ⟨h, hq⟩

/-! ## A boundary whole -/

/-- Leave for everything that a boundary may change, a step request apart. -/
def Access.all : Access :=
  { hub := True, step := False, slots := fun _ => True, records := fun _ => True, ports := fun _ => True
    engines := fun _ => True, pairs := fun _ => True, owners := fun _ => True, marks := fun _ _ => True }

/-- The same leave, and leave for a step request where no step mark stands (R71, R72). -/
def Access.allBut (stepped : Bool) : Access := { Access.all with step := stepped = false }

namespace Access

variable (b : Bool)

theorem allBut_choice : (allBut b).Choice := ⟨trivial, trivial, fun _ _ => trivial⟩
theorem allBut_slot (k : SlotIx) : (allBut b).Slot k := ⟨trivial, trivial, fun _ => trivial⟩
theorem allBut_record (i : RecordIx) : (allBut b).Record i := ⟨trivial, trivial, fun _ => trivial⟩
theorem allBut_returns : (allBut b).Returns := ⟨allBut_choice b, allBut_slot b 4, allBut_slot b 5⟩
theorem allBut_pair (k : PairIx) : (allBut b).Pair k := ⟨trivial, trivial, allBut_record b⟩
theorem allBut_port (x : PortIx) : (allBut b).Port x := ⟨trivial, trivial, trivial, trivial⟩

end Access

/-- Each block's work at a boundary, which asks for a step only where no step mark stands. -/
theorem Within.boundaryWork {p q : Part} (h : Within (.allBut p.tb.stepMark) p q) (c : BoundaryContext)
    (b : BoundaryArgs) (w : BoundaryWork) : Within (.allBut p.tb.stepMark) p (Machine.boundaryWork c b w q) := by
  have hmark : q.tb.stepMark = p.tb.stepMark := by rw [h.tb]
  cases w with
  | inputs => exact h.inputsBoundary (Access.allBut_choice _) (Access.allBut_slot _) _
  | discipline =>
    exact h.hubSecondEvent (Access.allBut_choice _) (fun _ => trivial) (fun hs => hmark ▸ hs)
  | records => exact h.recordsBoundary (Access.allBut_record _) (Access.allBut_returns _)
  | ports => exact h.portsBoundary (Access.allBut_port _) (Access.allBut_pair _) (Access.allBut_returns _) _ _
  | pairWait => exact h.pairWaits (fun k _ => Access.allBut_pair _ k)
  | sweep => exact h.sweepBoundary (Access.allBut_pair _)

theorem Within.boundaryEvent (p : Part) (c : BoundaryContext) (b : BoundaryArgs) :
    Within (.allBut p.tb.stepMark) p (Machine.boundaryEvent c b p) :=
  forEach_induct (R := Within (.allBut p.tb.stepMark) p) _ (fun w _ h => h.boundaryWork c b w) _ _ (.refl _ p)

end Sys2Proof.Machine

/-! SUPPORT. Hub time between boundaries, edges and the line clock, frames sent and responses started, loadings and
pulses, and the start of a transaction (R4, R7, R9, R11, R23, R30, R124 to R127, R177, R181, R186 to R188, R193). -/

namespace Sys2Proof.Machine

/-- A command completes with its work on the part. -/
theorem completes_of_work {c : Instr} {s : State} {q : Part} (h : commandWork c s.part = q) : Completes c s q := by
  rw [← h]
  exact exec_done c s

/-! ## Hub time between boundaries (R4, R7, R9, R11) -/

/-- The counter stands still as long as a step hold lasts (R11). -/
theorem TimeBase.readingAt_held (tb : TimeBase) {e : Nat} (h : e ≤ tb.holdNs * 65536) :
    tb.readingAt e = tb.readingAt 0 := by
  simp [TimeBase.readingAt, Nat.sub_eq_zero_of_le h]

/-- Time that is brought to a later place within the hub second comes there. -/
theorem TimeBase.elapseTo_of_le (tb : TimeBase) {e : Nat} (h : tb.elapsed ≤ e) (k : e < tb.lengthNs * 65536) :
    tb.elapseTo e = { tb with elapsed := e, hso := tb.hso && decide (e < 100 * qPerMs) } := by
  have he : max tb.elapsed (min e (tb.lengthNs * 65536 - 1)) = e := by omega
  simp only [TimeBase.elapseTo, he]

/-- The whole q that a raw second brings, and what is carried of it, which is the remainder there was (R4, R7). -/
theorem rawSecond_split {y : Int} {rem : Nat} (hy : magnitude y ≤ correctionLimit) (hrem : rem < qPerSecond) :
    (((qPerSecond * ((qPerSecond : Int) + y).toNat + rem) / qPerSecond : Nat) : Int) = qPerSecond + y ∧
      (qPerSecond * ((qPerSecond : Int) + y).toNat + rem) % qPerSecond = rem := by
  have hpos : 0 < qPerSecond := by decide
  have hsum : 0 ≤ (qPerSecond : Int) + y := by
    simp only [magnitude, correctionLimit, qPerSecond] at *
    split at hy <;> omega
  rw [Nat.mul_add_div hpos, Nat.mul_add_mod, Nat.div_eq_of_lt hrem, Nat.mod_eq_of_lt hrem, Nat.add_zero]
  exact ⟨Int.toNat_of_nonneg hsum, rfl⟩

/-- Settles O9: the three ways in which time passes within a hub second, each by the one lemma about where it comes. -/
theorem hubTimeRunsBetweenBoundaries : Obligations.HubTimeRunsBetweenBoundaries := by
  refine ⟨fun s hporn hhold hlen => ?_, fun s hporn hhso hle hlen => ?_, fun p hporn hy hrem hlt => ?_⟩
  · have hbefore : s.part.tb.elapsed < s.part.tb.holdNs * 65536 := by
      simpa [TimeBase.holding, TimeBase.holdingAt] using hhold
    have hms : decide (s.part.tb.holdNs * 65536 < 100 * qPerMs) = decide (s.part.tb.holdNs < 100000000) := by
      simp only [qPerMs]
      exact decide_eq_decide.2 (by omega)
    refine ⟨_, completes_of_work ?_, rfl, ?_, ?_⟩
    · change endHold s.part = _
      rw [endHold, if_neg (by simp [hporn, hhold]), TimeBase.elapseTo_of_le _ hbefore.le (by omega), hms]
    · simp [TimeBase.holding, TimeBase.holdingAt]
    · exact (TimeBase.readingAt_held s.part.tb (le_refl _)).trans (TimeBase.readingAt_held s.part.tb hbefore.le).symm
  · refine completes_of_work ?_
    change fallHso s.part = _
    rw [fallHso, if_neg (by simp [hporn, hhso]),
      TimeBase.elapseTo_of_le _ hle (by simp only [qPerMs]; omega)]
  · obtain ⟨hwhole, hcarried⟩ := rawSecond_split hy hrem
    have hfits : p.tb.elapsed + (qPerSecond * ((qPerSecond : Int) + p.tb.applied).toNat + p.tb.remainder) / qPerSecond <
        p.tb.lengthNs * 65536 := by omega
    rw [passRaw, hporn, if_neg (by simp), TimeBase.passRaw, TimeBase.elapseTo_of_le _ (Nat.le_add_right _ _) hfits]
    refine ⟨?_, hcarried⟩
    dsimp only
    omega

/-! ## Edges and the line clock (R23, R30) -/

@[simp] theorem passRaw_slot (dt : Nat) (p : Part) (k : SlotIx) : (passRaw dt p).slot k = p.slot k := by
  unfold passRaw
  split <;> rfl

@[simp] theorem passRaw_input (dt : Nat) (p : Part) (k : SlotIx) : (passRaw dt p).input k = p.input k := by
  unfold passRaw
  split <;> rfl

@[simp] theorem passRaw_engine (dt : Nat) (p : Part) (q : PortIx) : (passRaw dt p).engine q = p.engine q := by
  unfold passRaw
  split <;> rfl

@[simp] theorem passRaw_held (dt : Nat) (p : Part) : (passRaw dt p).held = p.held := by
  unfold passRaw
  split <;> rfl

/-- Settles O14: the edge and the two commands of the line clock, each by its definition. -/
theorem edgesAndLineClockAreFollowed : Obligations.EdgesAndLineClockAreFollowed := by
  refine ⟨fun s dt k hheld hrun => completes_of_work ?_, fun _ => rfl, fun _ => rfl⟩
  change ppsEdge k.slot (passRaw dt s.part) = _
  have hrun' : (passRaw dt s.part).running k.slot = true := by simpa [Part.running] using hrun
  rw [ppsEdge, unlessHeld_of_free (by simpa using hheld), if_pos hrun', withInput, passRaw_input]
  rfl

/-! ## Frames sent and responses started (R124 to R127) -/

/-- Settles O42: a frame sent whole acts by its kind, and a response that starts is stamped. -/
theorem framesSentAndResponsesStarted : Obligations.FramesSentAndResponsesStarted := by
  refine ⟨fun s q f t hheld hact hkind htarget hgen hstate => completes_of_work ?_,
    fun s q f hheld hact hkind => completes_of_work ?_, fun s q f hheld hact hkind => completes_of_work ?_,
    fun s dt q hheld hact => completes_of_work ?_⟩
  · change frameSent q s.part = _
    simp [frameSent, unlessHeld_of_free hheld, hact, htarget, hkind, delaySent, hgen, hstate, withEngine, withRecord,
      FrameKind.expectsResponse]
  · change frameSent q s.part = _
    rcases hkind with hkind | hkind <;>
      simp [frameSent, unlessHeld_of_free hheld, hact, hkind, withEngine, FrameKind.expectsResponse]
  · change frameSent q s.part = _
    rcases hkind with hkind | hkind <;>
      simp [frameSent, unlessHeld_of_free hheld, hact, hkind, withEngine, FrameKind.expectsResponse, setSlotError,
        withPort]
  · change responseStarted q (passRaw dt s.part) = _
    simp [responseStarted, unlessHeld_of_free (p := passRaw dt s.part) (by simpa using hheld), hact, withEngine,
      TimeBase.stampAt, TimeBase.counter, TimeBase.holding]

/-! ## Loadings and pulses (R177, R181, R193) -/

/-- The loading of an empty buffer from a list that is not empty (R177, R178). -/
theorem AlarmUnit.load_cons {a : AlarmUnit} {e : Entry} {rest : List Entry} (hbuffer : a.buffer = none)
    (hlist : a.list = e :: rest) :
    a.load =
      { a with buffer := some { entry := e, standing := a.standingOf e.owner }, list := rest
               alm := a.alm.load a.settings.almMode a.settings.pulseWidth } := by
  simp only [AlarmUnit.load, hbuffer, hlist]

/-- A pulse that ends is followed by its width of rest (R181). -/
theorem PulseLine.endPulse_of_pulse {l : PulseLine} (h : l.phase = .pulse) : l.endPulse = { l with phase := .gap } := by
  simp only [PulseLine.endPulse, h]

/-- The width of rest is followed by an owed pulse, when there is one (R181). -/
theorem PulseLine.endGap_of_gap {l : PulseLine} (h : l.phase = .gap) (width : Int) :
    l.endGap width =
      if l.owed = 0 then { l with phase := .rest } else { phase := .pulse, width := width, owed := l.owed - 1 } := by
  simp only [PulseLine.endGap, h]

/-- Settles O50: the loading by its lemma, the pulses by the phase of their line. -/
theorem bufferLoadsAndPulsesFollow : Obligations.BufferLoadsAndPulsesFollow := by
  refine ⟨fun s e rest hheld hbuffer hlist => ?_, fun s h => ?_, fun s l hl => ⟨fun hphase => ?_, fun hphase => ?_⟩,
    fun s l hl => ⟨fun hphase => ?_, fun hphase => ?_⟩⟩
  · have hload : loadIfDue s.part = { s.part with alarm := s.part.alarm.load } := loadIfDue_of_free hheld
    change commandDone loadIfDue s = _
    rw [commandDone_next, hload, AlarmUnit.load_cons hbuffer hlist, settle_idle _ (.inl (by simp))]
    simp only [PulseLine.load]
    cases s.part.alarm.settings.almMode <;> cases s.part.alarm.alm.phase <;> rfl
  · change commandDone loadIfDue s = _
    rw [commandDone_next, loadIfDue_idle _ h, settle_idle _ h]
  · refine completes_of_work ?_
    change { s.part with alarm := { s.part.alarm with alm := s.part.alarm.alm.endPulse } } = _
    rw [hl, PulseLine.endPulse_of_pulse hphase]
  · refine completes_of_work ?_
    change { s.part with alarm := { s.part.alarm with alm := s.part.alarm.alm.endGap s.part.alarm.settings.pulseWidth } } = _
    rw [hl, PulseLine.endGap_of_gap hphase]
  · refine completes_of_work ?_
    change { s.part with mgmt := { s.part.mgmt with mgt := s.part.mgmt.mgt.endPulse } } = _
    rw [hl, PulseLine.endPulse_of_pulse hphase]
  · refine completes_of_work ?_
    change { s.part with mgmt := { s.part.mgmt with mgt := s.part.mgmt.mgt.endGap s.part.alarm.settings.pulseWidth } } = _
    rw [hl, PulseLine.endGap_of_gap hphase]

/-! ## Transactions begin (R186 to R188) -/

/-- The header of a STATUS, or one that names no operation (R186). -/
theorem operationOf_status {header : Byte} (hw : header ≠ 2#8) (hm : header ≠ 3#8) (ha : header ≠ 4#8) :
    operationOf header = .status := by
  revert header
  decide

/-- Seven flags in the low bits of a byte, each at its place. -/
theorem flagBits (a b c d e f g : Bool) :
    let x := byte (flagCode a + 2 * flagCode b + 4 * flagCode c + 8 * flagCode d + 16 * flagCode e + 32 * flagCode f +
      64 * flagCode g)
    x.getLsbD 0 = a ∧ x.getLsbD 1 = b ∧ x.getLsbD 2 = c ∧ x.getLsbD 3 = d ∧ x.getLsbD 4 = e ∧ x.getLsbD 5 = f ∧
      x.getLsbD 6 = g ∧ x.getLsbD 7 = false := by
  revert a b c d e f g
  decide

/-- A header with no transaction open begins one (R186). -/
theorem beginTransaction_of_none {p : Part} (h : p.mgmt.transaction = none) (header : Byte) :
    beginTransaction header p = openTransaction header p := by
  rw [beginTransaction, if_neg (by simp [h])]

/-- Settles O52: the byte bit by bit, and each transaction by the operation that its header names. -/
theorem transactionsBeginWithTheStatusByte : Obligations.TransactionsBeginWithTheStatusByte := by
  refine ⟨fun p hheld => ?_, fun s header hheld hnone hw hm ha => ?_, fun s hheld hnone => completes_of_work ?_,
    fun s t hopen => ⟨rfl, fun header => completes_of_work ?_⟩, fun s hheld hnone => completes_of_work ?_⟩
  · rw [Part.statusByte, if_neg (by simp [hheld])]
    exact flagBits _ _ _ _ _ _ _
  · have hop := operationOf_status hw hm ha
    refine ⟨completes_of_work ?_, completes_of_work ?_⟩
    · change statusTransaction header s.part = _
      simp [statusTransaction, hop, completeTransaction, beginTransaction_of_none hnone, openTransaction,
        finishTransaction, closeTransaction, Part.outFrame, Part.judges, hheld, hnone]
    · change beginTransaction header s.part = _
      simp [beginTransaction_of_none hnone, openTransaction, hop, Part.judges, Part.outFrame, hheld]
  · change beginTransaction 2#8 s.part = _
    simp [beginTransaction_of_none hnone, openTransaction, operationOf, Part.judges, Part.outFrame, hheld]
  · change beginTransaction header s.part = _
    rw [beginTransaction, if_pos (by simp [hopen])]
  · change statusTransaction 1#8 s.part = _
    simp [statusTransaction, operationOf, completeTransaction, beginTransaction_of_none hnone, openTransaction,
      finishTransaction, closeTransaction, Part.outFrame, Part.judges, Part.statusByte, hheld, hnone]

end Sys2Proof.Machine

/-! SUPPORT. The Time Base at a boundary, and the oscillator record with its lock (R4, R6 to R17). -/

namespace Sys2Proof.Machine

/-! ## A boundary and the Time Base (R6, R8 to R12) -/

/-- What a boundary leaves of the Time Base and of the blocks that take no part in it: the blocks' work moves the next
correction, and asks for a step only where no step mark stands. -/
structure BoundaryLeaves (p q : Part) : Prop where
  tb      : q.tb = { p.tb.boundary with next := q.tb.next, pendingStep := q.tb.pendingStep }
  step    : p.tb.boundary.stepMark = true → q.tb.pendingStep = p.tb.boundary.pendingStep
  osc     : q.osc = p.osc
  present : q.lineClock.present = p.lineClock.present
  mgmt    : q.mgmt = p.mgmt
  porn    : q.porn = p.porn
  wrst    : q.wrst = p.wrst

theorem hubBoundary_leaves (b : BoundaryArgs) {p : Part} (hporn : p.porn = false) :
    BoundaryLeaves p (hubBoundary b p) := by
  rw [hubBoundary, if_neg (by simp [hporn]), unlessHeld]
  split
  · exact ⟨rfl, fun _ => rfl, rfl, rfl, rfl, rfl, rfl⟩
  · have work := Within.boundaryEvent (countEdges b.line { p with tb := p.tb.boundary }) p.boundaryContext b
    refine ⟨by simpa using work.tb, fun hmark => ?_, by simpa using work.osc, ?_, by simpa using work.mgmt,
      by simpa using work.porn, by simpa using work.wrst⟩
    · simpa using work.step (by simp [Access.allBut, hmark])
    · rw [work.lineClock, countEdges_frame]
      dsimp only
      split <;> simp

/-- A step amount has one split into whole seconds and a remainder of at most half a second (R11). -/
theorem splitStep_eq {delta k n : Int} (h : delta = k * 1000000000 + n) (hlo : -500000000 ≤ n) (hhi : n < 500000000) :
    splitStep delta = (k, n) := by
  have hk : (delta + 500000000) / 1000000000 = k := by omega
  simp only [splitStep, hk]
  exact Prod.ext rfl (by dsimp only; omega)

/-- The Time Base at a boundary with no step pending (R8). -/
theorem TimeBase.boundary_plain {tb : TimeBase} (h : tb.pendingStep = none) :
    tb.boundary =
      { tb with second := (tb.second + 1) % 2 ^ 48, startNs := 0, holdNs := 0, lengthNs := 1000000000, elapsed := 0
                raw := tb.raw + tb.rawTime (tb.lengthNs * 65536), applied := tb.next, stepMark := false, hso := true } := by
  simp only [TimeBase.boundary, h]

/-- The Time Base at a boundary with a step pending (R11). -/
theorem TimeBase.boundary_step {tb : TimeBase} {delta k n : Int} (h : tb.pendingStep = some delta)
    (hsplit : splitStep delta = (k, n)) :
    tb.boundary =
      { tb with second := ((((tb.second + 1) % 2 ^ 48 : Nat) + k) % (2 ^ 48 : Nat)).toNat, startNs := n.toNat
                holdNs := (-n).toNat, lengthNs := (1000000000 - n).toNat, elapsed := 0, remainder := 0
                raw := tb.raw + tb.rawTime (tb.lengthNs * 65536), applied := tb.next, pendingStep := none
                stepMark := true, hso := true } := by
  simp only [TimeBase.boundary, h, hsplit]

/-- The reading at a boundary is the start of its second. -/
theorem TimeBase.counter_of_start {tb : TimeBase} (h : tb.elapsed = 0) :
    tb.counter = { sec := tb.second, ns := tb.startNs, frac := 0 } := by
  simp [TimeBase.counter, TimeBase.readingAt, h]

/-- Settles O7: the Time Base acts first, and the blocks' work leaves what it has written but for what is handed over. -/
theorem boundaryAdvancesOrStepsHubTime : Obligations.BoundaryAdvancesOrStepsHubTime := by
  refine ⟨fun b s hporn hstep => ⟨_, rfl, rfl, ?_⟩, fun b s delta k n hporn hstep hdelta hlo hhi => ⟨_, rfl, rfl, ?_⟩⟩
  · have leaves := hubBoundary_leaves b hporn
    simp only [settle_tb, settle_osc, settle_lineClock, settle_mgmt, settle_porn, settle_wrst]
    refine ⟨?_, leaves.osc, leaves.present, leaves.mgmt, leaves.porn, leaves.wrst⟩
    rw [← TimeBase.rawTime_eq]
    exact leaves.tb.trans (by rw [TimeBase.boundary_plain hstep])
  · have leaves := hubBoundary_leaves b hporn
    have hboundary := TimeBase.boundary_step hstep (splitStep_eq hdelta hlo hhi)
    have hpending : (hubBoundary b s.part).tb.pendingStep = none := by
      rw [leaves.step (by rw [hboundary]), hboundary]
    have hstart : (hubBoundary b s.part).tb.elapsed = 0 := by
      rw [leaves.tb, hboundary]
    simp only [settle_tb]
    rw [TimeBase.counter_of_start hstart, ← TimeBase.rawTime_eq]
    refine ⟨hpending, ?_⟩
    rw [leaves.tb, hboundary]
    refine ⟨rfl, rfl, rfl, rfl, rfl, ?_, ?_, rfl, ?_, ?_⟩ <;> dsimp only <;> omega

/-! ## The oscillator record through a command (R17) -/

/-- From one part to another the oscillator record stays, when it is locked. -/
def OscKept (p q : Part) : Prop := p.osc.locked = true → q.osc = p.osc

namespace OscKept

variable {p q r : Part}

theorem refl (p : Part) : OscKept p p := fun _ => rfl

theorem same (h : OscKept p q) (k : r.osc = q.osc) : OscKept p r := fun hl => k.trans (h hl)

theorem trans (h : OscKept p q) (k : OscKept q r) : OscKept p r :=
  fun hl => (k (by rw [h hl, hl])).trans (h hl)

theorem ite {c : Prop} [Decidable c] (h : OscKept p q) (k : OscKept p r) : OscKept p (if c then q else r) := by
  split
  · exact h
  · exact k

theorem work (h : OscKept p q) (k : WorkFrame q r) : OscKept p r := h.same k.osc

theorem port (h : OscKept p q) (k : PortFrame q r) : OscKept p r := h.same k.osc

theorem unlessHeld (h : OscKept p q) {f : Part → Part} (hf : OscKept q (f q)) : OscKept p (unlessHeld f q) :=
  ite h (h.trans hf)

theorem settle (h : OscKept p q) (waiting : List Instr) : OscKept p (settle waiting q) :=
  h.same (settle_osc _ _)

theorem loadIfDue (h : OscKept p q) : OscKept p (loadIfDue q) := h.same (by rw [loadIfDue_frame])

theorem passRaw (h : OscKept p q) (dt : Nat) : OscKept p (passRaw dt q) := ite h (h.same rfl)

theorem elapseToMs (h : OscKept p q) (ms : Nat) : OscKept p (elapseToMs ms q) := ite h (h.same rfl)

/-! ### Requests -/

theorem leaveDisabled_work (h : WorkFrame p q) (k : SlotIx) : WorkFrame p (leaveDisabled k q) := by
  unfold leaveDisabled startInput
  exact (h.withSlot k _).withInput k _

theorem writeEnabled_work (h : WorkFrame p q) (items : List Item) (k : SlotIx) : WorkFrame p (writeEnabled items k q) := by
  unfold writeEnabled
  split
  · exact .ite (leaveDisabled_work h k) h
  · exact .ite h (h.enterDisabled k)
  · exact h

theorem setSlotFields_work (k : SlotIx) (items : List Item) (p : Part) : WorkFrame p (setSlotFields k items p) := by
  have written := writeEnabled_work ((WorkFrame.refl p).withSlot k (writeSlot items)) items k
  exact .ite written (written.choose _)

theorem forceSlot_work (k : SlotIx) (p : Part) : WorkFrame p (forceSlot k p) := by
  have raised := ((WorkFrame.refl p).withSlot k fun r => { r with forced := true }).raiseSlot .forced k
  exact .ite (.refl p) (.choose (.ite raised (raised.enterFailed k)) _)

theorem lockoutSlot_work (k : SlotIx) (p : Part) : WorkFrame p (lockoutSlot k p) :=
  .ite (.refl p) (((WorkFrame.refl p).withSlot k _).choose _)

theorem releaseSlot_work (k : SlotIx) (p : Part) : WorkFrame p (releaseSlot k p) := by
  have released : WorkFrame p (releaseForced k p) :=
    (((WorkFrame.refl p).withSlot k _).clearSlot .forced k).clearSlot .failed k
  exact .ite (((WorkFrame.ite released (.refl p)).withSlot k _).choose _) (.refl p)

theorem preferSlot_work (pref : Option SlotIx) (p : Part) : WorkFrame p (preferSlot pref p) :=
  .ite (.refl p) (((WorkFrame.refl p).withHub _).choose _)

theorem bindSlot_work (k : SlotIx) (i : RecordIx) (p : Part) : WorkFrame p (bindSlot k i p) :=
  (leaveDisabled_work (((WorkFrame.refl p).withSlot k _).setReturnBinding i _) k).choose _

theorem retireRecord_work (i : RecordIx) (p : Part) : WorkFrame p (retireRecord i p) :=
  .ite (((WorkFrame.refl p).withRecord i _).recordLost i _) ((WorkFrame.refl p).endRetired _ i)

theorem disablePort_port (x : PortIx) (p : Part) : PortFrame p (disablePort x p) :=
  (((PortFrame.refl p).withPort x _).withEngine x _).reportOutcome x _

theorem setPortFields_port (x : PortIx) (items : List Item) (p : Part) : PortFrame p (setPortFields x items p) := by
  have written (f : PortRecord → PortRecord) : PortFrame p (withPort x f p) := (PortFrame.refl p).withPort x f
  unfold setPortFields
  dsimp only
  split
  · exact .ite ((written _).withPort x _) (written _)
  · exact .ite (written _) ((written _).trans (disablePort_port x _))
  · exact written _

theorem setPairFields_port (k : PairIx) (items : List Item) (p : Part) : PortFrame p (setPairFields k items p) := by
  have written (f : PairRecord → PairRecord) : PortFrame p (withPair k f p) := (PortFrame.refl p).withPair k f
  unfold setPairFields
  refine .ite (written _) ?_
  split
  · exact .ite (written _) ((written _).withPair k _)
  · exact .ite ((written _).enterWait k) (written _)
  · exact written _
  · exact written _

theorem switchPair_port (k : PairIx) (p : Part) : PortFrame p (switchPair k p) := by
  have passed := (PortFrame.refl p).switchPass k
  unfold switchPair
  split
  · exact passed.withPair k _
  · exact passed.withPair k _
  · exact passed.withPair k _
  · exact .refl p

theorem restorePair_port (k : PairIx) (p : Part) : PortFrame p (restorePair k p) :=
  .ite (.refl p) ((PortFrame.refl p).returnPair k)

theorem warmReset (h : OscKept p q) (kind : ResetKind) : OscKept p (warmReset kind q) := by
  have hstart : (warmStart kind q).osc = q.osc := rfl
  have hbound : (warmBound (warmStart kind q)).osc = q.osc := rfl
  rw [warmReset_eq]
  refine ite (h.same ((warmHoldover_steers _).frame.osc.trans hbound)) (h.same ?_)
  exact ((HubFrame.refl (warmStart kind q)).enterFreeRun.osc).trans hstart

theorem setOscillator (h : OscKept p q) (body : List Byte) : OscKept p (setOscillator body q).1 := by
  unfold Machine.setOscillator
  split
  · exact h
  · split
    · exact h
    · next hfree => exact h.trans fun hl => absurd hl hfree

theorem handleSet (h : OscKept p q) (table index : Byte) (body : List Byte) :
    OscKept p (handleSet table index body q).1 := by
  unfold Machine.handleSet
  split
  · unfold setRecordRequest
    repeat' split
    all_goals exact h.same rfl
  · unfold setReference
    split
    · exact h
    · split
      · exact h
      · exact h.work (setSlotFields_work _ _ q)
  · unfold setPortRequest
    split
    · exact h
    · split
      · exact h
      · exact h.port (setPortFields_port _ _ q)
  · unfold setPairRequest
    split
    · exact h
    · split
      · exact h
      · exact h.port (setPairFields_port _ _ q)
  · unfold setHub
    split
    · exact h
    · split
      · exact h
      · exact ite (h.same rfl) (h.work (((WorkFrame.refl q).withHub _).choose _))
  · exact h.setOscillator _
  · unfold setAlarm
    split <;> exact h.same rfl
  · exact h

theorem handleRequest (h : OscKept p q) (code : Nat) (body : List Byte) : OscKept p (handleRequest code body q).1 := by
  unfold Machine.handleRequest
  dsimp only
  split
  · exact h
  · exact (h.warmReset _).loadIfDue
  · exact h
  · exact h.handleSet _ _ _
  · exact h
  · unfold createRequest
    repeat' split
    all_goals exact h.same rfl
  · unfold retireRequest
    repeat' split
    any_goals exact h
    all_goals exact h.work (retireRecord_work _ q)
  · unfold bindRequest
    repeat' split
    any_goals exact h
    all_goals exact h.work (bindSlot_work _ _ q)
  · unfold unbindRequest
    repeat' split
    any_goals exact h
    all_goals exact h.work ((WorkFrame.refl q).unbindSlot _ _)
  · unfold forceFail
    repeat' split
    any_goals exact h
    all_goals exact h.work (forceSlot_work _ q)
  · unfold Machine.lockout
    split
    · exact h
    · exact h.work (lockoutSlot_work _ q)
  · unfold Machine.release
    split
    · exact h
    · exact h.work (releaseSlot_work _ q)
  · unfold Machine.prefer
    repeat' split
    any_goals exact h
    all_goals exact h.work (preferSlot_work _ q)
  · unfold switchRequest
    repeat' split
    any_goals exact h
    all_goals exact h.port (switchPair_port _ q)
  · unfold restoreRequest
    repeat' split
    any_goals exact h
    all_goals exact h.port (restorePair_port _ q)
  · exact h.same rfl
  · exact h.trans fun hl => by rw [lockOscillator, ← hl]
  · exact h

theorem withMgmt (h : OscKept p q) (m : MgmtPort) : OscKept p { q with mgmt := m } := h.same rfl

theorem takeRequest (h : OscKept p q) (frame : List Byte) : OscKept p (takeRequest frame q) := by
  have dealt : OscKept p (dealWith frame q).1 := by
    unfold dealWith
    split
    · exact h.handleRequest _ _
    · exact h
  exact dealt.same rfl

theorem takeWaiting (h : OscKept p q) : OscKept p (takeWaiting q) := by
  obtain ⟨frame, _, _, _, htake⟩ | ⟨_, htake⟩ := takeWaiting_cases q
  · rw [htake]
    exact (h.withMgmt _).takeRequest _
  · rwa [htake]

theorem placeRequest (h : OscKept p q) (frame : List Byte) : OscKept p (placeRequest frame q) := by
  unfold Machine.placeRequest
  refine ite h ?_
  split
  · exact h
  · exact (h.withMgmt _).takeWaiting

/-! ### Transactions and resets -/

theorem completeTransaction (h : OscKept p q) (op : Operation) (header : Byte) {effect : Part → Part}
    (heffect : ∀ r, OscKept r (effect r)) : OscKept p (completeTransaction op header effect q) := by
  have begun : OscKept p (beginTransaction header q) := ite h (h.same rfl)
  unfold Machine.completeTransaction
  dsimp only
  split
  · exact ite (OscKept.same (ite (begun.trans (heffect _)) begun) rfl) h
  · exact h

theorem releaseInputs (p : Part) : OscKept p (releaseInputs p) := by
  have released := forEach_induct (R := OscKept p) (fun k => withInput k (releasedInput k)) (fun k _ h => h.same rfl)
    allSlots p (refl p)
  exact released.same rfl

theorem releasePorn (h : OscKept p q) (since : Option Nat) : OscKept p (releasePorn since q) := by
  unfold Machine.releasePorn
  refine ite (OscKept.loadIfDue (OscKept.unlessHeld ?_ (releaseInputs _))) h
  exact h.same rfl

theorem assertWrst (h : OscKept p q) : OscKept p (assertWrst q) :=
  ite h (ite (h.same rfl) ((h.warmReset .warmPin).same rfl))

theorem releaseWrst (h : OscKept p q) : OscKept p (releaseWrst q) := ite (OscKept.loadIfDue (h.same rfl)) h

/-! ### Events -/

theorem hubBoundary (h : OscKept p q) (b : BoundaryArgs) : OscKept p (hubBoundary b q) := by
  by_cases hporn : q.porn = true
  · rw [Machine.hubBoundary, if_pos hporn]
    exact h
  · exact h.same (hubBoundary_leaves b (by simpa using hporn)).osc

theorem beginSlot (h : OscKept p q) (x : PortIx) (slot : PortSlot) : OscKept p (beginSlot x slot q) :=
  h.port (((PortFrame.refl q).endSlot x).withEngine x _)

theorem decideSlot (h : OscKept p q) (x : PortIx) (o : SlotOutcome) (e : SlotError) : OscKept p (decideSlot x o e q) :=
  h.port ((PortFrame.refl q).decideSlot x o e)

theorem beginRecordSlot (h : OscKept p q) (x : PortIx) (t1 : Stamp) (i : RecordIx) :
    OscKept p (beginRecordSlot x t1 i q) := by
  have counted (f : ServiceRecord → ServiceRecord) : OscKept p (if (q.record i).state = .retiring then withRecord i f q else q) :=
    ite (h.same rfl) h
  exact ite ((counted _).work ((WorkFrame.refl _).recordOutcome _ _ _ _ _)) (ite ((counted _).same rfl) (counted _))

theorem delaySlotStart (h : OscKept p q) (x : PortIx) (a : Address) : OscKept p (delaySlotStart x a q) := by
  refine (h.elapseToMs _).unlessHeld ?_
  have begun : ∀ r, OscKept r (Machine.beginSlot x (.address a) r) := fun r => (refl r).beginSlot _ _
  dsimp only
  split
  · exact begun _
  · exact ite (begun _) ((begun _).beginRecordSlot _ _ _)

theorem openSlotStart (h : OscKept p q) (x : PortIx) : OscKept p (openSlotStart x q) := by
  refine (ite (h.elapseToMs _) h).unlessHeld ?_
  have begun : ∀ r, OscKept r (Machine.beginSlot x .openSlot r) := fun r => (refl r).beginSlot _ _
  exact ite (ite ((begun _).same rfl) ((begun _).same rfl)) (refl _)

theorem verdictSlotStart (h : OscKept p q) (x : PortIx) : OscKept p (verdictSlotStart x q) := by
  refine (ite (h.elapseToMs _) h).unlessHeld (ite ?_ (refl _))
  generalize (if q.tb.holdsOpen = true then Machine.elapseToMs 700 q else q) = r
  have begun : OscKept r (Machine.beginSlot x .verdictSlot r) := (refl r).beginSlot _ _
  dsimp only
  split
  · exact begun
  · exact ite (begun.same rfl) (begun.same rfl)

theorem quietSlotStart (h : OscKept p q) (x : PortIx) : OscKept p (quietSlotStart x q) :=
  (h.elapseToMs _).unlessHeld ((refl _).beginSlot _ _)

theorem frameSent (h : OscKept p q) (x : PortIx) : OscKept p (frameSent x q) := by
  refine h.unlessHeld ?_
  have delivered (t : SlotTarget) (f : Engine → Engine) : OscKept q (delaySent t (withEngine x f q)) :=
    ite ((refl q).same rfl) ((refl q).same rfl)
  dsimp only
  split
  · split
    · exact delivered _ _
    all_goals exact (refl q).same rfl
  all_goals exact refl q

theorem frameAborted (h : OscKept p q) (x : PortIx) (bit : Nat) (level : LineLevel) :
    OscKept p (frameAborted x bit level q) := by
  refine h.unlessHeld ?_
  split
  · have marked (f : Engine → Engine) : OscKept q (withEngine x f q) := (refl q).same rfl
    exact ite ((marked _).decideSlot _ _ _) (refl q)
  all_goals exact refl q

theorem windowClosed (h : OscKept p q) (x : PortIx) : OscKept p (windowClosed x q) := by
  refine h.unlessHeld ?_
  split
  · exact (refl q).decideSlot _ _ _
  all_goals exact refl q

theorem responseStarted (h : OscKept p q) (x : PortIx) : OscKept p (responseStarted x q) := by
  refine h.unlessHeld ?_
  split <;> exact (refl q).same rfl

theorem responseFailed (h : OscKept p q) (x : PortIx) (characters : List LineChar) :
    OscKept p (responseFailed x characters q) := by
  refine h.unlessHeld ?_
  split
  · split
    · exact refl q
    · exact (refl q).decideSlot _ _ _
  all_goals exact refl q

theorem responseAccepted (h : OscKept p q) (x : PortIx) (o : SlotOutcome) : OscKept p (responseAccepted x o q) :=
  h.unlessHeld (ite ((refl q).decideSlot _ _ _) (refl q))

theorem echoReceived (h : OscKept p q) (x : PortIx) (characters : List LineChar) :
    OscKept p (echoReceived x characters q) := by
  unfold Machine.echoReceived
  split
  · exact h.responseAccepted _ _
  · exact h

theorem leaveReceived (h : OscKept p q) (x : PortIx) (characters : List LineChar) :
    OscKept p (leaveReceived x characters q) := ite (h.responseAccepted _ _) h

theorem distressReceived (h : OscKept p q) (x : PortIx) (characters : List LineChar) :
    OscKept p (distressReceived x characters q) := ite (h.responseAccepted _ _) h

theorem decideEnrol (h : OscKept p q) (x : PortIx) (identity : Identity) (wish : Option Address) :
    OscKept p (decideEnrol x identity wish q).1 := by
  unfold Machine.decideEnrol
  repeat' split
  all_goals exact h.same rfl

theorem enrolReceived (h : OscKept p q) (x : PortIx) (characters : List LineChar) :
    OscKept p (enrolReceived x characters q) := by
  unfold Machine.enrolReceived
  split
  · next identity wish _ =>
    have taken : OscKept q (setSlotError x .none (withEngine x (fun e => { e with activity := .idle }) q)) :=
      (refl q).same rfl
    exact h.unlessHeld (ite ((taken.decideEnrol x identity wish).same rfl) (refl q))
  · exact h

theorem wakePulse (h : OscKept p q) (x : PortIx) : OscKept p (wakePulse x q) :=
  h.unlessHeld (ite (refl q) ((refl q).same rfl))

theorem ppsEdge (h : OscKept p q) (k : SlotIx) : OscKept p (ppsEdge k q) :=
  h.unlessHeld (ite ((refl q).same rfl) (refl q))

theorem completeTodMessage_work (k : SlotIx) (m : OpenMessage) (p : Part) : WorkFrame p (completeTodMessage k m p) := by
  have written (f : SlotInput → SlotInput) : WorkFrame p (withInput k f p) := (WorkFrame.refl p).withInput k f
  unfold completeTodMessage
  split
  · exact .refl p
  · unfold takeTod
    dsimp only
    split
    · exact written _
    · refine .ite (written _) (.ite ((written _).withInput k _) ?_)
      have done := (written (recordTod ‹TodMessage›)).withInput k fun y => { y with pendingEdge := none }
      exact .ite (done.completeRead _ _ _ _ _ _) (done.completeSample _ _)

theorem completePktMessage_work (m : OpenMessage) (p : Part) : WorkFrame p (completePktMessage m p) := by
  unfold completePktMessage
  split
  · exact .refl p
  · have written (f : SlotInput → SlotInput) : WorkFrame p (withInput pktSlot f p) := (WorkFrame.refl p).withInput _ f
    exact .ite (.refl p) (.ite (.ite (.refl p) ((WorkFrame.refl p).completeSample _ _))
      (.ite (.refl p) (.ite (written _) ((written _).completeRead _ _ _ _ _ _))))

theorem todMessage (h : OscKept p q) (k : SlotIx) (characters : List SerialChar) :
    OscKept p (todMessage k characters q) :=
  h.unlessHeld (ite (forEach_induct (R := OscKept q) _ (fun m _ h => h.work (completeTodMessage_work k m _)) _ _
    ((refl q).same rfl)) (refl q))

theorem pktMessage (h : OscKept p q) (characters : List SerialChar) : OscKept p (pktMessage characters q) :=
  h.unlessHeld (ite (forEach_induct (R := OscKept q) _ (fun m _ h => h.work (completePktMessage_work m _)) _ _
    ((refl q).same rfl)) (refl q))

theorem lineEvent (h : OscKept p q) (x : PortIx) (e : LineEvent) : OscKept p (lineEvent x e q) := by
  cases e
  · exact h.delaySlotStart _ _
  · exact h.openSlotStart _
  · exact h.verdictSlotStart _
  · exact h.quietSlotStart _
  · exact h.frameAborted _ _ _
  · exact h.windowClosed _
  · exact h.responseFailed _ _
  · exact h.echoReceived _ _
  · exact h.leaveReceived _ _
  · exact h.distressReceived _ _

theorem runCause (h : OscKept p q) (c : Cause) : OscKept p (runCause c q) := by
  cases c
  · exact h.hubBoundary _
  · exact h.lineEvent _ _
  · exact h.todMessage _ _
  · exact h.pktMessage _
  · exact h.placeRequest _

end OscKept

/-- Every command but PORN_ASSERT keeps a locked oscillator record (R17). -/
theorem commandWork_osc {c : Instr} (hc : c ≠ .pornAssert) (p : Part) : OscKept p (commandWork c p) := by
  have boundary (b : BoundaryArgs) (reached : Bool) : OscKept p (whenReached reached (hubBoundary b) p) :=
    .ite ((OscKept.refl p).hubBoundary b) (.refl p)
  have cause (c : Cause) (reached : Bool) : OscKept p (whenReached reached (runCause c) p) :=
    .ite ((OscKept.refl p).runCause c) (.refl p)
  cases c with
  | status header => exact .ite ((OscKept.refl p).completeTransaction _ _ .refl) (.refl p)
  | writeM dt frame =>
    exact ((OscKept.refl p).passRaw dt).completeTransaction _ _ fun r => (OscKept.refl r).placeRequest frame
  | readM dt =>
    exact ((OscKept.refl p).passRaw dt).completeTransaction _ _ fun r => ((OscKept.refl r).withMgmt _).takeWaiting
  | readA =>
    exact (OscKept.refl p).completeTransaction _ _ fun r => OscKept.loadIfDue ((OscKept.refl r).same rfl)
  | unknownRequest frame => exact .ite ((OscKept.refl p).placeRequest _) (.refl p)
  | lookOscillatorRecord dt tag index => exact ((OscKept.refl p).passRaw dt).placeRequest _
  | alarmBufferLoad => exact (OscKept.refl p).loadIfDue
  | pornAssert => exact absurd rfl hc
  | pornRelease since => exact (OscKept.refl p).releasePorn since
  | wrstnAssert => exact (OscKept.refl p).assertWrst
  | wrstnRelease => exact (OscKept.refl p).releaseWrst
  | hubSecondBoundary b => exact (OscKept.refl p).hubBoundary b
  | stepHoldEnd => exact .ite (.refl p) ((OscKept.refl p).same rfl)
  | hsoFall => exact .ite (.refl p) ((OscKept.refl p).same rfl)
  | lockEntry b => exact boundary b _
  | outOfWindowReacquire b => exact boundary b _
  | autoRetire i b => exact boundary b _
  | lineFaultEntry q b => exact boundary b _
  | lineCleanEntry q b => exact boundary b _
  | portPark q b => exact boundary b _
  | pairWtrExpiry k b => exact boundary b _
  | delaySlotStart q a => exact (OscKept.refl p).delaySlotStart q a
  | openSlotStart q => exact (OscKept.refl p).openSlotStart q
  | verdictSlotStart q => exact (OscKept.refl p).verdictSlotStart q
  | quietSlotStart q => exact (OscKept.refl p).quietSlotStart q
  | frameSentWhole q => exact (OscKept.refl p).frameSent q
  | readbackMismatch q bit level => exact (OscKept.refl p).frameAborted q bit level
  | responseWindowClose q => exact (OscKept.refl p).windowClosed q
  | responseStart dt q => exact ((OscKept.refl p).passRaw dt).responseStarted q
  | responseError q characters => exact (OscKept.refl p).responseFailed q characters
  | echo q characters => exact (OscKept.refl p).echoReceived q characters
  | delayStep q characters => exact .ite ((OscKept.refl p).echoReceived q characters) (.refl p)
  | leave q characters => exact (OscKept.refl p).leaveReceived q characters
  | distress q characters => exact (OscKept.refl p).distressReceived q characters
  | enrol q characters => exact (OscKept.refl p).enrolReceived q characters
  | wakePulse q => exact (OscKept.refl p).wakePulse q
  | ppsEdge dt k => exact ((OscKept.refl p).passRaw dt).ppsEdge _
  | todMessage k characters => exact (OscKept.refl p).todMessage _ characters
  | pktMessage characters => exact (OscKept.refl p).pktMessage characters
  | transactionBegin header => exact .ite (.refl p) ((OscKept.refl p).same rfl)
  | statisticsWindowClose i c => exact cause c _
  | silentEntry i c => exact cause c _
  | retireUnacknowledged i c => exact cause c _
  | jumpReferenceRetake k c => exact cause c _
  | slotQualify k c => exact cause c _
  | slotHoldOffFail k c => exact cause c _
  | slotOutlierFail k c => exact cause c _
  | transactionCutShort | lineClockLost | lineClockReturn | almPulseEnd | mgtPulseEnd | almOwedPulse | mgtOwedPulse =>
    exact (OscKept.refl p).same rfl
  | _ => exact (OscKept.refl p).placeRequest _

/-- Every step but a power-on reset keeps a locked oscillator record (R17). -/
theorem step_osc {s t : State} (hlocked : s.part.osc.locked = true) (hnext : s.pending.head? ≠ some .pornAssert)
    (hstep : step s = .next t) : t.part.osc = s.part.osc := by
  obtain ⟨p, queue⟩ := s
  cases queue with
  | nil =>
    obtain rfl := Host.Outcome.next.inj hstep
    rfl
  | cons c rest =>
    have hc : c ≠ .pornAssert := fun h => hnext (by rw [h]; rfl)
    rw [step_cons, exec_done, commandDone_next] at hstep
    obtain rfl := Host.Outcome.next.inj hstep
    exact (settle_osc _ _).trans (commandWork_osc hc p hlocked)

/-! ## Requests that are taken at once (R189 to R191) -/

/-- A request of a known code and an allowed length is answered as it is placed, when the channel is ready. -/
theorem placeRequest_answers {p q : Part} {code tag : Byte} {body : List Byte} {r : Reply} (hready : p.Ready)
    (hlen : body.length ≤ 253) (hknown : lengthAllowed code.toNat (body.length + 2) = some true)
    (hact : handleRequest code.toNat body p = (q, r)) :
    placeRequest (code :: tag :: body) p = q.answer code tag r := by
  obtain ⟨hheld, hinbound, hreply⟩ := hready
  have htaken := placeRequest_taken (code :: tag :: body) p hheld hinbound hreply (by simpa using by omega)
  rw [dealWith_known hknown, hact] at htaken
  exact htaken

/-- A SET of items that fit is answered by its table. -/
theorem completes_set {c : Instr} {s : State} {tag table index : Byte} {items : List RawItem} {q : Part} {r : Reply}
    (hexec : exec c s = request 0x11#8 tag (table :: index :: joinItems items) s) (hready : s.part.Ready)
    (hne : items ≠ []) (hfit : itemsFit 251 items = true)
    (hact : handleSet table index (joinItems items) s.part = (q, r)) : Completes c s (q.answer 0x11#8 tag r) := by
  have hroom := (itemsFit_iff.1 hfit).2
  have htwo : 2 ≤ (joinItems items).length := by
    obtain ⟨it, rest, rfl⟩ := List.exists_cons_of_ne_nil hne
    simp [joinItems_cons]
  refine completes_request hexec hready (by simpa using by omega) ?_ hact
  exact congrArg some (decide_eq_true (by simpa using htwo))

theorem passRaw_ready {p : Part} (dt : Nat) (h : p.Ready) : (passRaw dt p).Ready := by
  obtain ⟨hheld, hinbound, hreply⟩ := h
  have hmgmt : (passRaw dt p).mgmt = p.mgmt := by
    unfold passRaw
    split <;> rfl
  exact ⟨by simpa using hheld, by rw [hmgmt, hinbound], by rw [hmgmt, hreply]⟩

/-- The passing of time leaves the oscillator record and the applied correction. -/
theorem passRaw_osc (dt : Nat) (p : Part) :
    (passRaw dt p).osc = p.osc ∧ (passRaw dt p).tb.applied = p.tb.applied := by
  unfold passRaw
  split <;> exact ⟨rfl, rfl⟩

/-- Settles O11: LOCK-OSC and the refused SET by the rules for requests, the lock by the step lemma, LOOK as taken. -/
theorem oscillatorRecordIsShownAndLocked : Obligations.OscillatorRecordIsShownAndLocked := by
  refine ⟨fun s tag hready => completes_request rfl hready (by simp) rfl rfl,
    fun s tag index items hready hlocked hne hfit htakes => completes_set rfl hready hne hfit ?_, fun _ _ => step_osc,
    fun s dt tag index hready => completes_of_work ?_⟩
  · obtain ⟨_, _, hread⟩ := readItems_joinItems hfit ((oscillatorAdmits_eq items).symm.trans htakes)
    change setOscillator (joinItems items) s.part = _
    simp only [setOscillator, hread, hlocked]
    rfl
  · change placeRequest [0x10#8, tag, 5, index] (passRaw dt s.part) = _
    obtain ⟨hosc, happlied⟩ := passRaw_osc dt s.part
    refine placeRequest_answers (passRaw_ready dt hready) (by simp) rfl ?_
    change (passRaw dt s.part, Reply.doneWith (lookOscillatorBody (passRaw dt s.part))) = _
    rw [lookOscillatorBody, hosc, happlied]
    rfl

end Sys2Proof.Machine

/-! SUPPORT. Answers as the part shows them, standing conditions under a report, and the host's controls over the slots
(R41, R46 to R51, R54, R55, R58 to R60). -/

namespace Sys2Proof.Machine

/-! ## An answer and the end of a command change the Management Port and the loading alone -/

section Answer

variable (p : Part) (code tag : Byte) (r : Reply)

@[simp] theorem answer_tb : (p.answer code tag r).tb = p.tb := rfl
@[simp] theorem answer_osc : (p.answer code tag r).osc = p.osc := rfl
@[simp] theorem answer_lineClock : (p.answer code tag r).lineClock = p.lineClock := rfl
@[simp] theorem answer_inputs : (p.answer code tag r).inputs = p.inputs := rfl
@[simp] theorem answer_slots : (p.answer code tag r).slots = p.slots := rfl
@[simp] theorem answer_selected : (p.answer code tag r).selected = p.selected := rfl
@[simp] theorem answer_hub : (p.answer code tag r).hub = p.hub := rfl
@[simp] theorem answer_records : (p.answer code tag r).records = p.records := rfl
@[simp] theorem answer_ports : (p.answer code tag r).ports = p.ports := rfl
@[simp] theorem answer_engines : (p.answer code tag r).engines = p.engines := rfl
@[simp] theorem answer_pairs : (p.answer code tag r).pairs = p.pairs := rfl
@[simp] theorem answer_alarm : (p.answer code tag r).alarm = p.alarm := rfl
@[simp] theorem answer_porn : (p.answer code tag r).porn = p.porn := rfl
@[simp] theorem answer_wrst : (p.answer code tag r).wrst = p.wrst := rfl
@[simp] theorem answer_slot (k : SlotIx) : (p.answer code tag r).slot k = p.slot k := rfl
@[simp] theorem answer_input (k : SlotIx) : (p.answer code tag r).input k = p.input k := rfl
@[simp] theorem answer_record (i : RecordIx) : (p.answer code tag r).record i = p.record i := rfl
@[simp] theorem answer_port (q : PortIx) : (p.answer code tag r).port q = p.port q := rfl
@[simp] theorem answer_engine (q : PortIx) : (p.answer code tag r).engine q = p.engine q := rfl
@[simp] theorem answer_pair (k : PairIx) : (p.answer code tag r).pair k = p.pair k := rfl

end Answer

@[simp] theorem load_standingOf (a : AlarmUnit) (o : Owner) : a.load.standingOf o = a.standingOf o := by
  unfold AlarmUnit.load
  split <;> cases o <;> rfl

@[simp] theorem settle_standingOf (waiting : List Instr) (p : Part) (o : Owner) :
    (settle waiting p).alarm.standingOf o = p.alarm.standingOf o := by
  unfold settle loadIfDue
  split
  · rfl
  · split
    · rfl
    · exact load_standingOf _ o

/-- The part after an answered request: the owner's work, the answer, and the loading that is due. -/
def answered (waiting : List Instr) (code tag : Byte) (r : Reply) (q : Part) : Part :=
  settle waiting (q.answer code tag r)

section Answered

variable {w : List Instr} {code tag : Byte} {r : Reply} {p q : Part} {k : SlotIx} {i : RecordIx}

theorem answered_keepsTables (h : KeepsTables p q) : KeepsTables p (answered w code tag r q) := by
  simpa [answered, KeepsTables] using h

theorem answered_keepsBase (h : KeepsBase p q) : KeepsBase p (answered w code tag r q) := by
  simpa [answered, KeepsBase] using h

theorem answered_keepsOtherSlots (h : KeepsOtherSlots k p q) : KeepsOtherSlots k p (answered w code tag r q) := by
  simpa [answered, KeepsOtherSlots] using h

theorem answered_keepsOtherRecords (h : KeepsOtherRecords i p q) : KeepsOtherRecords i p (answered w code tag r q) := by
  simpa [answered, KeepsOtherRecords] using h

/-- The Management Port after an answered request is that of the part before it with the answer. -/
theorem answered_mgmt (hmgmt : q.mgmt = p.mgmt) (hsettings : q.alarm.settings = p.alarm.settings) :
    (answered w code tag r q).mgmt = (p.answer code tag r).mgmt := by
  rw [answered, settle_mgmt]
  exact answer_mgmt_eq code tag r hmgmt hsettings

@[simp] theorem answered_tb : (answered w code tag r q).tb = q.tb := by simp [answered]
@[simp] theorem answered_osc : (answered w code tag r q).osc = q.osc := by simp [answered]
@[simp] theorem answered_inputs : (answered w code tag r q).inputs = q.inputs := by simp [answered]
@[simp] theorem answered_slots : (answered w code tag r q).slots = q.slots := by simp [answered]
@[simp] theorem answered_selected : (answered w code tag r q).selected = q.selected := by simp [answered]
@[simp] theorem answered_hub : (answered w code tag r q).hub = q.hub := by simp [answered]
@[simp] theorem answered_records : (answered w code tag r q).records = q.records := by simp [answered]
@[simp] theorem answered_ports : (answered w code tag r q).ports = q.ports := by simp [answered]
@[simp] theorem answered_engines : (answered w code tag r q).engines = q.engines := by simp [answered]
@[simp] theorem answered_pairs : (answered w code tag r q).pairs = q.pairs := by simp [answered]
@[simp] theorem answered_slot (j : SlotIx) : (answered w code tag r q).slot j = q.slot j := by simp [answered]
@[simp] theorem answered_input (j : SlotIx) : (answered w code tag r q).input j = q.input j := by simp [answered]
@[simp] theorem answered_record (j : RecordIx) : (answered w code tag r q).record j = q.record j := by simp [answered]
@[simp] theorem answered_port (j : PortIx) : (answered w code tag r q).port j = q.port j := by simp [answered]
@[simp] theorem answered_engine (j : PortIx) : (answered w code tag r q).engine j = q.engine j := by simp [answered]
@[simp] theorem answered_pair (j : PairIx) : (answered w code tag r q).pair j = q.pair j := by simp [answered]
@[simp] theorem answered_standingOf (o : Owner) :
    (answered w code tag r q).alarm.standingOf o = q.alarm.standingOf o := by simp [answered]

end Answered

/-! ## The frames that claims name, from the leave that an operation needs -/

namespace Within

variable {A : Access} {p q : Part}

theorem records_eq (h : Within A p q) (hr : ∀ i, ¬ A.records i) : q.records = p.records :=
  Vector.ext fun n hn => h.records ⟨n, hn⟩ (hr _)

theorem slots_eq (h : Within A p q) (hs : ∀ k, ¬ A.slots k) : q.slots = p.slots :=
  Vector.ext fun n hn => h.slots ⟨n, hn⟩ (hs _)

theorem inputs_eq (h : Within A p q) (hs : ∀ k, ¬ A.slots k) : q.inputs = p.inputs :=
  Vector.ext fun n hn => h.inputs ⟨n, hn⟩ (hs _)

theorem ports_eq (h : Within A p q) (hp : ∀ x, ¬ A.ports x) : q.ports = p.ports :=
  Vector.ext fun n hn => h.ports ⟨n, hn⟩ (hp _)

theorem engines_eq (h : Within A p q) (he : ∀ x, ¬ A.engines x) : q.engines = p.engines :=
  Vector.ext fun n hn => h.engines ⟨n, hn⟩ (he _)

theorem pairs_eq (h : Within A p q) (hk : ∀ k, ¬ A.pairs k) : q.pairs = p.pairs :=
  Vector.ext fun n hn => h.pairs ⟨n, hn⟩ (hk _)

theorem keepsTables (h : Within A p q) (hr : ∀ i, ¬ A.records i) (hp : ∀ x, ¬ A.ports x) (he : ∀ x, ¬ A.engines x)
    (hk : ∀ k, ¬ A.pairs k) : KeepsTables p q := ⟨h.records_eq hr, h.ports_eq hp, h.engines_eq he, h.pairs_eq hk⟩

theorem keepsBase (h : Within A p q) (hstep : ¬ A.step) : KeepsBase p q :=
  ⟨h.osc, h.lineClock, h.porn, h.wrst, by rw [h.tb, h.step hstep]⟩

theorem keepsOtherSlots (h : Within A p q) {k : SlotIx} (hs : ∀ j, A.slots j → j = k) : KeepsOtherSlots k p q :=
  fun j hj => ⟨h.slots j fun ha => hj (hs j ha), h.inputs j fun ha => hj (hs j ha)⟩

theorem keepsOtherRecords (h : Within A p q) {i : RecordIx} (hr : ∀ j, A.records j → j = i) : KeepsOtherRecords i p q :=
  fun j hj => h.records j fun ha => hj (hr j ha)

end Within

/-- Leave for a choice alone: the hub record, the hub's entry and the hub's standing conditions. -/
def Access.choosing : Access :=
  { hub := True, step := False, slots := fun _ => False, records := fun _ => False, ports := fun _ => False
    engines := fun _ => False, pairs := fun _ => False, owners := fun o => o = .hub, marks := fun o _ => o = .hub }

/-- Leave for a choice and for one slot. -/
def Access.choosingSlot (k : SlotIx) : Access :=
  { Access.choosing with
    slots := fun j => j = k, owners := fun o => o = .hub ∨ o = .slot k, marks := fun o _ => o = .hub ∨ o = .slot k }

/-- Leave for a choice, for one slot and for one record, which a return binding joins. -/
def Access.binding (k : SlotIx) (i : RecordIx) : Access := { Access.choosingSlot k with records := fun j => j = i }

namespace Access

theorem choosing_choice : choosing.Choice := ⟨trivial, rfl, fun _ _ => rfl⟩
theorem choosingSlot_choice (k : SlotIx) : (choosingSlot k).Choice := ⟨trivial, .inl rfl, fun _ _ => .inl rfl⟩
theorem choosingSlot_slot (k : SlotIx) : (choosingSlot k).Slot k := ⟨rfl, .inr rfl, fun _ => .inr rfl⟩
theorem binding_choice (k : SlotIx) (i : RecordIx) : (binding k i).Choice := ⟨trivial, .inl rfl, fun _ _ => .inl rfl⟩
theorem binding_slot (k : SlotIx) (i : RecordIx) : (binding k i).Slot k := ⟨rfl, .inr rfl, fun _ => .inr rfl⟩

end Access

/-! ## Standing conditions under a report (R170) -/

/-- A raise of a standing condition puts it into its owner's set. -/
theorem take_raised {a : AlarmUnit} {r : Report} (hraise : r.isRaise = true) (hs : r.condition.standing = true) :
    hasCondition ((a.take r).standingOf r.owner) r.condition = true := by
  rw [take_standingOf, if_pos (by simp [AlarmUnit.passesOn, hraise]), AlarmUnit.updateStanding, if_pos hs, if_pos hraise,
    standingOf_setStanding, if_pos rfl]
  exact hasCondition_or_mask _ _

/-- A clear of a standing condition takes it out of its owner's set. -/
theorem take_cleared {a : AlarmUnit} {r : Report} (hclear : r.isRaise = false) (hs : r.condition.standing = true) :
    hasCondition ((a.take r).standingOf r.owner) r.condition = false := by
  rw [take_standingOf]
  split
  · rw [AlarmUnit.updateStanding, if_pos hs, if_neg (by simp [hclear]), standingOf_setStanding, if_pos rfl]
    have hmask := hasCondition_mask r.condition
    simp only [hasCondition] at hmask ⊢
    simp [hmask]
  · next hpass => simpa [AlarmUnit.passesOn, hclear] using hpass

/-- A report leaves every condition but its own. -/
theorem take_other {a : AlarmUnit} {r : Report} {o : Owner} {c : Condition}
    (h : r.condition.standing = true → ¬ (r.owner = o ∧ r.condition.bit = c.bit)) :
    hasCondition ((a.take r).standingOf o) c = hasCondition (a.standingOf o) c := by
  rw [take_standingOf]
  split
  · exact updateStanding_getLsbD h
  · rfl

/-- A choice moves no condition of a slot or a record. -/
theorem choose_standing (loss : SelectionCause) (p : Part) {o : Owner} (ho : o ≠ .hub) (c : Condition) :
    hasCondition ((choose loss p).alarm.standingOf o) c = hasCondition (p.alarm.standingOf o) c :=
  ((Within.refl .choosing p).choose Access.choosing_choice loss).alarm.marks o _ ho

theorem choose_slotStanding (loss : SelectionCause) (p : Part) (k : SlotIx) (c : Condition) :
    hasCondition ((choose loss p).alarm.standingOf (.slot k)) c = hasCondition (p.alarm.standingOf (.slot k)) c :=
  choose_standing loss p (o := .slot k) nofun c

theorem choose_inputs (loss : SelectionCause) (p : Part) : (choose loss p).inputs = p.inputs :=
  ((HubFrame.refl p).choose loss).inputs

/-! ## The choice (R58, R59) -/

/-- A choice takes an eligible slot, whatever the revertive setting. -/
theorem choice_eligible {p : Part} {k : SlotIx} (h : p.choice = some k) : p.eligible k = true := by
  unfold Part.choice at h
  split at h
  · exact best_eligible h
  · split at h
    · exact best_eligible h
    · next j _ =>
      split at h
      · exact best_eligible h
      · next heligible =>
        have hj : p.eligible j = true := by simpa using heligible
        split at h
        · split at h
          · obtain rfl := Option.some.inj h
            exact hj
          · exact best_eligible h
        · obtain rfl := Option.some.inj h
          exact hj

/-- A slot that is not eligible is not selected after a choice. -/
theorem choose_selected_ne {loss : SelectionCause} {p : Part} {k : SlotIx} (h : p.eligible k = false) :
    (choose loss p).selected ≠ some k := by
  rw [choose_selected]
  intro hk
  rw [choice_eligible hk] at h
  exact Bool.noConfusion h

/-- An eligible preferred slot is the choice under the revertive setting (R58). -/
theorem choice_of_preferred {p : Part} {k : SlotIx} (hrevertive : p.hub.settings.revertive = true)
    (hpreferred : p.hub.settings.preferred = some k) (heligible : p.eligible k = true) : p.choice = some k := by
  simp only [Part.choice, Part.best, hrevertive, hpreferred, heligible, if_true]

theorem choose_hub_settings (loss : SelectionCause) (p : Part) : (choose loss p).hub.settings = p.hub.settings :=
  (choose_steered loss p).settings

/-! ## Answers that name a slot (R199) -/

theorem indexOf_eq_some {n : Nat} {b : Byte} {k : Fin n} (h : indexOf n b = some k) : k.val = b.toNat := by
  unfold indexOf at h
  split at h
  · obtain rfl := Option.some.inj h
    rfl
  · simp at h

theorem byte_toNat (b : Byte) : byte b.toNat = b := by simp [byte]

/-- The body that names a slot starts with the byte that the request named it by. -/
theorem slotBody_of_index {slot : Byte} {k : SlotIx} (h : indexOf 6 slot = some k) (p : Part) :
    slotBody k p = [slot, byte (p.slot k).state.code] := by
  rw [slotBody, indexOf_eq_some h, byte_toNat]

/-! ## FORCE-FAIL and RELEASE (R46 to R48, R50) -/

section Force

variable (k : SlotIx) (p : Part)

theorem forceSlot_within : Within (.choosingSlot k) p (forceSlot k p) := by
  have hk := Access.choosingSlot_slot k
  have raised := ((Within.refl (.choosingSlot k) p).withSlot hk.slot fun r => { r with forced := true }).raiseSlot hk .forced
  exact .ite (.refl _ p) (Within.choose (.ite raised (raised.enterFailed hk)) (Access.choosingSlot_choice k) _)

/-- The part that FORCE-FAIL hands to the choice: the slot is FAILED, by the raise of FORCED or by the entry (R48). -/
def forcedFailed : Part :=
  let q := raiseSlot .forced k (withSlot k (fun r => { r with forced := true }) p)
  if (p.slot k).state = .failed then q else enterFailed k q

theorem forceSlot_eq (h : (p.slot k).forced = false) : forceSlot k p = choose .forced (forcedFailed k p) := by
  rw [forceSlot, if_neg (by simp [h]), forcedFailed]

theorem raiseSlot_withSlot (c : Condition) (f : SlotRecord → SlotRecord) :
    (raiseSlot c k (withSlot k f p)).slot k = f (p.slot k) := slot_setSlot_self p k _

theorem enterFailed_slot :
    (enterFailed k p).slot k = { p.slot k with state := .failed, goodRun := 0, badRun := 0, outlierRun := 0 } :=
  slot_setSlot_self p k _

theorem forcedFailed_slot :
    ((forcedFailed k p).slot k).forced = true ∧ ((forcedFailed k p).slot k).state = .failed := by
  unfold forcedFailed
  dsimp only
  split
  · next hfailed =>
    rw [raiseSlot_withSlot]
    exact ⟨rfl, hfailed⟩
  · rw [enterFailed_slot, raiseSlot_withSlot]
    exact ⟨rfl, rfl⟩

theorem forcedFailed_inputs : (forcedFailed k p).inputs = p.inputs := by
  unfold forcedFailed
  dsimp only
  split <;> rfl

theorem forcedFailed_standing : hasCondition ((forcedFailed k p).alarm.standingOf (.slot k)) .forced = true := by
  have raised (q : Part) : hasCondition ((raiseSlot .forced k q).alarm.standingOf (.slot k)) .forced = true :=
    take_raised (r := slotReport .forced true k q) rfl rfl
  unfold forcedFailed
  dsimp only
  split
  · exact raised _
  · exact (take_other fun _ hc => Nat.noConfusion hc.2).trans (raised _)

/-- A forced slot that is released: CANDIDATE, not forced and not locked out, its runs at zero (R50). -/
theorem releaseSlot_slot (h : (p.slot k).forced = true) :
    (releaseSlot k p).slot k =
      { p.slot k with
        state := .candidate, forced := false, lockout := false, goodRun := 0, badRun := 0, outlierRun := 0 } := by
  simp [releaseSlot, h, choose_slot, releaseForced, clearSlot, withSlot]

theorem releaseSlot_inputs (h : (p.slot k).forced = true) : (releaseSlot k p).inputs = p.inputs := by
  rw [releaseSlot, if_pos (by simp [h]), if_pos h, choose_inputs]
  rfl

theorem releaseSlot_within : Within (.choosingSlot k) p (releaseSlot k p) := by
  have hk := Access.choosingSlot_slot k
  have released : Within (.choosingSlot k) p (releaseForced k p) :=
    (((Within.refl _ p).withSlot hk.slot _).clearSlot hk .forced).clearSlot hk .failed
  exact .ite ((Within.withSlot (.ite released (.refl _ p)) hk.slot _).choose (Access.choosingSlot_choice k) _) (.refl _ p)

theorem releaseSlot_standing (h : (p.slot k).forced = true) :
    hasCondition ((releaseSlot k p).alarm.standingOf (.slot k)) .forced = false ∧
      hasCondition ((releaseSlot k p).alarm.standingOf (.slot k)) .failed = false := by
  have cleared (c : Condition) (hc : c.standing = true) (q : Part) :
      hasCondition ((clearSlot c k q).alarm.standingOf (.slot k)) c = false :=
    take_cleared (r := slotReport c false k q) rfl hc
  have hrelease : releaseSlot k p =
      choose .better (withSlot k (fun r => { r with lockout := false }) (releaseForced k p)) := by
    rw [releaseSlot, if_pos (by simp [h]), if_pos h]
  rw [hrelease, choose_slotStanding, choose_slotStanding]
  constructor
  · exact (take_other fun _ hc => Nat.noConfusion hc.2).trans (cleared .forced rfl _)
  · exact cleared .failed rfl _

end Force

/-- Settles O19: each control by what it makes of the slot, and the choice that follows it. -/
theorem forceFailAndReleaseActAtOnce : Obligations.ForceFailAndReleaseActAtOnce := by
  refine ⟨fun s tag slot k hready hindex hstate hforced => ?_, fun s tag slot k hready hindex hforced => ?_,
    fun s tag slot hready hslot => ⟨?_, ?_⟩⟩
  · have hslot := forcedFailed_slot k s.part
    have heq := forceSlot_eq k s.part hforced
    have hwithin := forceSlot_within k s.part
    have hbody : slotBody k (forceSlot k s.part) = [slot, 3#8] := by
      rw [slotBody_of_index hindex, heq, choose_slot, hslot.2]
      rfl
    have hdone : Completes (.forceFail tag slot) s
        ((forceSlot k s.part).answer 0x32#8 tag (.doneWith [slot, 3#8])) := by
      refine completes_request rfl hready (by simp) rfl ?_
      change forceFail slot s.part = _
      simp only [forceFail, hindex, hstate, if_false, hbody]
    refine ⟨_, hdone, rfl, answered_mgmt hwithin.mgmt hwithin.alarm.settings, ?_⟩
    refine ⟨?_, ?_, ?_, ?_, answered_keepsTables (hwithin.keepsTables nofun nofun nofun nofun),
      answered_keepsBase (hwithin.keepsBase nofun), ?_, answered_keepsOtherSlots (hwithin.keepsOtherSlots fun _ h => h)⟩
    · simp [heq, choose_slot, hslot.1]
    · simp [heq, choose_slot, hslot.2]
    · rw [settle_selected, answer_selected, heq]
      exact choose_selected_ne (by simp [Part.eligible, hslot.2])
    · rw [settle_standingOf, answer_alarm, heq, choose_slotStanding]
      exact forcedFailed_standing k s.part
    · rw [settle_inputs, answer_inputs, heq, choose_inputs, forcedFailed_inputs]
  · have hwithin := releaseSlot_within k s.part
    have hslot := releaseSlot_slot k s.part hforced
    have hbody : slotBody k (releaseSlot k s.part) = [slot, 1#8] := by
      rw [slotBody_of_index hindex, hslot]
      rfl
    have hdone : Completes (.release tag slot) s
        ((releaseSlot k s.part).answer 0x34#8 tag (.doneWith [slot, 1#8])) := by
      refine completes_request rfl hready (by simp) rfl ?_
      change release slot s.part = _
      simp only [release, hindex, hbody]
    obtain ⟨hnotForced, hnotFailed⟩ := releaseSlot_standing k s.part hforced
    refine ⟨_, hdone, rfl, answered_mgmt hwithin.mgmt hwithin.alarm.settings, ?_⟩
    refine ⟨by simpa using hslot, by simpa using hnotForced, by simpa using hnotFailed,
      answered_keepsTables (hwithin.keepsTables nofun nofun nofun nofun),
      answered_keepsBase (hwithin.keepsBase nofun), ?_, answered_keepsOtherSlots (hwithin.keepsOtherSlots fun _ h => h)⟩
    rw [settle_inputs, answer_inputs, releaseSlot_inputs _ _ hforced]
  · refine completes_request rfl hready (by simp) rfl ?_
    change forceFail slot s.part = _
    rw [forceFail, indexOf_eq_none hslot]
    rfl
  · refine completes_request rfl hready (by simp) rfl ?_
    change release slot s.part = _
    rw [release, indexOf_eq_none hslot]
    rfl

end Sys2Proof.Machine

/-! SUPPORT. LOCKOUT, PREFER, BIND and UNBIND (R41, R49, R51, R54, R55, R58 to R60, R116). -/

namespace Sys2Proof.Machine

/-! ## LOCKOUT and PREFER (R49, R51) -/

theorem lockoutSlot_eq {k : SlotIx} {p : Part} (h : (p.slot k).lockout = false) :
    lockoutSlot k p = choose .lockedOut (withSlot k (fun r => { r with lockout := true }) p) := by
  rw [lockoutSlot, if_neg (by simp [h])]

theorem lockoutSlot_within (k : SlotIx) (p : Part) : Within (.choosingSlot k) p (lockoutSlot k p) :=
  .ite (.refl _ p) (((Within.refl _ p).withSlot (Access.choosingSlot_slot k).slot _).choose (Access.choosingSlot_choice k) _)

theorem preferSlot_within (pref : Option SlotIx) (p : Part) : Within .choosing p (preferSlot pref p) :=
  .ite (.refl _ p) (((Within.refl _ p).withHub Access.choosing_choice.hub _).choose Access.choosing_choice _)

theorem preferSlot_settings (pref : Option SlotIx) (p : Part) :
    (preferSlot pref p).hub.settings = { p.hub.settings with preferred := pref } := by
  unfold preferSlot
  split
  · next h => rw [← h]
  · exact choose_hub_settings _ _

/-- An eligible preferred slot is selected under the revertive setting (R58, R59). -/
theorem preferSlot_selected {k : SlotIx} {p : Part} (hne : p.hub.settings.preferred ≠ some k)
    (hrevertive : p.hub.settings.revertive = true) (heligible : p.eligible k = true) :
    (preferSlot (some k) p).selected = some k := by
  rw [preferSlot, if_neg hne, choose_selected]
  exact choice_of_preferred hrevertive rfl ((eligible_congr rfl).trans heligible)

theorem toNat_of_indexOf {n : Nat} {b : Byte} {k : Fin n} (h : indexOf n b = some k) : b.toNat < n :=
  indexOf_eq_some h ▸ k.isLt

/-- Settles O20: each control by what it writes, and the choice that follows it. -/
theorem lockoutAndPreferMoveTheSelection : Obligations.LockoutAndPreferMoveTheSelection := by
  refine ⟨fun s tag slot k hready hindex hlockout => ?_, fun s tag slot k hready hindex hne => ?_, fun s tag hready => ?_⟩
  · have hwithin := lockoutSlot_within k s.part
    have heq := lockoutSlot_eq hlockout
    have hslot : (lockoutSlot k s.part).slot k = { s.part.slot k with lockout := true } := by
      rw [heq, choose_slot]
      exact slot_setSlot_self _ _ _
    have hdone : Completes (.lockout tag slot) s ((lockoutSlot k s.part).answer 0x33#8 tag
        (.doneWith [slot, byte (s.part.slot k).state.code])) := by
      refine completes_request rfl hready (by simp) rfl ?_
      change lockout slot s.part = _
      simp only [lockout, hindex, slotBody_of_index hindex, hslot]
    refine ⟨_, hdone, rfl, answered_mgmt hwithin.mgmt hwithin.alarm.settings, by simpa using hslot, ?_,
      answered_keepsTables (hwithin.keepsTables nofun nofun nofun nofun), answered_keepsBase (hwithin.keepsBase nofun), ?_,
      answered_keepsOtherSlots (hwithin.keepsOtherSlots fun _ h => h)⟩
    · rw [settle_selected, answer_selected, heq]
      refine choose_selected_ne ?_
      rw [Part.eligible, show (withSlot k (fun r => { r with lockout := true }) s.part).slot k =
        { s.part.slot k with lockout := true } from slot_setSlot_self _ _ _]
      simp
    · rw [settle_inputs, answer_inputs, heq, choose_inputs]
      rfl
  · have hwithin := preferSlot_within (some k) s.part
    have hsmall : slot.toNat ≠ 255 := by
      have := toNat_of_indexOf hindex
      omega
    have hdone : Completes (.prefer tag slot) s ((preferSlot (some k) s.part).answer 0x35#8 tag { code := .done }) := by
      refine completes_request rfl hready (by simp) rfl ?_
      change prefer slot s.part = _
      simp only [prefer, hindex, hsmall, if_false]
    refine ⟨_, hdone, rfl, answered_mgmt hwithin.mgmt hwithin.alarm.settings, ?_, fun hrevertive heligible => ?_,
      answered_keepsTables (hwithin.keepsTables nofun nofun nofun nofun), answered_keepsBase (hwithin.keepsBase nofun), ?_, ?_⟩
    · simpa using preferSlot_settings (some k) s.part
    · simpa using preferSlot_selected hne hrevertive heligible
    · simpa using hwithin.inputs_eq nofun
    · simpa using hwithin.slots_eq nofun
  · have hwithin := preferSlot_within none s.part
    have hdone : Completes (.prefer tag 0xFF#8) s ((preferSlot none s.part).answer 0x35#8 tag { code := .done }) :=
      completes_request rfl hready (by simp) rfl rfl
    refine ⟨_, hdone, ?_, answered_mgmt hwithin.mgmt hwithin.alarm.settings⟩
    rw [settle_hub, answer_hub, preferSlot_settings]

/-! ## BIND and UNBIND (R41, R54, R55) -/

theorem bound_slot (k : SlotIx) (i : RecordIx) (p : Part) :
    (bound k i p).slot k =
      { p.slot k with
        binding := some (i, (p.record i).generation), enabled := true, state := .candidate, forced := false
        goodRun := 0, badRun := 0, outlierRun := 0 } := by
  rw [bound, leaveDisabled_slot, if_pos rfl,
    show (setReturnBinding i (some k) (withSlot k (fun r => { r with binding := some (i, (p.record i).generation) }) p)).slot k =
      { p.slot k with binding := some (i, (p.record i).generation) } from slot_setSlot_self _ _ _]

theorem bound_within (k : SlotIx) (i : RecordIx) (p : Part) : Within (.binding k i) p (bound k i p) := by
  have hk := Access.binding_slot k i
  exact ((((Within.refl (.binding k i) p).withSlot hk.slot _).setReturnBinding (i := i) rfl _).leaveDisabled hk)

theorem unbound_within {k : SlotIx} {i : RecordIx} {g : Generation} {p : Part} (h : (p.slot k).binding = some (i, g)) :
    Within (.binding k i) p (unbound k p) := by
  have hk := Access.binding_slot k i
  unfold unbound
  rw [h]
  exact ((((Within.refl (.binding k i) p).setReturnBinding (i := i) rfl _).withSlot hk.slot _).enterDisabled hk)

theorem unbound_slot {k : SlotIx} {i : RecordIx} {g : Generation} {p : Part} (h : (p.slot k).binding = some (i, g)) :
    (unbound k p).slot k =
      { p.slot k with
        binding := none, enabled := false, state := .disabled, forced := false
        goodRun := 0, badRun := 0, outlierRun := 0 } := by
  unfold unbound
  rw [enterDisabled_slot, if_pos rfl, h]
  rw [show (withSlot k (fun r => { r with binding := none }) (setReturnBinding i none p)).slot k =
    { p.slot k with binding := none } from slot_setSlot_self _ _ _]

/-- Settles O21: both halves are written before the choice, which moves neither. -/
theorem bindAndUnbindKeepBothHalves : Obligations.BindAndUnbindKeepBothHalves := by
  refine ⟨fun s tag slot index k i hready hindex hk hrecord hvacant hretiring hfree hnone => ?_,
    fun s tag slot k i g hready hindex hk hbinding hselected => ?_,
    fun s tag slot k hready hindex hk hbinding hselected => ?_⟩
  · have hwithin := (bound_within k i s.part).choose (Access.binding_choice k i) .better
    rw [← bindSlot_eq] at hwithin
    have hslot : (bindSlot k i s.part).slot k = _ := (choose_slot _ _ k).trans (bound_slot k i s.part)
    have hhalf : (bindSlot k i s.part).record i = { s.part.record i with returnBinding := some k } := by
      rw [bindSlot_eq, choose_record, bound_record, if_pos rfl]
    have hdone : Completes (.bind tag slot index) s ((bindSlot k i s.part).answer 0x30#8 tag (.doneWith [slot, 1#8])) := by
      refine completes_request rfl hready (by simp) rfl ?_
      change bindRequest slot index s.part = _
      simp only [bindRequest, hindex, hrecord, hvacant, hretiring, hfree, hnone, slotBody_of_index hindex, hslot,
        if_neg (Nat.not_lt.2 hk)]
      rfl
    refine ⟨_, hdone, rfl, answered_mgmt hwithin.mgmt hwithin.alarm.settings, by simpa using hslot, by simpa using hhalf,
      answered_keepsOtherRecords (hwithin.keepsOtherRecords fun _ h => h),
      answered_keepsOtherSlots (hwithin.keepsOtherSlots fun _ h => h), answered_keepsBase (hwithin.keepsBase nofun),
      by simpa using hwithin.ports_eq nofun, by simpa using hwithin.engines_eq nofun, by simpa using hwithin.pairs_eq nofun⟩
  · have hwithin := (unbound_within hbinding).choose (Access.binding_choice k i) .disabled
    rw [← unbindSlot_eq] at hwithin
    have hslot : (unbindSlot .disabled k s.part).slot k = _ := (choose_slot _ _ k).trans (unbound_slot hbinding)
    have hhalf : (unbindSlot .disabled k s.part).record i = { s.part.record i with returnBinding := none } := by
      rw [unbindSlot_eq, choose_record, unbound_record, if_pos (by simp [hbinding])]
    have hdone : Completes (.unbind tag slot) s
        ((unbindSlot .disabled k s.part).answer 0x31#8 tag (.doneWith [slot, 0#8])) := by
      refine completes_request rfl hready (by simp) rfl ?_
      change unbindRequest slot s.part = _
      simp only [unbindRequest, hindex, hbinding, hselected, slotBody_of_index hindex, hslot, if_neg (Nat.not_lt.2 hk)]
      rfl
    refine ⟨_, hdone, rfl, answered_mgmt hwithin.mgmt hwithin.alarm.settings, by simpa using hslot, by simpa using hhalf,
      answered_keepsOtherRecords (hwithin.keepsOtherRecords fun _ h => h),
      answered_keepsOtherSlots (hwithin.keepsOtherSlots fun _ h => h), answered_keepsBase (hwithin.keepsBase nofun),
      by simpa using hwithin.ports_eq nofun, by simpa using hwithin.engines_eq nofun, by simpa using hwithin.pairs_eq nofun⟩
  · refine completes_request rfl hready (by simp) rfl ?_
    change unbindRequest slot s.part = _
    simp only [unbindRequest, hindex, hselected, if_neg (Nat.not_lt.2 hk), if_neg hbinding, if_true]
    rfl

end Sys2Proof.Machine

/-! SUPPORT. The hub second event and the hub states: what is taken, what each state makes of it, and what a selection
report moves (R67 to R88). -/

namespace Sys2Proof.Machine

/-! ## What the event takes (R36, R67, R72) -/

@[simp] theorem clearFresh_input (p : Part) (k : SlotIx) :
    (clearFresh p).input k =
      { p.input k with last := (p.input k).last.map (fun s => { s with fresh := false }) } := by
  simp [clearFresh, Part.input]

/-- The part after the step completion, the clearing of the fresh flags and the copy of the scale offset: what the action
on the take acts on. -/
def taken (p : Part) : Part :=
  let q := clearFresh (if p.tb.stepMark then completeStep p else p)
  match p.take with
  | some x => if discardsTake p.tb.stepMark p then q else copyScale x q
  | none => q

theorem hubSecondEvent_eq (p : Part) : hubSecondEvent p = actOnTake p.tb.stepMark p.take (taken p) := by
  unfold hubSecondEvent taken
  cases p.tb.stepMark <;> rfl

/-- What the event leaves as it stands before the action on the take. -/
structure Taken (p q : Part) : Prop where
  tb       : q.tb = p.tb
  osc      : q.osc = p.osc
  slots    : q.slots = p.slots
  selected : q.selected = p.selected
  settings : q.alarm.settings = p.alarm.settings
  standing : ∀ c : Condition, hasCondition (q.alarm.standingOf .hub) c = hasCondition (p.alarm.standingOf .hub) c
  inputs   : ∀ k, q.input k = (clearFresh p).input k
  hub      : q.hub =
    { p.hub with
      stepPermission := if p.tb.stepMark then false else p.hub.stepPermission, scaleOffset := q.hub.scaleOffset }

/-- A scale offset that is copied is all that changes (R67). -/
theorem copyScale_hub (t : Take) (p : Part) :
    copyScale t p = { p with hub := { p.hub with scaleOffset := (copyScale t p).hub.scaleOffset } } := by
  unfold copyScale
  split
  · split <;> rfl
  · rfl

theorem Taken.copyScale {p q : Part} (h : Taken p q) (t : Take) : Taken p (copyScale t q) := by
  rw [copyScale_hub]
  exact { h with hub := by rw [h.hub] }

theorem taken_start (p : Part) : Taken p (clearFresh (if p.tb.stepMark then completeStep p else p)) := by
  cases hmark : p.tb.stepMark
  · exact ⟨rfl, rfl, rfl, rfl, rfl, fun _ => rfl, fun _ => rfl, by simp [hmark, clearFresh]⟩
  · refine ⟨rfl, rfl, rfl, rfl, take_settings _ _, fun c => ?_, fun _ => rfl, ?_⟩
    · change hasCondition ((AlarmUnit.take _ _).standingOf .hub) c = _
      refine take_other ?_
      exact fun h => Bool.noConfusion h
    · rw [hmark]
      rfl

theorem taken_leaves (p : Part) : Taken p (taken p) := by
  have start := taken_start p
  unfold taken
  dsimp only
  split
  · split
    · exact start
    · exact start.copyScale _
  · exact start

/-- Only a SAT slot's sample carries a scale offset that is copied (R67). -/
theorem taken_scaleOffset {p : Part} (h : p.selected ≠ some 0 ∧ p.selected ≠ some 1 ∨ discardsTake p.tb.stepMark p = true) :
    (taken p).hub.scaleOffset = p.hub.scaleOffset := by
  have start := taken_start p
  have hstart : (clearFresh (if p.tb.stepMark then completeStep p else p)).hub.scaleOffset = p.hub.scaleOffset := by
    cases p.tb.stepMark <;> rfl
  unfold taken
  dsimp only
  split
  · split
    · exact hstart
    · next hkept =>
      obtain ⟨h0, h1⟩ | hdiscards := h
      · unfold copyScale
        split
        · rw [start.selected, if_neg (by simp [h0, h1]), hstart]
        · exact hstart
      · exact absurd hdiscards hkept
  · exact hstart

/-- With no step mark the permission stays. -/
theorem taken_hub {p : Part} (h : p.tb.stepMark = false) :
    (taken p).hub = { p.hub with scaleOffset := (taken p).hub.scaleOffset } := by
  have hub := (taken_leaves p).hub
  simp only [h] at hub
  exact hub

/-! ## What the loop and the prediction write (R80 to R86) -/

theorem handOver_tb (p : Part) : (handOver p).tb = { p.tb with next := p.hub.correction } := rfl

theorem loopUpdate_tb (g : Gains) (e : Int) (p : Part) :
    (loopUpdate g e p).tb = { p.tb with next := clampCorrection (loopY g p.hub.integrator e) } := by
  simp [loopUpdate, handOver_tb]

theorem filterUpdate_tb (r : Int) (p : Part) :
    (filterUpdate r p).tb =
      { p.tb with next := clampCorrection (p.hub.integrator + roundDiv (r - p.hub.integrator) 8) } := by
  simp [filterUpdate, handOver_tb]

theorem predictCorrection_tb {p : Part} {r : Prediction} (h : p.hub.prediction = some r) :
    (predictCorrection p).tb = { p.tb with next := clampCorrection (r.correctionAt p.hub.t) } := by
  simp [predictCorrection, h, handOver_tb]

@[simp] theorem averageUpdate_tb (p : Part) : (averageUpdate p).tb = p.tb := rfl

@[simp] theorem averageUpdate_hub (p : Part) :
    (averageUpdate p).hub =
      { p.hub with
        average :=
          if p.hub.age = 0 then p.hub.integrator
          else p.hub.average + roundShift (p.hub.integrator - p.hub.average) p.osc.shift.toNat
        age := min (p.hub.age + 1) 65536
        averageValid := p.hub.averageValid || decide (2 ^ p.osc.shift.toNat ≤ min (p.hub.age + 1) 65536) } := rfl

theorem advancePrediction_hub {p : Part} {r : Prediction} (h : p.hub.prediction = some r) :
    (advancePrediction p).hub = { p.hub with t := p.hub.t + 1, bound := r.boundAt (p.hub.t + 1) } := by
  simp [advancePrediction, h]

theorem advanceLineCount_hub {p : Part} {c : LineCount} (h : p.hub.lineCount = some c) :
    (advanceLineCount p).hub =
      { p.hub with
        t := p.hub.t + 1, bound := saturateBound (c.uEntry + c.slope * ((p.hub.t : Int) + 1)) } := by
  simp [advanceLineCount, h]

/-- U of a prediction one second on, in the figures of R85. -/
theorem boundAt_succ (r : Prediction) (t : Nat) :
    r.boundAt (t + 1) =
      min (r.uEntry + r.stability * (t + 1 : Nat) + roundDiv (r.aging * (t + 1 : Nat) * (t + 2 : Nat)) 172800)
        65536000000000 := by
  have htwo : ((t + 1 : Nat) : Int) + 1 = (t + 2 : Nat) := by push_cast; ring
  rw [Prediction.boundAt, htwo]
  rfl

/-! ## LOCKED (R73, R80, R82) -/

/-- A GOOD sample in LOCKED, before the out-of-window run is compared with 64 (R73). -/
def lockedStep (e aref : Int) (p : Part) : Part :=
  withHub (fun h => { h with outOfWindow := if toQ p.hub.settings.lockWindow < magnitude e then p.hub.outOfWindow + 1 else 0 })
    (averageUpdate (setBound (boundFromSample aref e) (loopUpdate p.hub.settings.loopClass.gains e p)))

theorem lockedGood_eq (e aref : Int) (p : Part) :
    lockedGood e aref p =
      if 64 ≤ (if toQ p.hub.settings.lockWindow < magnitude e then p.hub.outOfWindow + 1 else 0) then
        enterAcquire .c (lockedStep e aref p)
      else lockedStep e aref p := rfl

theorem lockedStep_tb (e aref : Int) (p : Part) :
    (lockedStep e aref p).tb =
      { p.tb with next := clampCorrection (loopY p.hub.settings.loopClass.gains p.hub.integrator e) } := by
  have htb : (lockedStep e aref p).tb = (loopUpdate p.hub.settings.loopClass.gains e p).tb := rfl
  rw [htb, loopUpdate_tb]

theorem lockedStep_hub (e aref : Int) (p : Part) :
    (lockedStep e aref p).hub =
      { p.hub with
        integrator := clampCorrection (loopF p.hub.settings.loopClass.gains p.hub.integrator e)
        correction := clampCorrection (loopY p.hub.settings.loopClass.gains p.hub.integrator e)
        bound := boundFromSample aref e
        average :=
          if p.hub.age = 0 then clampCorrection (loopF p.hub.settings.loopClass.gains p.hub.integrator e)
          else p.hub.average +
            roundShift (clampCorrection (loopF p.hub.settings.loopClass.gains p.hub.integrator e) - p.hub.average)
              p.osc.shift.toNat
        age := min (p.hub.age + 1) 65536
        averageValid := p.hub.averageValid || decide (2 ^ p.osc.shift.toNat ≤ min (p.hub.age + 1) 65536)
        outOfWindow := if toQ p.hub.settings.lockWindow < magnitude e then p.hub.outOfWindow + 1 else 0 } := by
  have hosc : (loopUpdate p.hub.settings.loopClass.gains e p).osc = p.osc := ((HubFrame.refl p).loopUpdate _ e).osc
  rw [lockedStep, withHub_hub, averageUpdate_hub, setBound_hub, loopUpdate_hub]
  change HubRecord.mk .. = _
  simp only [setBound, withHub, hosc]

/-- The return to ACQUIRE touches neither a figure of the loop nor the Time Base (R73). -/
theorem lockedGood_hub (e aref : Int) (p : Part) :
    (lockedGood e aref p).hub =
      { (lockedStep e aref p).hub with
        state := (lockedGood e aref p).hub.state, grade := (lockedGood e aref p).hub.grade
        inWindow := (lockedGood e aref p).hub.inWindow, lineCount := (lockedGood e aref p).hub.lineCount } := by
  rw [lockedGood_eq]
  generalize (if toQ p.hub.settings.lockWindow < magnitude e then p.hub.outOfWindow + 1 else 0) = run
  split <;> rfl

theorem lockedGood_tb (e aref : Int) (p : Part) :
    (lockedGood e aref p).tb =
      { p.tb with next := clampCorrection (loopY p.hub.settings.loopClass.gains p.hub.integrator e) } := by
  rw [← lockedStep_tb e aref p, lockedGood_eq]
  generalize (if toQ p.hub.settings.lockWindow < magnitude e then p.hub.outOfWindow + 1 else 0) = run
  split <;> rfl

/-- F of a loop update in the figures of R80. -/
theorem loopF_eq (c : LoopClass) (f e : Int) :
    clampCorrection (loopF c.gains f e) =
      max (-3276800000) (min 3276800000
        (f + roundDiv (max (-65536000000) (min 65536000000 e))
          (2 ^ (match c with | .fast => 8 | .normal => 12 | .slow => 16)))) := by
  cases c <;> rfl

/-- y of a loop update in the figures of R80, from F as updated. -/
theorem loopY_eq (c : LoopClass) (f e : Int) :
    clampCorrection (loopY c.gains f e) =
      max (-3276800000) (min 3276800000
        (clampCorrection (loopF c.gains f e) + roundDiv (max (-65536000000) (min 65536000000 e))
          (2 ^ (match c with | .fast => 3 | .normal => 5 | .slow => 7)))) := by
  cases c <;> rfl

/-! ## The action on the take, by the hub state -/

section Action

variable {p : Part} {t : Take} (stepped : Bool)

theorem actOnTake_locked_good {e a : Int} {scale : Option Int} (h : p.hub.state = .locked) :
    actOnTake stepped (some { outcome := .good, value := some e, accuracy := some a, scale := scale }) p =
      lockedGood e a p := by
  simp only [actOnTake, h]
  rfl

/-- A take that is not GOOD gives no value, and neither does none at all. -/
theorem bind_goodValue {o : Option Take} (h : ∀ x, o = some x → x.outcome ≠ .good) : o.bind Take.goodValue = none := by
  cases o with
  | none => rfl
  | some x => exact if_neg (h x rfl)

theorem actOnTake_locked_bad {o : Option Take} (h : p.hub.state = .locked) (ho : ∀ x, o = some x → x.outcome ≠ .good) :
    actOnTake stepped o p = enterBridging .locked p := by
  simp only [actOnTake, h, bind_goodValue ho]

theorem actOnTake_lockedFreq_good {r : Int} {aref scale : Option Int} (h : p.hub.state = .lockedFreq) :
    actOnTake stepped (some { outcome := .good, value := some r, accuracy := aref, scale := scale }) p =
      lockedFreqGood r p := by
  simp only [actOnTake, h]
  rfl

theorem actOnTake_lockedFreq_bad {o : Option Take} (h : p.hub.state = .lockedFreq)
    (ho : ∀ x, o = some x → x.outcome ≠ .good) : actOnTake stepped o p = enterBridging .lockedFreq p := by
  simp only [actOnTake, h, bind_goodValue ho]

theorem actOnTake_bridging_good {x : Int} {aref scale : Option Int} (h : p.hub.state = .bridging) :
    actOnTake stepped (some { outcome := .good, value := some x, accuracy := aref, scale := scale }) p =
      bridgingGood x (aref.getD 0) (advancePrediction p) := by
  simp only [actOnTake, h]
  rfl

theorem actOnTake_bridging_bad {o : Option Take} (h : p.hub.state = .bridging)
    (ho : ∀ x, o = some x → x.outcome ≠ .good) : actOnTake stepped o p = advancePrediction p := by
  simp only [actOnTake, h, bind_goodValue ho]

theorem actOnTake_holdover {o : Option Take} (h : p.hub.state = .holdover) :
    actOnTake stepped o p = compareBound true (predictCorrection (advancePrediction p)) := by
  simp only [actOnTake, h]

theorem actOnTake_holdoverExpired {o : Option Take} (h : p.hub.state = .holdoverExpired) :
    actOnTake stepped o p = predictCorrection (advancePrediction p) := by
  simp only [actOnTake, h]

theorem actOnTake_acquire_step {e a : Int} {scale : Option Int} (h : p.hub.state = .acquire)
    (hlarge : toQ p.hub.settings.stepThreshold < magnitude e) (hpermission : p.hub.stepPermission = true) :
    actOnTake false (some { outcome := .good, value := some e, accuracy := some a, scale := scale }) p = askStep e a p := by
  have hcond : toQ p.hub.settings.stepThreshold < magnitude e ∧ p.hub.stepPermission = true := ⟨hlarge, hpermission⟩
  simp only [actOnTake, h]
  exact if_pos hcond

theorem actOnTake_acquire_stepped {o : Option Take} (h : p.hub.state = .acquire) : actOnTake true o p = p := by
  simp only [actOnTake, h, if_true]

end Action

/-! ## Standing conditions of the hub -/

@[simp] theorem raiseHub_standing (c : Condition) (p : Part) (hs : c.standing = true) :
    hasCondition ((raiseHub c p).alarm.standingOf .hub) c = true := take_raised (r := p.hubReport c true) rfl hs

@[simp] theorem clearHub_standing (c : Condition) (p : Part) (hs : c.standing = true) :
    hasCondition ((clearHub c p).alarm.standingOf .hub) c = false := take_cleared (r := p.hubReport c false) rfl hs

/-- FREQ_LIMIT is the one condition that a clamp moves (R83). -/
theorem followLimit_standing (clamped : Bool) (p : Part) {c : Condition} (hc : c.bit ≠ 4) :
    hasCondition ((followLimit clamped p).alarm.standingOf .hub) c = hasCondition (p.alarm.standingOf .hub) c := by
  unfold followLimit
  split
  · split
    · rfl
    · exact take_other (r := p.hubReport .freqLimit true) fun _ h => hc h.2.symm
  · exact take_other (r := p.hubReport .freqLimit false) fun _ h => hc h.2.symm

theorem loopUpdate_standing (g : Gains) (e : Int) (p : Part) {c : Condition} (hc : c.bit ≠ 4) :
    hasCondition ((loopUpdate g e p).alarm.standingOf .hub) c = hasCondition (p.alarm.standingOf .hub) c :=
  followLimit_standing _ _ hc

theorem filterUpdate_standing (r : Int) (p : Part) {c : Condition} (hc : c.bit ≠ 4) :
    hasCondition ((filterUpdate r p).alarm.standingOf .hub) c = hasCondition (p.alarm.standingOf .hub) c :=
  followLimit_standing _ _ hc

/-- The entry to BRIDGING raises it (R75). -/
theorem enterBridging_standing (origin : BridgedFrom) (p : Part) :
    hasCondition ((enterBridging origin p).alarm.standingOf .hub) .bridging = true :=
  raiseHub_standing .bridging _ rfl

theorem enterBridging_tb (origin : BridgedFrom) (p : Part) :
    (enterBridging origin p).tb = { p.tb with next := p.hub.integrator } := rfl

/-! ## The statements on the hub second event -/

/-- Settles O23: STEP-ALLOW as a request, and the two events of ACQUIRE by what is taken and what is made of it. -/
theorem stepsAreAskedForAndCompleted : Obligations.StepsAreAskedForAndCompleted := by
  refine ⟨fun s tag hready => completes_request rfl hready (by simp) rfl rfl,
    fun p e a scale hstate hmark htake hlarge hpermission => ?_, fun p hstate hmark => ?_⟩
  · have leaves := taken_leaves p
    have hub := taken_hub hmark
    have hevent : hubSecondEvent p = askStep e a (taken p) := by
      rw [hubSecondEvent_eq, htake, hmark]
      exact actOnTake_acquire_step (by rw [hub]; exact hstate) (by rw [hub]; exact hlarge) (by rw [hub]; exact hpermission)
    rw [hevent]
    have htb : (askStep e a (taken p)).tb =
        { (taken p).tb with pendingStep := some (roundDiv e 65536), next := (taken p).hub.integrator } := rfl
    have hrecord : (askStep e a (taken p)).hub =
        { (taken p).hub with
          correction := (taken p).hub.integrator, inWindow := 0, bound := boundFromSample a e } := rfl
    rw [htb, hrecord, leaves.tb, hub]
    exact ⟨rfl, rfl⟩
  · have leaves := taken_leaves p
    have hdiscards : discardsTake p.tb.stepMark p = true := by simp [discardsTake, hstate, hmark]
    have hevent : hubSecondEvent p = taken p := by
      rw [hubSecondEvent_eq, hmark]
      exact actOnTake_acquire_stepped (by rw [leaves.hub]; exact hstate)
    rw [hevent]
    refine ⟨?_, leaves.tb, fun k => by rw [leaves.inputs, clearFresh_input]⟩
    rw [leaves.hub, taken_scaleOffset (.inr hdiscards), hmark]
    rfl

/-- Settles O24: the loop's figures and the entry to BRIDGING, each read off the hub record that it writes. -/
theorem lockedSampleSteersTheLoop : Obligations.LockedSampleSteersTheLoop := by
  refine ⟨fun p e a scale hstate hmark htake => ?_, fun p hstate hmark hselected hbad => ?_⟩
  · have leaves := taken_leaves p
    have hub := taken_hub hmark
    have hevent : hubSecondEvent p = lockedGood e a (taken p) := by
      rw [hubSecondEvent_eq, htake]
      exact actOnTake_locked_good _ (by rw [hub]; exact hstate)
    have hselected : (lockedGood e a (taken p)).selected = p.selected :=
      ((Steers.refl (taken p)).lockedGood e a).selected.trans leaves.selected
    refine ⟨clampCorrection (loopF p.hub.settings.loopClass.gains p.hub.integrator e),
      clampCorrection (loopY p.hub.settings.loopClass.gains p.hub.integrator e), loopF_eq _ _ _, loopY_eq _ _ _, ?_⟩
    rw [hevent, lockedGood_tb, lockedGood_hub, lockedStep_hub, leaves.tb, leaves.osc, hub]
    exact ⟨rfl, rfl, rfl, rfl, rfl, rfl, rfl, hselected⟩
  · have leaves := taken_leaves p
    have hub := taken_hub hmark
    have hevent : hubSecondEvent p = enterBridging .locked (taken p) := by
      rw [hubSecondEvent_eq]
      exact actOnTake_locked_bad _ (by rw [hub]; exact hstate) hbad
    have hprediction : (taken p).newPrediction = p.newPrediction := by
      rw [Part.newPrediction, hub, leaves.osc]
      rfl
    rw [hevent, enterBridging_hub, enterBridging_tb, hprediction, leaves.tb, hub]
    exact ⟨rfl, rfl, rfl, rfl, rfl, rfl, rfl, rfl, rfl, enterBridging_standing _ _⟩

end Sys2Proof.Machine

/-! SUPPORT. LOCKED_FREQ, BRIDGING and the two states of HOLDOVER at a hub second event, and what a selection report
moves (R68, R74 to R77, R81, R84 to R88). -/

namespace Sys2Proof.Machine

/-! ## The prediction (R76, R77, R85) -/

/-- The event of a prediction: t and U go on (R85). -/
theorem advancePrediction_tb (p : Part) : (advancePrediction p).tb = p.tb := rfl

/-- One event of the prediction and of its y (R76, R77, R85). -/
theorem predicted {p : Part} {r : Prediction} (h : p.hub.prediction = some r) :
    (predictCorrection (advancePrediction p)).hub =
        { p.hub with
          t := p.hub.t + 1, bound := r.boundAt (p.hub.t + 1)
          correction := clampCorrection (r.correctionAt (p.hub.t + 1)) } ∧
      (predictCorrection (advancePrediction p)).tb =
        { p.tb with next := clampCorrection (r.correctionAt (p.hub.t + 1)) } := by
  have hadvance := advancePrediction_hub h
  have hgoes : (advancePrediction p).hub.prediction = some r := by rw [hadvance]; exact h
  rw [predictCorrection_hub, predictCorrection_tb hgoes, hgoes, hadvance]
  exact ⟨rfl, rfl⟩

/-- With no slot selected nothing is taken, so no scale offset is copied. -/
theorem taken_of_none {p : Part} (h : p.selected = none) :
    p.take = none ∧ (taken p).hub =
      { p.hub with stepPermission := if p.tb.stepMark then false else p.hub.stepPermission } := by
  refine ⟨by simp [Part.take, h], ?_⟩
  rw [(taken_leaves p).hub, taken_scaleOffset (.inl (by simp [h]))]

theorem taken_of_line {p : Part} (h : p.selected = some lineSlot) :
    (taken p).hub = { p.hub with stepPermission := if p.tb.stepMark then false else p.hub.stepPermission } := by
  rw [(taken_leaves p).hub, taken_scaleOffset (.inl (by rw [h]; decide))]

/-- Settles O25: the prediction goes on, and the comparison with H follows. -/
theorem holdoverFollowsThePrediction : Obligations.HoldoverFollowsThePrediction := by
  refine ⟨fun p r t hstate hmark hselected hprediction ht => ?_, fun p r f hf => ?_⟩
  · subst ht
    have leaves := taken_leaves p
    obtain ⟨htake, hub⟩ := taken_of_none hselected
    simp only [hmark] at hub
    have hstart : (taken p).hub = p.hub := hub
    obtain ⟨hpredicted, htb⟩ := predicted (p := taken p) (by rw [hstart]; exact hprediction)
    have hevent : hubSecondEvent p = compareBound true (predictCorrection (advancePrediction (taken p))) := by
      rw [hubSecondEvent_eq]
      exact actOnTake_holdover _ (by rw [hstart]; exact hstate)
    rw [hstart] at hpredicted htb
    rw [leaves.tb] at htb
    refine ⟨_, _, boundAt_succ r _, rfl, ?_⟩
    rw [hevent, compareBound_tb]
    refine ⟨htb, ?_⟩
    obtain ⟨_, hexpired, hcompare⟩ | ⟨hkept, hcompare⟩ :=
      compareBound_cases (predictCorrection (advancePrediction (taken p))) true
    · rw [hpredicted] at hexpired
      have hlimit : p.hub.settings.holdoverLimit * 65536 < r.boundAt (p.hub.t + 1) := hexpired
      rw [hcompare, hpredicted, if_pos hlimit, if_pos hlimit, if_pos hlimit]
      refine ⟨rfl, fun _ => ?_⟩
      rw [compareBound, if_pos (by rw [hpredicted]; exact ⟨hstate, hexpired⟩)]
      exact raiseHub_standing .holdoverExpired _ rfl
    · have hlimit : ¬ p.hub.settings.holdoverLimit * 65536 < r.boundAt (p.hub.t + 1) := by
        intro hlt
        exact hkept (by rw [hpredicted]; exact ⟨hstate, hlt⟩)
      rw [hcompare, hpredicted, if_neg hlimit, if_neg hlimit, if_neg hlimit, ← hstate]
      exact ⟨rfl, fun hlt => absurd hlt hlimit⟩
  · subst hf
    exact ⟨filterUpdate_hub p r, filterUpdate_tb r p⟩

/-! ## LOCKED_FREQ (R74, R81, R82, R86) -/

theorem lockedFreqGood_tb (r : Int) (p : Part) :
    (lockedFreqGood r p).tb =
      { p.tb with next := clampCorrection (p.hub.integrator + roundDiv (r - p.hub.integrator) 8) } :=
  filterUpdate_tb r p

theorem lockedFreqGood_hub (r : Int) {p : Part} {c : LineCount} (h : p.hub.lineCount = some c) :
    (lockedFreqGood r p).hub =
      { p.hub with
        integrator := clampCorrection (p.hub.integrator + roundDiv (r - p.hub.integrator) 8)
        correction := clampCorrection (p.hub.integrator + roundDiv (r - p.hub.integrator) 8)
        average :=
          if p.hub.age = 0 then clampCorrection (p.hub.integrator + roundDiv (r - p.hub.integrator) 8)
          else p.hub.average +
            roundShift (clampCorrection (p.hub.integrator + roundDiv (r - p.hub.integrator) 8) - p.hub.average)
              p.osc.shift.toNat
        age := min (p.hub.age + 1) 65536
        averageValid := p.hub.averageValid || decide (2 ^ p.osc.shift.toNat ≤ min (p.hub.age + 1) 65536)
        t := p.hub.t + 1, bound := saturateBound (c.uEntry + c.slope * ((p.hub.t : Int) + 1)) } := by
  have hosc : (filterUpdate r p).osc = p.osc := ((HubFrame.refl p).filterUpdate r).osc
  have hcount : (averageUpdate (filterUpdate r p)).hub.lineCount = some c := by
    rw [averageUpdate_hub, filterUpdate_hub]
    exact h
  rw [lockedFreqGood, advanceLineCount_hub hcount, averageUpdate_hub, filterUpdate_hub, hosc]

theorem lockedFreqGood_standing (r : Int) (p : Part) {c : Condition} (hc : c.bit ≠ 4) :
    hasCondition ((lockedFreqGood r p).alarm.standingOf .hub) c = hasCondition (p.alarm.standingOf .hub) c := by
  have halarm : (lockedFreqGood r p).alarm = (filterUpdate r p).alarm := by
    simp only [lockedFreqGood, advanceLineCount, averageUpdate, withHub_alarm]
  rw [halarm]
  exact filterUpdate_standing r p hc

theorem lockedGood_standing (e a : Int) (p : Part) {c : Condition} (hc : c.bit ≠ 4) :
    hasCondition ((lockedGood e a p).alarm.standingOf .hub) c = hasCondition (p.alarm.standingOf .hub) c := by
  have halarm : (lockedGood e a p).alarm = (loopUpdate p.hub.settings.loopClass.gains e p).alarm := by
    simp only [lockedGood_eq, lockedStep, enterAcquire, averageUpdate, setBound, apply_ite Part.alarm, withHub_alarm,
      ite_self]
  rw [halarm]
  exact loopUpdate_standing _ e p hc

/-! ## BRIDGING (R75) -/

/-- BRIDGING is left: its prediction is removed and its condition cleared (R75). -/
theorem leaveState_bridging {p : Part} (h : p.hub.state = .bridging) :
    leaveState p = clearHub .bridging (withHub (fun h => { h with prediction := none }) p) := by
  simp only [leaveState, h]

theorem leaveState_bridging_standing {p : Part} (h : p.hub.state = .bridging) :
    hasCondition ((leaveState p).alarm.standingOf .hub) .bridging = false := by
  rw [leaveState_bridging h]
  exact clearHub_standing .bridging _ rfl

/-- A GOOD sample returns the hub from BRIDGING to LOCKED (R75). -/
theorem bridgingGood_locked {x a : Int} {p : Part} (h : p.hub.bridgedFrom = .locked) :
    bridgingGood x a p = lockedGood x a (enterLocked (leaveState p)) := by
  simp only [bridgingGood, h]

theorem bridgingGood_lockedFreq {x a : Int} {p : Part} (h : p.hub.bridgedFrom = .lockedFreq) :
    bridgingGood x a p = lockedFreqGood x (enterLockedFreq (leaveState p)) := by
  simp only [bridgingGood, h]

/-- U of a LOCKED_FREQ count one second after it starts (R86). -/
theorem lineBound_one (u slope : Int) : saturateBound (u + slope * (((0 : Nat) : Int) + 1)) = min (u + slope) 65536000000000 := by
  rw [Nat.cast_zero, zero_add, mul_one]
  rfl

theorem saturateBound_count (u slope : Int) (t : Nat) :
    saturateBound (u + slope * ((t : Int) + 1)) = min (u + slope * (t + 1 : Nat)) 65536000000000 := by
  rw [Nat.cast_add, Nat.cast_one]
  rfl

/-- A take that is not GOOD copies no scale offset (R67). -/
theorem taken_of_bad {p : Part} (h : ∀ x, p.take = some x → x.outcome ≠ .good) :
    (taken p).hub = { p.hub with stepPermission := if p.tb.stepMark then false else p.hub.stepPermission } := by
  have start := taken_start p
  have hstart : (clearFresh (if p.tb.stepMark then completeStep p else p)).hub.scaleOffset = p.hub.scaleOffset := by
    cases p.tb.stepMark <;> rfl
  have hscale : (taken p).hub.scaleOffset = p.hub.scaleOffset := by
    unfold taken
    dsimp only
    split
    · next x hx =>
      have hbad := h x hx
      split
      · exact hstart
      · unfold copyScale
        split
        · next hgood _ => exact absurd hgood hbad
        · exact hstart
    · exact hstart
  rw [(taken_leaves p).hub, hscale]

/-! ### The six clauses of O5, each by its state's action on the part as it stands after the take -/

/-- A GOOD sample in LOCKED_FREQ (R74, R81, R82, R86). -/
theorem lockedFreq_event {p : Part} {r : Int} {aref scale : Option Int} {c : LineCount} (hstate : p.hub.state = .lockedFreq)
    (hselected : p.selected = some lineSlot)
    (htake : p.take = some { outcome := .good, value := some r, accuracy := aref, scale := scale })
    (hcount : p.hub.lineCount = some c) :
    hubSecondEvent p = lockedFreqGood r (taken p) ∧
      (taken p).hub = { p.hub with stepPermission := if p.tb.stepMark then false else p.hub.stepPermission } ∧
      (taken p).hub.lineCount = some c := by
  have hub := taken_of_line hselected
  refine ⟨?_, hub, by rw [hub]; exact hcount⟩
  rw [hubSecondEvent_eq, htake]
  exact actOnTake_lockedFreq_good _ (by rw [hub]; exact hstate)

/-- A take that is not GOOD in LOCKED_FREQ (R75). -/
theorem lockedFreq_event_bad {p : Part} (hstate : p.hub.state = .lockedFreq)
    (hbad : ∀ x, p.take = some x → x.outcome ≠ .good) : hubSecondEvent p = enterBridging .lockedFreq (taken p) := by
  rw [hubSecondEvent_eq]
  exact actOnTake_lockedFreq_bad _ (by rw [(taken_leaves p).hub]; exact hstate) hbad

theorem taken_newPrediction (p : Part) : (taken p).newPrediction = p.newPrediction := by
  have leaves := taken_leaves p
  rw [Part.newPrediction, leaves.hub, leaves.osc]
  rfl

/-- The hub as BRIDGING hands it to the state that it returns to: the prediction is one second on, and removed (R75). -/
def bridged (p : Part) : Part := leaveState (advancePrediction (taken p))

structure Bridged (u : Int) (p q : Part) : Prop where
  tb       : q.tb = p.tb
  osc      : q.osc = p.osc
  slots    : q.slots = p.slots
  standing : hasCondition (q.alarm.standingOf .hub) .bridging = false
  hub      : q.hub = { (taken p).hub with t := p.hub.t + 1, bound := u, prediction := none }

theorem bridged_leaves {p : Part} {r : Prediction} (hstate : p.hub.state = .bridging) (hprediction : p.hub.prediction = some r) :
    Bridged (r.boundAt (p.hub.t + 1)) p (bridged p) := by
  have leaves := taken_leaves p
  have hadvance := advancePrediction_hub (p := taken p) (r := r) (by rw [leaves.hub]; exact hprediction)
  have hstill : (advancePrediction (taken p)).hub.state = .bridging := by
    rw [hadvance, leaves.hub]
    exact hstate
  have ht : (taken p).hub.t = p.hub.t := by rw [leaves.hub]
  refine ⟨?_, ?_, ?_, leaveState_bridging_standing hstill, ?_⟩
  · rw [bridged, leaveState_bridging hstill]
    exact leaves.tb
  · rw [bridged, leaveState_bridging hstill]
    exact leaves.osc
  · rw [bridged, leaveState_bridging hstill]
    exact leaves.slots
  · rw [bridged, leaveState_bridging hstill, clearHub_hub, withHub_hub, hadvance, ht]

/-- A GOOD sample in BRIDGING, from LOCKED (R75). -/
theorem bridging_event_locked {p : Part} {e a : Int} {scale : Option Int} (hstate : p.hub.state = .bridging)
    (hfrom : p.hub.bridgedFrom = .locked)
    (htake : p.take = some { outcome := .good, value := some e, accuracy := some a, scale := scale }) :
    hubSecondEvent p = lockedGood e a (enterLocked (bridged p)) := by
  have leaves := taken_leaves p
  rw [hubSecondEvent_eq, htake, actOnTake_bridging_good _ (by rw [leaves.hub]; exact hstate)]
  exact bridgingGood_locked (by rw [advancePrediction, withHub_hub, leaves.hub]; exact hfrom)

/-- A GOOD sample in BRIDGING, from LOCKED_FREQ (R75). -/
theorem bridging_event_lockedFreq {p : Part} {r : Int} {aref scale : Option Int} (hstate : p.hub.state = .bridging)
    (hfrom : p.hub.bridgedFrom = .lockedFreq)
    (htake : p.take = some { outcome := .good, value := some r, accuracy := aref, scale := scale }) :
    hubSecondEvent p = lockedFreqGood r (enterLockedFreq (bridged p)) := by
  have leaves := taken_leaves p
  rw [hubSecondEvent_eq, htake, actOnTake_bridging_good _ (by rw [leaves.hub]; exact hstate)]
  exact bridgingGood_lockedFreq (by rw [advancePrediction, withHub_hub, leaves.hub]; exact hfrom)

/-- A single out-of-window sample does not reach the 64 of R73. -/
theorem lockedGood_fresh {e a : Int} {p : Part} (h : p.hub.outOfWindow = 0) : lockedGood e a p = lockedStep e a p := by
  rw [lockedGood_eq, h]
  refine if_neg ?_
  split <;> omega

/-- The hub record after the return to LOCKED (R73, R75, R80, R82). -/
theorem bridging_event_locked_hub {p : Part} {r : Prediction} {e a f y : Int} {scale : Option Int}
    (hstate : p.hub.state = .bridging) (hfrom : p.hub.bridgedFrom = .locked) (hprediction : p.hub.prediction = some r)
    (htake : p.take = some { outcome := .good, value := some e, accuracy := some a, scale := scale })
    (hf : f = clampCorrection (loopF p.hub.settings.loopClass.gains p.hub.integrator e))
    (hy : y = clampCorrection (loopY p.hub.settings.loopClass.gains p.hub.integrator e)) :
    (hubSecondEvent p).tb = { p.tb with next := y } ∧
      (hubSecondEvent p).hub =
        { p.hub with
          state := .locked, grade := if p.hub.selected = some pktSlot then .b else .a, wasLocked := true
          prediction := none, integrator := f, correction := y, t := p.hub.t + 1
          bound := min (a * 65536 + magnitude e) 65536000000000, age := min (p.hub.age + 1) 65536
          average :=
            if p.hub.age = 0 then f else p.hub.average + roundDiv (f - p.hub.average) (2 ^ p.osc.shift.toNat)
          averageValid := p.hub.averageValid || decide (2 ^ p.osc.shift.toNat ≤ min (p.hub.age + 1) 65536)
          outOfWindow := if p.hub.settings.lockWindow * 65536 < magnitude e then 1 else 0, stepPermission := false
          scaleOffset := (taken p).hub.scaleOffset } := by
  have leaves := taken_leaves p
  have back := bridged_leaves hstate hprediction
  have hosc : (enterLocked (bridged p)).osc = p.osc := back.osc
  have htb : (enterLocked (bridged p)).tb = p.tb := back.tb
  have hfresh : (enterLocked (bridged p)).hub.outOfWindow = 0 := rfl
  rw [bridging_event_locked hstate hfrom htake, lockedGood_fresh hfresh, lockedStep_tb, lockedStep_hub, hosc, htb,
    enterLocked_hub, back.hub, leaves.hub, hf, hy]
  exact ⟨rfl, rfl⟩

/-- The hub record after the return to LOCKED_FREQ (R74, R75, R81, R82, R86). -/
theorem bridging_event_lockedFreq_hub {p : Part} {q : Prediction} {r f u : Int} {aref scale : Option Int}
    (hstate : p.hub.state = .bridging) (hfrom : p.hub.bridgedFrom = .lockedFreq) (hselected : p.selected = some lineSlot)
    (hprediction : p.hub.prediction = some q)
    (htake : p.take = some { outcome := .good, value := some r, accuracy := aref, scale := scale })
    (hf : f = clampCorrection (p.hub.integrator + roundDiv (r - p.hub.integrator) 8)) (hu : u = q.boundAt (p.hub.t + 1)) :
    (hubSecondEvent p).tb = { p.tb with next := f } ∧
      (hubSecondEvent p).hub =
        { p.hub with
          state := .lockedFreq, grade := .c, wasLocked := true, prediction := none, integrator := f, correction := f
          lineCount := some { uEntry := u, slope := (p.slot lineSlot).freqBound }, t := 1
          bound := min (u + (p.slot lineSlot).freqBound) 65536000000000, age := min (p.hub.age + 1) 65536
          average :=
            if p.hub.age = 0 then f else p.hub.average + roundDiv (f - p.hub.average) (2 ^ p.osc.shift.toNat)
          averageValid := p.hub.averageValid || decide (2 ^ p.osc.shift.toNat ≤ min (p.hub.age + 1) 65536)
          stepPermission := if p.tb.stepMark then false else p.hub.stepPermission } := by
  have back := bridged_leaves hstate hprediction
  have hosc : (enterLockedFreq (bridged p)).osc = p.osc := back.osc
  have htb : (enterLockedFreq (bridged p)).tb = p.tb := back.tb
  have hslot : (bridged p).slot lineSlot = p.slot lineSlot := by rw [Part.slot, back.slots, Part.slot]
  have hcount : (enterLockedFreq (bridged p)).hub.lineCount = some { uEntry := u, slope := (p.slot lineSlot).freqBound } := by
    rw [enterLockedFreq_hub, hslot, back.hub, hu]
  rw [bridging_event_lockedFreq hstate hfrom htake, lockedFreqGood_tb, lockedFreqGood_hub r hcount, hosc, htb,
    enterLockedFreq_hub, hslot, back.hub, taken_of_line hselected, lineBound_one, hf, hu]
  exact ⟨rfl, rfl⟩

/-- Settles O5: each clause by the lemma of its state. -/
theorem bridgingReturnsAndExpiryGoesOn : Obligations.BridgingReturnsAndExpiryGoesOn := by
  refine ⟨fun p r aref scale c f u hstate hselected htake hcount hf hu => ?_, fun p hstate hselected hbad => ?_,
    fun p r e a f y scale hstate hfrom hprediction htake hf hy => ?_,
    fun p q r aref scale f u hstate hfrom hselected hprediction htake hf hu => ?_,
    fun p r u hstate hselected hbad hprediction hu => ?_, fun p r u y hstate hselected hprediction hu hy => ?_⟩
  · have leaves := taken_leaves p
    obtain ⟨hevent, hub, hline⟩ := lockedFreq_event hstate hselected htake hcount
    rw [hevent, lockedFreqGood_tb, lockedFreqGood_hub r hline, leaves.tb, leaves.osc, hub, saturateBound_count, hu, hf]
    exact ⟨rfl, rfl⟩
  · have leaves := taken_leaves p
    rw [lockedFreq_event_bad hstate hbad, enterBridging_hub, enterBridging_tb, taken_newPrediction, leaves.tb, leaves.hub]
    exact ⟨rfl, rfl, rfl, rfl, rfl, rfl, rfl, rfl, rfl, rfl, enterBridging_standing _ _⟩
  · have hf' := hf.trans (loopF_eq p.hub.settings.loopClass p.hub.integrator e).symm
    have hy' : y = clampCorrection (loopY p.hub.settings.loopClass.gains p.hub.integrator e) :=
      hy.trans (by rw [hf']; exact (loopY_eq p.hub.settings.loopClass p.hub.integrator e).symm)
    obtain ⟨htb, hub⟩ := bridging_event_locked_hub hstate hfrom hprediction htake hf' hy'
    have hscale : (hubSecondEvent p).hub.scaleOffset = (taken p).hub.scaleOffset := by rw [hub]
    refine ⟨htb, by rw [hscale]; exact hub, ?_⟩
    rw [bridging_event_locked hstate hfrom htake]
    exact (lockedGood_standing e a _ (by decide)).trans (bridged_leaves hstate hprediction).standing
  · have hbound : u = q.boundAt (p.hub.t + 1) := hu.trans (boundAt_succ q p.hub.t).symm
    obtain ⟨htb, hub⟩ := bridging_event_lockedFreq_hub hstate hfrom hselected hprediction htake hf hbound
    refine ⟨htb, hub, ?_⟩
    rw [bridging_event_lockedFreq hstate hfrom htake]
    exact (lockedFreqGood_standing r _ (by decide)).trans (bridged_leaves hstate hprediction).standing
  · have hub := taken_of_bad hbad
    have hadvance := advancePrediction_hub (p := taken p) (r := r) (by rw [hub]; exact hprediction)
    have hevent : hubSecondEvent p = advancePrediction (taken p) := by
      rw [hubSecondEvent_eq]
      exact actOnTake_bridging_bad _ (by rw [hub]; exact hstate) hbad
    rw [hevent, hadvance, hub, hu, boundAt_succ]
    exact ⟨(taken_leaves p).tb, rfl⟩
  · have leaves := taken_leaves p
    obtain ⟨htake, hub⟩ := taken_of_none hselected
    obtain ⟨hpredicted, htb⟩ := predicted (p := taken p) (r := r) (by rw [hub]; exact hprediction)
    have hevent : hubSecondEvent p = predictCorrection (advancePrediction (taken p)) := by
      rw [hubSecondEvent_eq]
      exact actOnTake_holdoverExpired _ (by rw [hub]; exact hstate)
    rw [hevent, hpredicted, htb, leaves.tb, hub, hu, hy, boundAt_succ]
    exact ⟨rfl, rfl⟩

end Sys2Proof.Machine

/-! SUPPORT. FIND, CREATE and RETIRE (R56, R91 to R97, R112, R113, R116). -/

namespace Sys2Proof.Machine

/-! ## The first of the indices that have a property -/

/-- A search through the indices finds the lowest that has the property. -/
theorem find_finRange {n : Nat} {f : Fin n → Bool} {i : Fin n} (hi : f i = true) (hlow : ∀ j, j < i → f j = false) :
    (List.finRange n).find? f = some i := by
  refine List.find?_eq_some_iff_getElem.2 ⟨hi, i.val, by simp, by simp, fun j hj => ?_⟩
  rw [List.getElem_finRange, hlow _ (Fin.lt_def.2 hj)]
  rfl

/-- A search through the indices finds the one that has the property. -/
theorem find_finRange_unique {n : Nat} {f : Fin n → Bool} {i : Fin n} (hi : f i = true)
    (hone : ∀ j, f j = true → j = i) : (List.finRange n).find? f = some i :=
  find_finRange hi fun j hj => by
    by_contra hf
    exact absurd (hone j (by simpa using hf)) (Fin.ne_of_lt hj)

theorem find_finRange_none {n : Nat} {f : Fin n → Bool} (h : ∀ j, f j = false) : (List.finRange n).find? f = none :=
  List.find?_eq_none.2 fun j _ => by simp [h j]

/-! ## FIND (R94, R96) -/

theorem counts_iff (r : ServiceRecord) (q : PortIx) :
    r.counts q = true ↔ r.state ≠ .vacant ∧ (r.homePort = q ∨ r.currentPort = q) := by
  simp [ServiceRecord.counts]

/-- The identity's holder is the one record that the laws of R94 let hold it. -/
theorem identityHolder_of_laws {p : Part} {x : Identity} {i : RecordIx} (laws : RecordLaws p)
    (hstate : (p.record i).state ≠ .vacant) (hidentity : (p.record i).identity = some x) :
    p.identityHolder x = some i :=
  find_finRange_unique (by simp [hstate, hidentity]) fun j hj => by
    obtain ⟨hs, hx⟩ : (p.record j).state ≠ .vacant ∧ (p.record j).identity = some x := by simpa using hj
    exact laws.2 x j i hs hstate hx hidentity

theorem identityHolder_none {p : Part} {x : Identity}
    (h : ∀ i, (p.record i).state ≠ .vacant → (p.record i).identity ≠ some x) : p.identityHolder x = none :=
  find_finRange_none fun j => by
    by_cases hs : (p.record j).state = .vacant
    · simp [hs]
    · simp [h j hs]

theorem flagCode_beq (a b : PortIx) : flagCode (a == b) = if a = b then 1 else 0 := by
  by_cases h : a = b <;> simp [flagCode, h]

/-- FIND by port and address names the record that counts against the port at the address (R96). -/
theorem findByPort_of_laws {p : Part} {port address : Byte} {q : PortIx} {a : Address} {i : RecordIx}
    (laws : RecordLaws p) (hport : indexOf 12 port = some q) (haddress : indexOf 4 address = some a)
    (hcounts : (p.record i).counts q = true) (hi : (p.record i).address = a) :
    findByPort port address p = .doneWith
      (findBody i (flagCode ((p.record i).homePort == q) + 2 * flagCode ((p.record i).currentPort == q)) p) := by
  have hfind : allRecords.find? (fun j => (p.record j).counts q && (p.record j).address == a) = some i :=
    find_finRange_unique (by simp [hcounts, hi]) fun j hj => by
      obtain ⟨hc, ha⟩ : (p.record j).counts q = true ∧ (p.record j).address = a := by simpa using hj
      exact laws.1 q j i hc hcounts (ha.trans hi.symm)
  simp only [findByPort, hport, haddress, hfind]

/-- An identity in a FIND is read back as it was written (R199). -/
theorem handleFind_identity (x : Identity) (p : Part) : handleFind (1 :: bytesOf 6 x.toNat) p = findByIdentity x p := by
  have hread : BitVec.ofNat 48 (numberOf (bytesOf 6 x.toNat)) = x := by
    rw [numberOf_bytesOf]
    exact BitVec.eq_of_toNat_eq (by simp [Nat.mod_eq_of_lt x.isLt])
  have hform : handleFind (1 :: bytesOf 6 x.toNat) p =
      findByIdentity (BitVec.ofNat 48 (numberOf (bytesOf 6 x.toNat))) p := rfl
  rw [hform, hread]

/-- Settles O28: the laws of R94 leave one record that a search can find. -/
theorem findNamesTheMatchingRecord : Obligations.FindNamesTheMatchingRecord := by
  refine fun s tag hready laws => ⟨fun port address q a hport haddress => ⟨fun i hstate hi hon => ?_, fun hnone => ?_⟩,
    fun x => ⟨fun i hstate hidentity => ?_, fun hnone => ?_⟩⟩
  · refine completes_request rfl hready (by simp) rfl ?_
    change (s.part, findByPort port address s.part) = _
    rw [findByPort_of_laws laws hport haddress ((counts_iff _ _).2 ⟨hstate, hon⟩) hi, flagCode_beq, flagCode_beq]
    simp only [findBody, mul_ite, mul_one, mul_zero]
    rfl
  · refine completes_request rfl hready (by simp) rfl ?_
    change (s.part, findByPort port address s.part) = _
    have hfind : allRecords.find? (fun j => (s.part.record j).counts q && (s.part.record j).address == a) = none :=
      find_finRange_none fun j => by
        by_contra hj
        obtain ⟨hc, ha⟩ : (s.part.record j).counts q = true ∧ (s.part.record j).address = a := by simpa using hj
        obtain ⟨hs, hon⟩ := (counts_iff _ _).1 hc
        exact hon.elim (hnone j hs ha).1 (hnone j hs ha).2
    simp only [findByPort, hport, haddress, hfind]
    rfl
  · refine completes_request (code := 0x20#8) (body := 1 :: bytesOf 6 x.toNat) rfl hready (by simp) (by simp; rfl) ?_
    change (s.part, handleFind (1 :: bytesOf 6 x.toNat) s.part) = _
    rw [handleFind_identity, findByIdentity, identityHolder_of_laws laws hstate hidentity]
    rfl
  · refine completes_request (code := 0x20#8) (body := 1 :: bytesOf 6 x.toNat) rfl hready (by simp) (by simp; rfl) ?_
    change (s.part, handleFind (1 :: bytesOf 6 x.toNat) s.part) = _
    rw [handleFind_identity, findByIdentity, identityHolder_none hnone]
    rfl

/-! ## What the items of table 0 write (R91, R97, R99) -/

theorem decodeValue_ident {kind : FieldKind} {bytes : List Byte} {x : Option Identity}
    (h : decodeValue kind bytes = some (.ident x)) : kind = .ident := by
  cases kind with
  | ident => rfl
  | num _ _ | code _ | anyCode | pulseWidth =>
    rw [decodeValue] at h
    split at h <;> simp at h

theorem recordFields_ident {n : Nat} (h : recordFields n = some .ident) : n = 1 := by
  unfold recordFields at h
  split at h <;> simp_all [onOff]

section Written

variable {raws : List RawItem} {items : List Item}

/-- The identity that items write: absent for a value of no bytes (R99). -/
theorem identityWritten_eq (h : decodeItems recordFields raws = some items) (htakes : takesItems recordFields raws = true) :
    identityWritten items =
      (valueOf raws 1).map (fun bytes => if bytes = [] then none else some (BitVec.ofNat 48 (numberOf bytes))) := by
  rw [identityWritten, findSome_decoded (field := 1#8) (kind := .ident) _ rfl ?other ?self h]
  case other =>
    rintro n value hn ⟨bytes, kind, hkind, hvalue⟩
    cases value with
    | num _ _ => rfl
    | code _ => rfl
    | ident x =>
      obtain rfl := decodeValue_ident hvalue
      exact absurd (recordFields_ident hkind) hn
  case self =>
    intro bytes value hvalue
    rw [decodeValue] at hvalue
    split at hvalue
    · obtain rfl := Option.some.inj hvalue
      rfl
    · split at hvalue
      · obtain rfl := Option.some.inj hvalue
        rfl
      · simp at hvalue
  cases hv : valueOf raws 1 with
  | none => rfl
  | some bytes =>
    have hlen : bytes.length = 6 ∨ bytes.length = 0 := by
      have htaken := valueOf_takes htakes hv
      change (decodeValue .ident bytes).isSome = true at htaken
      simpa [decodeValue_ident_isSome] using htaken
    rw [Option.bind_some, Option.map_some]
    obtain hlen | hlen := hlen
    · have hne : bytes ≠ [] := by
        rintro rfl
        simp at hlen
      simp [decodeValue, hlen, hne]
    · obtain rfl := List.length_eq_zero_iff.1 hlen
      rfl

theorem identityWritten_held (h : decodeItems recordFields raws = some items)
    (htakes : takesItems recordFields raws = true) (old : Option Identity) :
    (identityWritten items).getD old = heldIdentity raws old := by
  rw [identityWritten_eq h htakes, heldIdentity]
  cases hv : valueOf raws 1 with
  | none => rfl
  | some bytes => cases bytes <;> rfl

end Written

/-! ## CREATE (R91 to R94, R97) -/

section Create

variable {raws : List RawItem} {items : List Item}

theorem heldFlag_eq (h : decodeItems recordFields raws = some items) (htakes : takesItems recordFields raws = true)
    {n : Nat} {field : Byte} (hn : field.toNat = n) (hkind : recordFields n = some onOff) (old : Bool) :
    (flagWritten items n).getD old = heldFlag raws field old :=
  flagWritten_held h hn hkind rfl htakes old

theorem heldRecordNumber (h : decodeItems recordFields raws = some items) (htakes : takesItems recordFields raws = true)
    {n : Nat} {field : Byte} {lo hi : Int} (hn : field.toNat = n) (hkind : recordFields n = some (.num lo hi))
    (hrange : recordRanges.lookup field = some (lo, hi)) (old : Int) :
    (numberWritten items n).getD old = heldNumber recordRanges raws field old :=
  numberWritten_held h hn hkind hrange htakes old

/-- A write of the statistics flag to a record that has latched no half-spread (R99, R150). -/
theorem writeStatistics_fresh {r : ServiceRecord} (hspread : r.halfSpread = none) (hstale : r.stale = false)
    (hwindow : r.window = {}) (on : Bool) : writeStatistics on r = { r with statistics := on } := by
  cases on <;> simp [writeStatistics, stopStatistics, hspread, hstale, ← hwindow]

/-- The record that CREATE makes has the values that its items name, and the defaults (R91, R97). -/
theorem created_record (h : decodeItems recordFields raws = some items) (htakes : takesItems recordFields raws = true)
    (old : ServiceRecord) (q : PortIx) (a : Address) :
    writeLive items (writeImmediate items (created old q a ((identityWritten items).getD none) 1500)) =
      { state := .reserved, generation := old.generation + 1, homePort := q, currentPort := q
        address := a, identity := heldIdentity raws none, budget := heldNumber recordRanges raws 2 1500
        asymmetry := heldNumber recordRanges raws 3 0, share := heldNumber recordRanges raws 4 32768
        staticOffset := heldNumber recordRanges raws 5 0
        protectOffset := heldNumber recordRanges raws 6 0, eligible := heldFlag raws 7 false
        silentLimit := heldNumber recordRanges raws 8 8, autoRetire := heldNumber recordRanges raws 9 0
        statistics := heldFlag raws 10 true } := by
  rw [← identityWritten_held h htakes, ← heldRecordNumber h htakes (n := 2) rfl rfl rfl,
    ← heldRecordNumber h htakes (n := 3) rfl rfl rfl, ← heldRecordNumber h htakes (n := 4) rfl rfl rfl,
    ← heldRecordNumber h htakes (n := 5) rfl rfl rfl, ← heldRecordNumber h htakes (n := 6) rfl rfl rfl,
    ← heldRecordNumber h htakes (n := 8) rfl rfl rfl, ← heldRecordNumber h htakes (n := 9) rfl rfl rfl,
    ← heldFlag_eq h htakes (n := 7) rfl rfl, ← heldFlag_eq h htakes (n := 10) rfl rfl]
  unfold writeImmediate
  dsimp only
  cases flagWritten items 10 with
  | none => rfl
  | some on =>
    dsimp only
    rw [writeStatistics_fresh rfl rfl rfl]
    rfl

end Create

/-- A CREATE of items that fit is answered by the Record Table. -/
theorem completes_create {s : State} {tag port address : Byte} {items : List RawItem} {q : Part} {r : Reply}
    (hready : s.part.Ready) (hfit : itemsFit 251 items = true)
    (hact : createRequest port address (joinItems items) s.part = (q, r)) :
    Completes (.create tag port address items) s (q.answer 0x21#8 tag r) := by
  have hroom := (itemsFit_iff.1 hfit).2
  refine completes_request (code := 0x21#8) (body := port :: address :: joinItems items) rfl hready (by simpa using by omega) ?_ hact
  cases items with
  | nil => rfl
  | cons it rest =>
    refine congrArg some ((Bool.or_eq_true _ _).mpr (.inr (decide_eq_true ?_)))
    simp [joinItems_cons]

theorem identityTaken_of_holder {p : Part} {x : Identity} {j : RecordIx} (hstate : (p.record j).state ≠ .vacant)
    (hidentity : (p.record j).identity = some x) : p.identityTaken (some x) = true := by
  have hfound : (p.identityHolder x).isSome = true :=
    List.find?_isSome.2 ⟨j, mem_allRecords j, by simp [hstate, hidentity]⟩
  exact hfound

/-- An identity that a request names, when no live record holds it. -/
theorem identityTaken_eq_false {p : Part} {raws : List RawItem}
    (h : ∀ (x : List Byte) (j : RecordIx), valueOf raws 1 = some x → x ≠ [] → (p.record j).state ≠ .vacant →
      (p.record j).identity ≠ some (BitVec.ofNat 48 (numberOf x))) : p.identityTaken (heldIdentity raws none) = false := by
  unfold heldIdentity
  cases hv : valueOf raws 1 with
  | none => rfl
  | some bytes =>
    cases bytes with
    | nil => rfl
    | cons b rest =>
      have hnone := identityHolder_none (x := BitVec.ofNat 48 (numberOf (b :: rest)))
        fun j hj => h (b :: rest) j hv (List.cons_ne_nil b rest) hj
      simp [Part.identityTaken, hnone]

/-- Settles O30: the checks of R97 in their order, and then the record that the items make. -/
theorem createReservesTheLowestUsableRecord : Obligations.CreateReservesTheLowestUsableRecord := by
  refine fun s tag port address raws hready hfit => ⟨fun hbad => ?_, fun hadmits haddress hport => ?_,
    fun q a hport haddress hadmits => ?_⟩
  · refine completes_create hready hfit ?_
    unfold createRequest
    obtain hadmits | haddress := hbad
    · rw [readItems_eq_none hfit ((recordAdmits_eq raws).symm.trans hadmits)]
      rfl
    · rw [indexOf_eq_none haddress]
      cases readItems recordFields (joinItems raws) <;> rfl
  · obtain ⟨items, hitems, hread⟩ := readItems_joinItems hfit ((recordAdmits_eq raws).symm.trans hadmits)
    refine completes_create hready hfit ?_
    simp only [createRequest, hread, indexOf_of_lt haddress, indexOf_eq_none hport]
    rfl
  · have htakes := (recordAdmits_eq raws).symm.trans hadmits
    obtain ⟨items, hitems, hread⟩ := readItems_joinItems hfit htakes
    have hidentity := identityWritten_held hitems htakes none
    refine ⟨fun hfree => ?_, fun x j hx hne hstate hj => ?_, fun hfree hnone => ?_⟩
    · refine completes_create hready hfit ?_
      simp only [createRequest, hread, hport, haddress, hfree]
      rfl
    · have hheld : heldIdentity raws none = some (BitVec.ofNat 48 (numberOf x)) := by
        cases x with
        | nil => exact absurd rfl hne
        | cons b rest => rw [heldIdentity, hx]
      refine completes_create hready hfit ?_
      simp only [createRequest, hread, hport, haddress, hidentity, hheld, identityTaken_of_holder hstate hj, if_true, ite_self]
      rfl
    · have hfresh := identityTaken_eq_false (p := s.part) hnone
      refine ⟨fun i hvacant hfreed hlow => ?_, fun hfull => ?_⟩
      · have husable : s.part.usableRecord = some i :=
          find_finRange (by simp [hvacant, hfreed]) fun j hj => by
            obtain hs | hh := hlow j hj
            · simp [hs]
            · simp [hh]
        have hmade := created_record hitems htakes (s.part.record i) q a
        have hnew : createAt i q a items s.part =
            (s.part.setRecord i (writeLive items (writeImmediate items
              (created (s.part.record i) q a ((identityWritten items).getD none) 1500)))).setPort q (s.part.port q).bind := rfl
        refine completes_create hready hfit ?_
        simp only [createRequest, hread, hport, haddress, hidentity, hfresh, hfree, husable, anyClamped_eq recordRanges_of hitems,
          createBody]
        rw [hnew, hmade, setPort_record, record_setRecord_self]
        rfl
      · have husable : s.part.usableRecord = none :=
          find_finRange_none fun j => by
            obtain hs | hh := hfull j
            · simp [hs]
            · simp [hh]
        refine completes_create hready hfit ?_
        simp only [createRequest, hread, hport, haddress, hidentity, hfresh, hfree, husable]
        rfl

end Sys2Proof.Machine

/-! SUPPORT. RETIRE: a record that retires, and one that ends at once (R56, R112, R113, R116). -/

namespace Sys2Proof.Machine

/-! ## The leave of a record's retirement or end -/

/-- Leave for the end of a record: the record, the return slots that it may be bound to, and the choice. -/
def Access.ending (i : RecordIx) : Access :=
  { hub := True, step := False, slots := fun k => k = 4 ∨ k = 5, records := fun j => j = i, ports := fun _ => False
    engines := fun _ => False, pairs := fun _ => False
    owners := fun o => o = .hub ∨ o = .slot 4 ∨ o = .slot 5 ∨ o = .record i
    marks := fun o _ => o = .hub ∨ o = .slot 4 ∨ o = .slot 5 ∨ o = .record i }

namespace Access

theorem ending_record (i : RecordIx) : (ending i).Record i :=
  ⟨rfl, .inr (.inr (.inr rfl)), fun _ => .inr (.inr (.inr rfl))⟩

theorem ending_returns (i : RecordIx) : (ending i).Returns where
  choice := ⟨trivial, .inl rfl, fun _ _ => .inl rfl⟩
  slot4 := ⟨.inl rfl, .inr (.inl rfl), fun _ => .inr (.inl rfl)⟩
  slot5 := ⟨.inr rfl, .inr (.inr (.inl rfl)), fun _ => .inr (.inr (.inl rfl))⟩

end Access

theorem enterRetiring_within (i : RecordIx) (p : Part) : Within (.ending i) p (enterRetiring i p) :=
  ((Within.refl _ p).withRecord (Access.ending_record i).record _).recordLost (Access.ending_record i)
    (Access.ending_returns i) _

theorem endRetired_within (d : Detail) (i : RecordIx) (p : Part) : Within (.ending i) p (endRetired d i p) :=
  (Within.refl _ p).endRetired (Access.ending_record i) (Access.ending_returns i) d

/-! ## A record that enters RETIRING (R113, R116) -/

/-- A record that no slot's half names is bound to none. -/
theorem returnBinding_none {p : Part} {i : RecordIx} (h : BindingsAgree p)
    (h4 : (p.slot 4).binding ≠ some (i, (p.record i).generation))
    (h5 : (p.slot 5).binding ≠ some (i, (p.record i).generation)) : (p.record i).returnBinding = none := by
  obtain ⟨hlow, _, hrecord⟩ := h
  cases hb : (p.record i).returnBinding with
  | none => rfl
  | some k =>
    have hbound := hrecord i k hb
    obtain hk | hk := Nat.lt_or_ge k.val 4
    · simp [hlow k hk] at hbound
    · obtain rfl | rfl := returnSlot_cases (Nat.not_lt.2 hk)
      · exact absurd hbound h4
      · exact absurd hbound h5

theorem enterRetiring_record {p : Part} {i : RecordIx} (h : BindingsAgree p) :
    (enterRetiring i p).record i =
      { p.record i with
        state := .retiring, stagedOffset := none, stagedShare := none, dismissAttempts := 0, returnBinding := none } := by
  have taken (k : SlotIx) (hk : (p.slot k).binding = some (i, (p.record i).generation)) :
      ((unbindSlot .recordLost k (withRecord i retiringRecord p)).record i) =
        { retiringRecord (p.record i) with returnBinding := none } := by
    have hk' : ((withRecord i retiringRecord p).slot k).binding = some (i, (p.record i).generation) := hk
    rw [unbindSlot_record, hk', Option.map_some, if_pos rfl, record_withRecord, if_pos rfl]
  rw [enterRetiring_eq]
  unfold recordLost
  split
  · exact taken 4 ‹_›
  · split
    · exact taken 5 ‹_›
    · next h4 h5 =>
      rw [record_withRecord, if_pos rfl, retiringRecord, returnBinding_none h h4 h5]

/-! ## The standing conditions of a record that ends (R112) -/

/-- A clear leaves clear what is clear. -/
theorem take_stays_clear {a : AlarmUnit} {r : Report} {o : Owner} {c : Condition} (hclear : r.isRaise = false)
    (h : hasCondition (a.standingOf o) c = false) : hasCondition ((a.take r).standingOf o) c = false := by
  by_cases hmoved : r.condition.standing = true ∧ r.owner = o ∧ r.condition.bit = c.bit
  · obtain ⟨hstanding, rfl, hbit⟩ := hmoved
    have hcleared := take_cleared (a := a) hclear hstanding
    rwa [hasCondition, hbit] at hcleared
  · exact (take_other fun hs hr => hmoved ⟨hs, hr⟩).trans h

/-- The conditions that a record ends without: bits 0 to 3 (R112). -/
theorem clearStandings_standing (i : RecordIx) (p : Part) :
    hasCondition ((clearStandings i p).alarm.standingOf (.record i)) .teMarginal = false ∧
      hasCondition ((clearStandings i p).alarm.standingOf (.record i)) .teExceeded = false ∧
      hasCondition ((clearStandings i p).alarm.standingOf (.record i)) .silent = false ∧
      hasCondition ((clearStandings i p).alarm.standingOf (.record i)) .lineFault = false := by
  let x := (p.record i).currentPort
  let p1 := clearRecord .silent x i p
  let p2 := clearTe .teMarginal (p.record i).te x i p1
  let p3 := clearTe .teExceeded (p.record i).te x i p2
  have silent : hasCondition (p1.alarm.standingOf (.record i)) .silent = false :=
    take_cleared (r := recordPortReport .silent false x i p) rfl rfl
  have marginal : hasCondition (p2.alarm.standingOf (.record i)) .teMarginal = false :=
    take_cleared (r := { recordPortReport .teMarginal false x i p1 with te := (p.record i).te }) rfl rfl
  have exceeded : hasCondition (p3.alarm.standingOf (.record i)) .teExceeded = false :=
    take_cleared (r := { recordPortReport .teExceeded false x i p2 with te := (p.record i).te }) rfl rfl
  have lineFault : hasCondition ((clearStandings i p).alarm.standingOf (.record i)) .lineFault = false :=
    take_cleared (r := recordPortReport .lineFault false x i p3) rfl rfl
  have after3 (c : Condition) (h : hasCondition (p3.alarm.standingOf (.record i)) c = false) :
      hasCondition ((clearStandings i p).alarm.standingOf (.record i)) c = false := take_stays_clear rfl h
  have after2 (c : Condition) (h : hasCondition (p2.alarm.standingOf (.record i)) c = false) :
      hasCondition ((clearStandings i p).alarm.standingOf (.record i)) c = false := after3 c (take_stays_clear rfl h)
  exact ⟨after2 _ marginal, after3 _ exceeded, after2 _ (take_stays_clear rfl silent), lineFault⟩

/-- A set of conditions without the lowest four. -/
theorem lowFour_clear {m : BitVec 16} (h0 : hasCondition m .teMarginal = false) (h1 : hasCondition m .teExceeded = false)
    (h2 : hasCondition m .silent = false) (h3 : hasCondition m .lineFault = false) : m &&& 0x000F#16 = 0#16 := by
  refine BitVec.eq_of_getLsbD_eq fun n hn => ?_
  rw [BitVec.getLsbD_and]
  obtain hlow | hhigh := Nat.lt_or_ge n 4
  · have hclear : m.getLsbD n = false := by
      interval_cases n
      · exact h0
      · exact h1
      · exact h2
      · exact h3
    simp [hclear]
  · have hmask : (0x000F#16).getLsbD n = false := by
      interval_cases n <;> rfl
    simp [hmask]

theorem endRetired_standing (d : Detail) (i : RecordIx) (p : Part) :
    (endRetired d i p).alarm.standingOf (.record i) &&& 0x000F#16 = 0#16 := by
  obtain ⟨h0, h1, h2, h3⟩ := clearStandings_standing i (lossTold i p)
  have kept (c : Condition) (h : hasCondition ((clearStandings i (lossTold i p)).alarm.standingOf (.record i)) c = false) :
      hasCondition ((endRetired d i p).alarm.standingOf (.record i)) c = false :=
    (take_other (a := (vacate i p).alarm)
      (r := { recordReport .retired true i (vacate i p) with identity := (p.record i).identity, detail := some d })
      fun hs => Bool.noConfusion hs).trans h
  exact lowFour_clear (kept _ h0) (kept _ h1) (kept _ h2) (kept _ h3)

theorem endRetired_record (d : Detail) (i : RecordIx) (p : Part) :
    (endRetired d i p).record i = { generation := (p.record i).generation } := by
  rw [endRetired, report_record, vacate_record]
  rfl

/-! ## RETIRE (R113) -/

theorem reported_answered {p : Part} {o : Owner} {c : Condition} {shows : Entry → Prop} {w : List Instr} {code tag : Byte}
    {r : Reply} (h : p.Reported o c shows) : (answered w code tag r p).Reported o c shows :=
  Part.Reported.settle (p := p.answer code tag r) h w

theorem retireRequest_of_live {p : Part} {index : Byte} {i : RecordIx} (hindex : indexOf 48 index = some i)
    (hvacant : (p.record i).state ≠ .vacant) (hretiring : (p.record i).state ≠ .retiring)
    (hbound : (p.record i).returnBinding = none ∨ (p.record i).returnBinding ≠ p.selected) :
    retireRequest index p = (retireRecord i p, .doneWith (retireBody i (retireRecord i p))) := by
  have hfree : ¬ ((p.record i).returnBinding.isSome ∧ (p.record i).returnBinding = p.selected) := by
    rintro ⟨hsome, heq⟩
    obtain hnone | hne := hbound
    · simp [hnone] at hsome
    · exact hne heq
  simp only [retireRequest, hindex, if_neg hvacant, if_neg hretiring, if_neg hfree]

theorem completes_retire {s : State} {tag index : Byte} {q : Part} {r : Reply} (hready : s.part.Ready)
    (hact : retireRequest index s.part = (q, r)) : Completes (.retire tag index) s (q.answer 0x22#8 tag r) :=
  completes_request (code := 0x22#8) (body := [index]) rfl hready (by simp) rfl hact

/-- Settles O31: what is left of the record, by the state that it had. -/
theorem retireEndsOrDismissesARecord : Obligations.RetireEndsOrDismissesARecord := by
  refine fun s tag index i hready hindex hagree => ⟨fun hactive hbound => ?_, fun hstate hbound => ?_,
    fun hvacant hretiring hsome hselected => ?_⟩
  · have hrecord := enterRetiring_record (i := i) hagree
    have hwithin := enterRetiring_within i s.part
    have hretire : retireRecord i s.part = enterRetiring i s.part := by rw [retireRecord, if_pos hactive]
    have hrequest := retireRequest_of_live hindex (by simp [hactive]) (by simp [hactive]) hbound
    rw [hretire, retireBody, hrecord] at hrequest
    refine ⟨_, completes_retire hready hrequest, rfl, answered_mgmt hwithin.mgmt hwithin.alarm.settings, by simpa using hrecord,
      answered_keepsOtherRecords (hwithin.keepsOtherRecords fun _ h => h), answered_keepsBase (hwithin.keepsBase nofun),
      by simpa using hwithin.ports_eq nofun, by simpa using hwithin.engines_eq nofun, by simpa using hwithin.pairs_eq nofun⟩
  · have hrecord := endRetired_record .immediate i s.part
    have hwithin := endRetired_within .immediate i s.part
    have hlive : (s.part.record i).state ≠ .vacant ∧ (s.part.record i).state ≠ .retiring ∧
        (s.part.record i).state ≠ .active := by
      obtain h | h | h := hstate <;> simp [h]
    obtain ⟨hvacant, hretiring, hactive⟩ := hlive
    have hretire : retireRecord i s.part = endRetired .immediate i s.part := by rw [retireRecord, if_neg hactive]
    have hrequest := retireRequest_of_live hindex hvacant hretiring hbound
    rw [hretire, retireBody, hrecord] at hrequest
    refine ⟨_, completes_retire hready hrequest, rfl, answered_mgmt hwithin.mgmt hwithin.alarm.settings, by simpa using hrecord,
      ?_, fun hthreshold => reported_answered (endRetired_reported .immediate i hthreshold),
      answered_keepsOtherRecords (hwithin.keepsOtherRecords fun _ h => h), answered_keepsBase (hwithin.keepsBase nofun),
      by simpa using hwithin.ports_eq nofun, by simpa using hwithin.engines_eq nofun, by simpa using hwithin.pairs_eq nofun⟩
    rw [settle_standingOf, answer_alarm]
    exact endRetired_standing .immediate i s.part
  · refine completes_retire hready ?_
    simp only [retireRequest, hindex, if_neg hvacant, if_neg hretiring,
      if_pos (And.intro (Option.isSome_iff_ne_none.2 hsome) hselected)]
    rfl

end Sys2Proof.Machine

/-! SUPPORT. One index after another, and SWITCH and RESTORE (R147, R155, R157, R158, R161, R165, R166). -/

namespace Sys2Proof.Machine

/-! ## One index after another -/

theorem forEach_append {α : Type} (a b : List α) (f : α → Part → Part) (p : Part) :
    forEach (a ++ b) f p = forEach b f (forEach a f p) := List.foldl_append

theorem forEach_cons {α : Type} (i : α) (l : List α) (f : α → Part → Part) (p : Part) :
    forEach (i :: l) f p = forEach l f (f i p) := rfl

/-- Steps that leave the part leave it one after another. -/
theorem forEach_idle {α : Type} {f : α → Part → Part} {p : Part} :
    ∀ {l : List α}, (∀ i ∈ l, f i p = p) → forEach l f p = p
  | [], _ => rfl
  | i :: l, h => by
    rw [forEach_cons, h i List.mem_cons_self]
    exact forEach_idle fun j hj => h j (List.mem_cons_of_mem i hj)

/-- What a step keeps, steps keep one after another. -/
theorem forEach_keeps {α β : Type} {f : α → Part → Part} {get : Part → β} :
    ∀ {l : List α} {p : Part}, (∀ i ∈ l, ∀ q, get (f i q) = get q) → get (forEach l f p) = get p
  | [], _, _ => rfl
  | i :: l, p, h => by
    rw [forEach_cons]
    exact (forEach_keeps fun j hj => h j (List.mem_cons_of_mem i hj)).trans (h i List.mem_cons_self p)

/-- The indices fall into those below one, that one, and those above it. -/
theorem finRange_split {n : Nat} (i : Fin n) :
    ∃ below above : List (Fin n), List.finRange n = below ++ i :: above ∧ (∀ j ∈ below, j < i) ∧ ∀ j ∈ above, i < j := by
  obtain ⟨below, above, hsplit⟩ := List.append_of_mem (List.mem_finRange i)
  have hsorted := List.pairwise_lt_finRange n
  rw [hsplit, List.pairwise_append, List.pairwise_cons] at hsorted
  obtain ⟨_, ⟨habove, _⟩, hbelow⟩ := hsorted
  exact ⟨below, above, hsplit, fun j hj => hbelow j hj i List.mem_cons_self, habove⟩

/-- The step of one index among all: what the steps of the others keep of it is as the step leaves it, and the step finds
the part as it was when the lower indices do nothing there. -/
theorem forEach_at {n : Nat} {β : Type} {f : Fin n → Part → Part} {get : Part → β} (i : Fin n)
    (hother : ∀ j, j ≠ i → ∀ q, get (f j q) = get q) (p : Part) :
    ∃ q, get q = get p ∧ get (forEach (List.finRange n) f p) = get (f i q) ∧ ((∀ j, j < i → f j p = p) → q = p) := by
  obtain ⟨below, above, hsplit, hbelow, habove⟩ := finRange_split i
  refine ⟨forEach below f p, forEach_keeps fun j hj => hother j (Fin.ne_of_lt (hbelow j hj)), ?_,
    fun hidle => forEach_idle fun j hj => hidle j (hbelow j hj)⟩
  rw [hsplit, forEach_append, forEach_cons]
  exact forEach_keeps fun j hj => hother j (Fin.ne_of_gt (habove j hj))

/-- A step that acts on its own index alone acts on each. -/
theorem forEach_each {n : Nat} {β : Type} {f : Fin n → Part → Part} {get : Fin n → Part → β} {act : Fin n → β → β}
    (h : ∀ i j q, get j (f i q) = if i = j then act j (get j q) else get j q) (j : Fin n) (p : Part) :
    get j (forEach (List.finRange n) f p) = act j (get j p) := by
  obtain ⟨q, hq, hdone, _⟩ := forEach_at (get := get j) j (fun i hi q => by rw [h, if_neg hi]) p
  rw [hdone, h, if_pos rfl, hq]

/-! ## The leave of a pair's moves and returns -/

/-- Leave for the moves of a pair: its record, its protect port, and every record with its entry and its conditions. -/
def Access.pairing (k : PairIx) : Access :=
  { hub := False, step := False, slots := fun _ => False, records := fun _ => True, ports := fun x => x = protectPort k
    engines := fun _ => False, pairs := fun j => j = k, owners := fun o => ∃ i, o = .record i
    marks := fun o _ => ∃ i, o = .record i }

theorem Access.pairing_pair (k : PairIx) : (pairing k).Pair k :=
  ⟨rfl, rfl, fun i => ⟨trivial, ⟨i, rfl⟩, fun _ => ⟨i, rfl⟩⟩⟩

/-! ## A switch pass (R157, R158) -/

theorem moveRecord_record (k : PairIx) (i j : RecordIx) (p : Part) :
    (moveRecord k i p).record j = if i = j then movedRecord k (p.record i) else p.record j := by
  have hmoved : (moveRecord k i p).record j =
      (withRecord i (fun r => { reseed (toQ r.protectOffset) r with currentPort := protectPort k, blocked := false }) p).record j :=
    rfl
  rw [hmoved, record_withRecord]
  cases hf : (p.record i).filter <;>
    simp [movedRecord, reseed, ServiceRecord.formCompensation, compensationOf, clampTo, toQ, compensationLimit, hf]

/-- A candidate is moved when it is movable then, and blocked otherwise (R157). -/
theorem considerRecord_record (k : PairIx) (i j : RecordIx) (p : Part) :
    (considerRecord k i p).record j =
      if i = j ∧ (p.record j).candidate k = true then
        if p.movable k j then movedRecord k (p.record j) else { p.record j with blocked := true }
      else p.record j := by
  by_cases hcandidate : i = j ∧ (p.record j).candidate k = true
  · obtain ⟨rfl, hc⟩ := hcandidate
    rw [if_pos ⟨rfl, hc⟩, considerRecord, if_pos hc]
    by_cases hm : p.movable k i = true
    · rw [if_pos hm, if_pos hm, moveRecord_record, if_pos rfl]
    · rw [if_neg hm, if_neg hm, record_withRecord, if_pos rfl]
  · rw [if_neg hcandidate, considerRecord]
    by_cases hc : (p.record i).candidate k = true
    · have hi : i ≠ j := fun h => hcandidate ⟨h, h ▸ hc⟩
      rw [if_pos hc]
      split
      · rw [moveRecord_record, if_neg hi]
      · rw [record_withRecord, if_neg hi]
    · rw [if_neg hc]

theorem considerRecord_idle {k : PairIx} {i : RecordIx} {p : Part} (h : (p.record i).candidate k = false) :
    considerRecord k i p = p := by
  rw [considerRecord, if_neg (by simp [h])]

/-- A record at a switch pass: one that is no candidate stays, a candidate is moved or blocked, and the first candidate is
moved when the protect port counts fewer than four records and its address is free there (R157). -/
theorem switchPass_record (k : PairIx) (i : RecordIx) (p : Part) :
    ((p.record i).candidate k = false → (switchPass k p).record i = p.record i) ∧
      ((p.record i).candidate k = true →
        ((switchPass k p).record i = movedRecord k (p.record i) ∨
            (switchPass k p).record i = { p.record i with blocked := true }) ∧
          ((∀ j, j < i → (p.record j).candidate k = false) →
            (switchPass k p).record i =
              if p.movable k i then movedRecord k (p.record i) else { p.record i with blocked := true })) := by
  obtain ⟨q, hq, hdone, hfirst⟩ := forEach_at (get := fun p => p.record i) (f := considerRecord k) i
    (fun j hj q => by rw [considerRecord_record, if_neg fun h => hj h.1]) p
  have hpass : (switchPass k p).record i = (considerRecord k i q).record i := hdone
  rw [hpass, considerRecord_record, show q.record i = p.record i from hq]
  refine ⟨fun hc => if_neg (by simp [hc]), fun hc => ?_⟩
  rw [if_pos ⟨rfl, hc⟩]
  constructor
  · split
    · exact .inl rfl
    · exact .inr rfl
  · intro hlow
    rw [hfirst fun j hj => considerRecord_idle (hlow j hj)]

theorem switchPass_within (k : PairIx) (p : Part) : Within (.pairing k) p (switchPass k p) :=
  (Within.refl _ p).switchPass (Access.pairing_pair k)

theorem switchPass_pair (k j : PairIx) (p : Part) : (switchPass k p).pair j = p.pair j :=
  forEach_keeps (get := fun q => q.pair j) fun i _ q => by
    unfold considerRecord
    split
    · split <;> rfl
    · rfl

/-! ## SWITCH (R161) -/

/-- SWITCH makes a switch pass and enters SWITCHED_MANUAL, with no count of RESTORE_WAIT left (R161). -/
theorem switchPair_eq {k : PairIx} {p : Part} (h : (p.pair k).state ≠ .switchedManual) :
    switchPair k p =
      withPair k (fun r => { r with
        state := .switchedManual, waitCount := if (p.pair k).state = .restoreWait then 0 else r.waitCount }) (switchPass k p) := by
  unfold switchPair
  split
  · next hs => simp [hs]
  · next hs => simp [hs]
  · next hs => simp [hs]
  · next hs => exact absurd hs h

theorem switchPair_manual {k : PairIx} {p : Part} (h : (p.pair k).state = .switchedManual) : switchPair k p = p := by
  simp only [switchPair, h]

theorem switchPair_within (k : PairIx) (p : Part) : Within (.pairing k) p (switchPair k p) := by
  by_cases h : (p.pair k).state = .switchedManual
  · rw [switchPair_manual h]
    exact .refl _ p
  · rw [switchPair_eq h]
    exact (switchPass_within k p).withPair (Access.pairing_pair k).pair _

theorem switchPair_record {k : PairIx} {p : Part} (h : (p.pair k).state ≠ .switchedManual) (i : RecordIx) :
    (switchPair k p).record i = (switchPass k p).record i := by
  rw [switchPair_eq h, withPair, setPair_record]

theorem switchPair_pair (k : PairIx) (p : Part) :
    ((switchPair k p).pair k).state = .switchedManual ∧ ((switchPair k p).pair k).wtr = (p.pair k).wtr ∧
      ((switchPair k p).pair k).revertive = (p.pair k).revertive := by
  by_cases h : (p.pair k).state = .switchedManual
  · rw [switchPair_manual h]
    exact ⟨h, rfl, rfl⟩
  · rw [switchPair_eq h, withPair, pair_setPair_self, switchPass_pair]
    exact ⟨rfl, rfl, rfl⟩

theorem pairBody_of_index {pair : Byte} {k : PairIx} (h : indexOf 6 pair = some k) (p : Part) :
    pairBody k p = [pair, byte (p.pair k).state.code] := by
  rw [pairBody, indexOf_eq_some h, byte_toNat]

theorem completes_switch {s : State} {tag pair : Byte} {k : PairIx} (hready : s.part.Ready) (hindex : indexOf 6 pair = some k)
    (husable : s.part.usablePort (protectPort k) = true) :
    Completes (.switchPair tag pair) s
      ((switchPair k s.part).answer 0x40#8 tag { code := .done, body := [pair, 2#8] }) := by
  refine completes_request (code := 0x40#8) (body := [pair]) rfl hready (by simp) rfl ?_
  change switchRequest pair s.part = _
  simp only [switchRequest, hindex, if_pos husable, pairBody_of_index hindex, (switchPair_pair k s.part).1]
  rfl

theorem usablePort_iff (p : Part) (q : PortIx) :
    p.usablePort q = true ↔ (p.port q).enabled = true ∧ (p.port q).line = .clean := by
  simp [Part.usablePort]

/-- Settles O46: the pass over the candidates, one record after another. -/
theorem switchMovesOrBlocksEveryCandidate : Obligations.SwitchMovesOrBlocksEveryCandidate := by
  refine fun s tag pair k moved blocked hready hindex hmoved hblocked => ⟨fun henabled hclean => ?_,
    fun henabled hclean hmanual => ?_, fun hunusable => ?_⟩
  · have husable := (usablePort_iff s.part (protectPort k)).2 ⟨henabled, hclean⟩
    have hwithin := switchPair_within k s.part
    obtain ⟨hstate, hwtr, hrevertive⟩ := switchPair_pair k s.part
    refine ⟨_, completes_switch hready hindex husable, rfl, answered_mgmt hwithin.mgmt hwithin.alarm.settings, by simpa using hstate,
      by simpa using hwtr, by simpa using hrevertive, fun j hj => by simpa using hwithin.pairs j hj, fun i hi => ?_,
      fun hmanual i hi => ?_, fun j hj => ?_, answered_keepsBase (hwithin.keepsBase nofun), by simpa using hwithin.hub nofun,
      by simpa using hwithin.slots_eq nofun, by simpa using hwithin.inputs_eq nofun⟩
    · rw [settle_record, answer_record]
      by_cases hmanual : (s.part.pair k).state = .switchedManual
      · rw [switchPair_manual hmanual]
      · rw [switchPair_record hmanual]
        exact (switchPass_record k i s.part).1 hi
    · rw [settle_record, answer_record, switchPair_record hmanual, hblocked i, show moved i = movedRecord k (s.part.record i) from hmoved i]
      obtain ⟨heither, hfirst⟩ := (switchPass_record k i s.part).2 hi
      refine ⟨heither, fun hlow => (hfirst hlow).trans ?_⟩
      simp only [movable_iff, husable, true_and]
    · rw [settle_port, settle_engine, answer_port, answer_engine]
      exact ⟨hwithin.ports j hj, hwithin.engines j nofun⟩
  · have hdone := completes_switch (tag := tag) hready hindex ((usablePort_iff s.part (protectPort k)).2 ⟨henabled, hclean⟩)
    rwa [switchPair_manual hmanual] at hdone
  · refine completes_request (code := 0x40#8) (body := [pair]) rfl hready (by simp) rfl ?_
    change switchRequest pair s.part = _
    have hnot : ¬ s.part.usablePort (protectPort k) = true := by
      rw [usablePort_iff]
      obtain h | h := hunusable <;> simp [h]
    simp only [switchRequest, hindex, if_neg hnot]
    rfl

/-! ## A return (R165) -/

theorem clearBlocked_record (k : PairIx) (j : RecordIx) (p : Part) :
    (clearBlocked k p).record j =
      if pairOf (p.record j).homePort = k then { p.record j with blocked := false } else p.record j :=
  forEach_each (get := fun j p => p.record j)
    (act := fun _ r => if pairOf r.homePort = k then { r with blocked := false } else r) (fun i j q => by
      by_cases hi : i = j
      · subst hi
        rw [if_pos rfl]
        split
        · rw [record_withRecord, if_pos rfl]
        · rfl
      · rw [if_neg hi]
        split
        · rw [record_withRecord, if_neg hi]
        · rfl) j p

/-- A record after the returns of its pair, its blocked flag apart (R165). -/
def returnedIf (k : PairIx) (r : ServiceRecord) : ServiceRecord := if r.switched k then returned k r else r

theorem returnRecord_record (k : PairIx) (i j : RecordIx) (p : Part) :
    (returnRecord k i p).record j = if i = j then returnedIf k (p.record j) else p.record j := by
  have hreported (q : Part) : (raiseRecord .switched (workingPort k) i (clearRecord .lineFault (protectPort k) i q)).record j =
      q.record j := rfl
  unfold returnRecord returnedIf
  by_cases hi : i = j
  · subst hi
    rw [if_pos rfl]
    split
    · rw [hreported, record_withRecord, if_pos rfl]
    · rfl
  · rw [if_neg hi]
    split
    · rw [hreported, record_withRecord, if_neg hi]
    · rfl

theorem returned_homePort (k : PairIx) (r : ServiceRecord) : (returned k r).homePort = r.homePort := by
  unfold returned
  split <;> rfl

/-- A switched record at a return of its pair (R165). -/
theorem returnPair_switched {k : PairIx} {i : RecordIx} {p : Part} (h : (p.record i).switched k = true) :
    (returnPair k p).record i = returned k (p.record i) := by
  have hhome := ((switched_iff _ _).1 h).2.1
  have hreturned : (forEach allRecords (returnRecord k) p).record i = returned k (p.record i) := by
    have heach := forEach_each (get := fun j p => p.record j) (act := fun _ => returnedIf k) (returnRecord_record k) i p
    rw [allRecords, heach, returnedIf, if_pos h]
  have hpair : pairOf (p.record i).homePort = k := by
    rw [hhome, pairOf]
    exact Fin.ext (by simp [workingPort])
  rw [returnPair, clearBlocked_record, withPair, setPair_record, hreturned, returned_homePort, if_pos hpair]
  rfl

/-- A record that is not switched, at a return of a pair (R165). -/
theorem returnPair_unswitched {k : PairIx} {i : RecordIx} {p : Part} (h : (p.record i).switched k = false) :
    (returnPair k p).record i =
      if pairOf (p.record i).homePort = k then { p.record i with blocked := false } else p.record i := by
  have hkept : (forEach allRecords (returnRecord k) p).record i = p.record i := by
    have heach := forEach_each (get := fun j p => p.record j) (act := fun _ => returnedIf k) (returnRecord_record k) i p
    rw [allRecords, heach, returnedIf, if_neg (by simp [h])]
  rw [returnPair, clearBlocked_record, withPair, setPair_record, hkept]

theorem clearBlocked_pair (k j : PairIx) (p : Part) : (clearBlocked k p).pair j = p.pair j :=
  forEach_keeps (get := fun q => q.pair j) fun i _ q => by
    split <;> rfl

theorem returnPair_pair (k : PairIx) (p : Part) :
    (returnPair k p).pair k = { p.pair k with state := .normal, waitCount := 0 } := by
  have hkept : (forEach allRecords (returnRecord k) p).pair k = p.pair k :=
    forEach_keeps (get := fun q => q.pair k) fun i _ q => by
      unfold returnRecord
      split <;> rfl
  rw [returnPair, clearBlocked_pair, withPair, pair_setPair_self, hkept]

theorem returnPair_ports (k : PairIx) (p : Part) : (returnPair k p).ports = p.ports := by
  have hreturns : (forEach allRecords (returnRecord k) p).ports = p.ports :=
    forEach_keeps (get := Part.ports) fun i _ q => by
      unfold returnRecord
      split <;> rfl
  have hclears (q : Part) : (clearBlocked k q).ports = q.ports :=
    forEach_keeps (get := Part.ports) fun i _ q => by
      split <;> rfl
  rw [returnPair, hclears, withPair, setPair_ports, hreturns]

theorem returnPair_within (k : PairIx) (p : Part) : Within (.pairing k) p (returnPair k p) :=
  (Within.refl _ p).returnPair (Access.pairing_pair k)

/-- A RETIRING record returns with its delay state as it was, and another with its filter shifted back (R165). -/
theorem returned_retiring {k : PairIx} {r : ServiceRecord} (h : r.state = .retiring) :
    returned k r = { r with currentPort := workingPort k, blocked := false } := by
  rw [returned, if_pos h]

theorem returned_live {k : PairIx} {r : ServiceRecord} (h : r.state ≠ .retiring) :
    returned k r =
      { r with
        currentPort := workingPort k, blocked := false, outlierRun := 0, window := {}
        filter := r.filter.map (fun f => f - r.protectOffset * 65536)
        compensation := match r.filter with
          | none => 0
          | some f => max 0 (min 131072000000 (f - r.protectOffset * 65536 + r.staticOffset * 65536)) } := by
  rw [returned, if_neg h]
  cases hf : r.filter <;>
    simp [reseed, ServiceRecord.formCompensation, compensationOf, clampTo, toQ, compensationLimit, hf, Int.sub_eq_add_neg]

/-! ## RESTORE (R166) -/

theorem completes_restore {s : State} {tag pair : Byte} {k : PairIx} {q : Part} (hready : s.part.Ready)
    (hindex : indexOf 6 pair = some k) (hclean : (s.part.port (workingPort k)).line = .clean)
    (hq : restorePair k s.part = q) (hstate : (q.pair k).state = .normal) :
    Completes (.restorePair tag pair) s (q.answer 0x41#8 tag { code := .done, body := [pair, 0#8] }) := by
  refine completes_request (code := 0x41#8) (body := [pair]) rfl hready (by simp) rfl ?_
  change restoreRequest pair s.part = _
  have hnot : ¬ s.part.faulted (workingPort k) = true := by simp [Part.faulted, hclean]
  simp only [restoreRequest, hindex, if_neg hnot, pairBody_of_index hindex, hq, hstate]
  rfl

/-- Settles O47: what the return makes of each record, by whether it is switched. -/
theorem restoreReturnsEverySwitchedRecord : Obligations.RestoreReturnsEverySwitchedRecord := by
  refine fun s tag pair k hready hindex => ⟨fun hclean hstate => ?_, fun hclean hnormal => ?_, fun hfault => ?_⟩
  · have hrestore : restorePair k s.part = returnPair k s.part := by rw [restorePair, if_neg hstate]
    have hpair := returnPair_pair k s.part
    have hwithin := returnPair_within k s.part
    refine ⟨_, completes_restore hready hindex hclean hrestore (by rw [hpair]), rfl,
      answered_mgmt hwithin.mgmt hwithin.alarm.settings, by simpa using hpair, fun j hj => by simpa using hwithin.pairs j hj,
      fun i hi => ?_, fun i hi => ?_, by simpa using returnPair_ports k s.part, by simpa using hwithin.engines_eq nofun,
      answered_keepsBase (hwithin.keepsBase nofun), by simpa using hwithin.hub nofun, by simpa using hwithin.slots_eq nofun,
      by simpa using hwithin.inputs_eq nofun⟩
    · rw [settle_record, answer_record, returnPair_switched hi]
      exact ⟨returned_retiring, returned_live⟩
    · rw [settle_record, answer_record, returnPair_unswitched hi]
      split <;> rfl
  · have hrestore : restorePair k s.part = s.part := by rw [restorePair, if_pos hnormal]
    exact completes_restore hready hindex hclean hrestore hnormal
  · refine completes_request (code := 0x41#8) (body := [pair]) rfl hready (by simp) rfl ?_
    change restoreRequest pair s.part = _
    have hfaulted : s.part.faulted (workingPort k) = true := by simp [Part.faulted, hfault]
    simp only [restoreRequest, hindex, if_pos hfaulted]
    rfl

end Sys2Proof.Machine

/-! SUPPORT. The pending list under a report (R170 to R176). -/

namespace Sys2Proof.Machine

/-! ## The list after an entry is put (R173) -/

theorem hasEntry_of_mem {a : AlarmUnit} {e : Entry} {o : Owner} (hmem : e ∈ a.list) (howner : e.owner = o) :
    a.hasEntry o = true := List.any_eq_true.2 ⟨e, hmem, by simp [howner]⟩

theorem hasEntry_eq_false {a : AlarmUnit} {o : Owner} (h : ∀ x ∈ a.list, x.owner ≠ o) : a.hasEntry o = false :=
  List.any_eq_false.2 fun x hx => by simpa using h x hx

theorem map_entries_idle {o : Owner} {change : Entry → Entry} {l : List Entry} (h : ∀ x ∈ l, x.owner ≠ o) :
    l.map (fun e => if e.owner = o then change e else e) = l := by
  rw [List.map_congr_left fun x hx => if_neg (h x hx)]
  exact List.map_id' l

/-- The owner's one entry changes where it stands. -/
theorem putEntry_at {a : AlarmUnit} {o : Owner} {e : Entry} {before after : List Entry}
    (hlist : a.list = before ++ e :: after) (howner : e.owner = o) (hone : ∀ x ∈ before ++ after, x.owner ≠ o)
    (change : Entry → Entry) (new : Entry) : (a.putEntry o change new).list = before ++ change e :: after := by
  have hhas : a.hasEntry o = true := hasEntry_of_mem (hlist ▸ List.mem_append_cons_self) howner
  rw [AlarmUnit.putEntry, if_pos hhas]
  change a.list.map _ = _
  rw [hlist, List.map_append, List.map_cons, if_pos howner,
    map_entries_idle fun x hx => hone x (List.mem_append_left after hx),
    map_entries_idle fun x hx => hone x (List.mem_append_right before hx)]

/-- A new entry joins the tail. -/
theorem putEntry_tail {a : AlarmUnit} {o : Owner} (h : ∀ x ∈ a.list, x.owner ≠ o) (change : Entry → Entry) (new : Entry) :
    (a.putEntry o change new).list = a.list ++ [new] := by
  rw [AlarmUnit.putEntry, if_neg (by simp [hasEntry_eq_false h])]

/-! ## A report that enters the list (R171 to R176) -/

theorem take_enters {a : AlarmUnit} {r : Report} (hpass : a.passesOn r = true) (hthreshold : a.atThreshold r = true) :
    a.take r = (a.updateStanding r).enter r := by
  rw [AlarmUnit.take, if_pos hpass, if_pos hthreshold]

theorem coalescedRecord_updateStanding (a : AlarmUnit) (r s : Report) :
    (a.updateStanding s).coalescedRecord r = a.coalescedRecord r := by
  have hentry (o : Owner) : (a.updateStanding s).hasEntry o = a.hasEntry o := by
    rw [AlarmUnit.hasEntry, updateStanding_list, AlarmUnit.hasEntry]
  unfold AlarmUnit.coalescedRecord
  split
  · rw [hentry, updateStanding_settings]
  · rfl

/-- A report whose owner has an entry, or that is not ancillary, or that comes with coalescing off, is not coalesced. -/
theorem coalescedRecord_none {a : AlarmUnit} {r : Report}
    (h : a.hasEntry r.owner = true ∨ a.settings.coalescing = false ∨ r.ancillary = false) : a.coalescedRecord r = none := by
  unfold AlarmUnit.coalescedRecord
  split
  · next i howner =>
    rw [howner] at h
    refine if_neg ?_
    obtain h | h | h := h <;> simp [h]
  · rfl

theorem take_list_of_uncoalesced {a : AlarmUnit} {r : Report} (hpass : a.passesOn r = true)
    (hthreshold : a.atThreshold r = true) (h : a.coalescedRecord r = none) :
    (a.take r).list = ((a.updateStanding r).putEntry r.owner (fun e => e.merge r) (Entry.fresh r)).list := by
  rw [take_enters hpass hthreshold, AlarmUnit.enter, coalescedRecord_updateStanding, h]

theorem take_list_of_coalesced {a : AlarmUnit} {r : Report} {i : RecordIx} (hpass : a.passesOn r = true)
    (hthreshold : a.atThreshold r = true) (h : a.coalescedRecord r = some i) :
    (a.take r).list =
      ((a.updateStanding r).putEntry .hub (fun e => e.coalesce i r.cause) (Entry.coalesced i r.cause)).list := by
  rw [take_enters hpass hthreshold, AlarmUnit.enter, coalescedRecord_updateStanding, h]

/-- An ancillary raise of a record without an entry is coalesced when coalescing is on (R176). -/
theorem coalescedRecord_some {a : AlarmUnit} {r : Report} {i : RecordIx} (howner : r.owner = .record i)
    (hnone : ∀ x ∈ a.list, x.owner ≠ .record i) (hcoalescing : a.settings.coalescing = true) (hraise : r.isRaise = true)
    (hancillary : r.ancillary = true) : a.coalescedRecord r = some i := by
  simp only [AlarmUnit.coalescedRecord, howner, hcoalescing, hraise, hancillary, hasEntry_eq_false hnone]
  rfl

theorem newer_eq {α : Type} (carried kept : Option α) : newer carried kept = carried.orElse (fun _ => kept) := by
  cases carried <;> rfl

theorem merge_eq (e : Entry) (r : Report) :
    e.merge r =
      { e with
        raised := if r.isRaise then e.raised ||| (1#16 <<< r.condition.bit) else e.raised
        cleared := if r.isRaise then e.cleared else e.cleared ||| (1#16 <<< r.condition.bit)
        severity :=
          if r.isRaise ∧ e.severity.code < r.condition.severity.code then r.condition.severity else e.severity
        ancillary := if r.isRaise then e.ancillary && r.ancillary else e.ancillary
        cause := r.cause
        te := r.te.orElse (fun _ => e.te), slot := r.slot.orElse (fun _ => e.slot)
        ports := r.ports.orElse (fun _ => e.ports), identity := r.identity.orElse (fun _ => e.identity)
        detail := r.detail.orElse (fun _ => e.detail) } := by
  simp only [Entry.merge, newer_eq, Condition.mask, Severity.max, ite_and]

/-- A set that does not hold a condition is not changed by taking it out. -/
theorem without_absent {m : BitVec 16} {c : Condition} (h : hasCondition m c = false) : m &&& ~~~c.mask = m := by
  refine BitVec.eq_of_getLsbD_eq fun n hn => ?_
  by_cases hb : n = c.bit
  · subst hb
    rw [hasCondition] at h
    rw [BitVec.getLsbD_and, h, Bool.false_and]
  · have hmask : c.mask.getLsbD n = false := by
      simp only [Condition.mask, BitVec.getLsbD_shiftLeft, BitVec.getLsbD_one, Bool.and_eq_false_imp,
        decide_eq_false_iff_not]
      intro hlt
      simp only [Bool.and_eq_true, decide_eq_true_eq, Bool.not_eq_true', decide_eq_false_iff_not] at hlt
      omega
    rw [BitVec.getLsbD_and, BitVec.getLsbD_not, hmask]
    simp [hn]

/-- A standing condition joins or leaves its owner's set (R170). -/
theorem take_standing (a : AlarmUnit) (r : Report) (o : Owner) :
    (a.take r).standingOf o =
      if r.condition.standing = true ∧ r.owner = o then
        if r.isRaise then a.standingOf o ||| r.condition.mask else a.standingOf o &&& ~~~r.condition.mask
      else a.standingOf o := by
  rw [take_standingOf, AlarmUnit.updateStanding]
  by_cases hmoves : r.condition.standing = true ∧ r.owner = o
  · rw [if_pos (c := _ ∧ _) hmoves]
    obtain ⟨hstanding, rfl⟩ := hmoves
    rw [if_pos (c := r.condition.standing = true) hstanding]
    by_cases hraise : r.isRaise = true
    · have hpass : a.passesOn r = true := by simp [AlarmUnit.passesOn, hraise]
      rw [if_pos hpass, if_pos hraise, if_pos hraise, standingOf_setStanding, if_pos rfl]
    · rw [if_neg (c := r.isRaise = true) hraise, if_neg (c := r.isRaise = true) hraise, standingOf_setStanding, if_pos rfl]
      split
      · rfl
      · next hpass =>
        have hclear : hasCondition (a.standingOf r.owner) r.condition = false := by
          simpa [AlarmUnit.passesOn, hraise] using hpass
        exact (without_absent hclear).symm
  · rw [if_neg (c := _ ∧ _) hmoves]
    split
    · split
      · next hstanding =>
        have hne : r.owner ≠ o := fun h => hmoves ⟨hstanding, h⟩
        split <;> rw [standingOf_setStanding, if_neg hne]
      · rfl
    · rfl

/-- Settles O49: the entry where it stands, the entry at the tail, the hub's entry, and what moves at every report. -/
theorem reportsJoinTheirOwnersEntry : Obligations.ReportsJoinTheirOwnersEntry := by
  refine ⟨fun a r e before after hlist howner hone hpass hthreshold => ?_,
    fun a r hnone hpass hthreshold huncoalesced => ?_,
    fun a r i howner hnone hcoalescing hraise hancillary hthreshold => ?_, fun a r => ?_⟩
  · have hhas : a.hasEntry r.owner = true := hasEntry_of_mem (hlist ▸ List.mem_append_cons_self) howner
    rw [take_list_of_uncoalesced hpass hthreshold (coalescedRecord_none (.inl hhas)),
      putEntry_at ((updateStanding_list a r).trans hlist) howner hone, merge_eq]
  · rw [take_list_of_uncoalesced hpass hthreshold (coalescedRecord_none (.inr huncoalesced)),
      putEntry_tail (by simpa using hnone), updateStanding_list]
    rfl
  · have hpass : a.passesOn r = true := by simp [AlarmUnit.passesOn, hraise]
    have hlist := take_list_of_coalesced hpass hthreshold (coalescedRecord_some howner hnone hcoalescing hraise hancillary)
    refine ⟨fun hhub => ?_, fun e before after hentry hhub hone => ?_⟩
    · rw [hlist, putEntry_tail (by simpa using hhub), updateStanding_list]
      rfl
    · rw [hlist, putEntry_at ((updateStanding_list a r).trans hentry) hhub hone]
      rfl
  · refine ⟨fun h => take_list_of_not a r (.inr h), take_buffer a r, fun hclear hnot => ?_, fun hstanding => ?_, fun hmomentary => ?_,
      fun o ho => ?_⟩
    · rw [AlarmUnit.take, if_neg (by simp [AlarmUnit.passesOn, hclear, hnot])]
    · rw [take_standing, if_pos ⟨hstanding, rfl⟩]
      rfl
    · rw [take_standing, if_neg (by simp [hmomentary])]
    · rw [take_standing, if_neg fun h => ho h.2.symm]

end Sys2Proof.Machine

/-! SUPPORT. Transactions that complete, and what they do to the buffers of channels M and A (R177, R179, R186 to R197). -/

namespace Sys2Proof.Machine

/-! ## The passing of time leaves the Management Port -/

theorem passRaw_mgmt (dt : Nat) (p : Part) : (passRaw dt p).mgmt = p.mgmt := by
  unfold passRaw
  split <;> rfl

theorem passRaw_hub (dt : Nat) (p : Part) : (passRaw dt p).hub = p.hub := by
  unfold passRaw
  split <;> rfl

theorem passRaw_statusByte (dt : Nat) (p : Part) : (passRaw dt p).statusByte = p.statusByte := by
  unfold passRaw
  split <;> rfl

/-! ## Transactions that complete (R186 to R189, R192, R179) -/

theorem operationOf_writeM : operationOf 2 = .writeM := rfl
theorem operationOf_readM : operationOf 3 = .readM := rfl
theorem operationOf_readA : operationOf 4 = .readA := rfl

section Whole

variable {op : Operation} {header : Byte} {p : Part} {effect : Part → Part}

/-- A transaction begun and completed by one command, judged good at its header. -/
theorem whole_judged (hop : operationOf header = op) (hheld : p.held = false) (hnone : p.mgmt.transaction = none)
    (hjudged : p.judges op = true) :
    completeTransaction op header effect p = closeTransaction (p.outFrame op) (effect (openTransaction header p)) := by
  rw [completeTransaction_of_none effect hop hnone, finishTransaction, hjudged, hheld]
  rfl

theorem whole_idle (hop : operationOf header = op) (hnone : p.mgmt.transaction = none) (hjudged : p.judges op = false) :
    completeTransaction op header effect p = closeTransaction (p.outFrame op) (openTransaction header p) := by
  rw [completeTransaction_of_none effect hop hnone, finishTransaction, hjudged]
  rfl

/-- A transaction that was opened and is closed with nothing done between leaves its bytes and clears RESET_SEEN. -/
theorem close_open (hheld : p.held = false) (hnone : p.mgmt.transaction = none) (frame : List Byte) :
    closeTransaction frame (openTransaction header p) =
      { p with mgmt := { p.mgmt with resetSeen := false, spiOut := p.statusByte :: frame } } := by
  simp [closeTransaction, openTransaction, hheld, hnone]

variable {tr : Transaction}

theorem completeTransaction_open (htr : p.mgmt.transaction = some tr) :
    completeTransaction op header effect p = if tr.op = op then finishTransaction effect tr p else p := by
  simp only [completeTransaction, beginTransaction, htr, Option.isSome_some, if_true]

/-- A transaction begun before completes, judged good then and with no reset since. -/
theorem open_judged (htr : p.mgmt.transaction = some tr) (hop : tr.op = op) (hjudged : tr.judgedOk = true)
    (hintact : tr.intact = true) : completeTransaction op header effect p = closeTransaction tr.frame (effect p) := by
  rw [completeTransaction_open htr, if_pos hop, finishTransaction, hjudged, hintact]
  rfl

theorem open_idle (htr : p.mgmt.transaction = some tr) (hop : tr.op = op) (h : tr.judgedOk = false ∨ tr.intact = false) :
    completeTransaction op header effect p = closeTransaction tr.frame p := by
  rw [completeTransaction_open htr, if_pos hop, finishTransaction]
  obtain h | h := h <;> simp [h]

theorem open_other (htr : p.mgmt.transaction = some tr) (hop : tr.op ≠ op) : completeTransaction op header effect p = p := by
  rw [completeTransaction_open htr, if_neg hop]

/-- The Management Port after a transaction begun before has closed. -/
theorem close_some (htr : p.mgmt.transaction = some tr) (frame : List Byte) :
    closeTransaction frame p =
      { p with mgmt := { p.mgmt with
        transaction := none, resetSeen := p.mgmt.resetSeen && !tr.intact, spiOut := p.mgmt.spiOut ++ frame } } := by
  simp [closeTransaction, htr]

end Whole

/-- The opening of a transaction keeps the channel ready. -/
theorem openTransaction_ready {p : Part} (h : p.Ready) (header : Byte) : (openTransaction header p).Ready := h

/-- A transaction opened, and closed after an answer, has the answer alone to show. -/
theorem close_answer {p q : Part} {header code tag : Byte} {r : Reply} (hheld : p.held = false)
    (hnone : p.mgmt.transaction = none) (hmgmt : q.mgmt = (openTransaction header p).mgmt) (frame : List Byte) :
    closeTransaction frame (q.answer code tag r) =
      { q with mgmt := { p.mgmt with resetSeen := false, spiOut := p.statusByte :: frame } }.answer code tag r := by
  simp [closeTransaction, Part.answer, hmgmt, openTransaction, hheld, hnone]

/-! ## Requests of no known code or of a wrong length (R190, R191) -/

theorem dealWith_unknown {code tag : Byte} {body : List Byte}
    (hunknown : lengthAllowed code.toNat (body.length + 2) ≠ some true) (p : Part) :
    dealWith (code :: tag :: body) p = (p, .refused .badRequest) := by
  have hnot : knownRequest (code :: tag :: body) = false := by simp [knownRequest, hunknown]
  rw [dealWith, hnot]
  rfl

theorem placeRequest_refused {p : Part} {code tag : Byte} {body : List Byte} (hready : p.Ready) (hlen : body.length ≤ 253)
    (hunknown : lengthAllowed code.toNat (body.length + 2) ≠ some true) :
    placeRequest (code :: tag :: body) p = p.answer code tag { code := .badRequest } := by
  obtain ⟨hheld, hinbound, hreply⟩ := hready
  rw [placeRequest_taken _ p hheld hinbound hreply (by simpa using by omega), dealWith_unknown hunknown]
  rfl

/-! ## IDENT and RESTART (R194, R195) -/

theorem identBody_eq {p : Part} {kind : Byte}
    (h : kind = match p.mgmt.lastReset with
      | .powerOn => 0#8
      | .warmPin => 1#8
      | .warmRequest => 2#8) :
    identBody p = [0x12#8, 0xD4#8, 0x02#8, 48#8, 12#8, 6#8, 6#8, kind] := by
  have hkind : byte p.mgmt.lastReset.code = kind := by
    rw [h]
    cases p.mgmt.lastReset <;> rfl
  rw [identBody, hkind]
  rfl

/-- RESTART leaves the tables and the Management Port as a warm reset does (R195). -/
theorem restartPart_leaves {p : Part} (hheld : p.held = false) :
    (restartPart p).mgmt = { p.mgmt.reset with lastReset := .warmRequest } ∧ (restartPart p).slots = resetSlots ∧
      (restartPart p).selected = none := by
  have reset := warmReset_leaves .warmRequest p
  rw [restartPart, loadIfDue_of_free ((warmReset_held _ _).trans hheld)]
  exact ⟨reset.frame.mgmt, reset.frame.slots, reset.selected⟩

/-! ## WRITE-M (R189, R190) -/

section WriteM

variable {s : State} {dt : Nat}

theorem completes_writeM {frame : List Byte} {q : Part}
    (h : completeTransaction .writeM 2 (placeRequest frame) (passRaw dt s.part) = q) : Completes (.writeM dt frame) s q :=
  completes_of_work h

/-- A WRITE-M whose request is answered as it is placed. -/
theorem completes_writeM_answered {frame : List Byte} {code tag : Byte} {q : Part} {r : Reply}
    (hready : s.part.Ready) (hnone : s.part.mgmt.transaction = none)
    (hplaced : placeRequest frame (openTransaction 2 (passRaw dt s.part)) = q.answer code tag r)
    (hmgmt : q.mgmt = (openTransaction 2 (passRaw dt s.part)).mgmt) :
    Completes (.writeM dt frame) s
      ({ q with mgmt := { s.part.mgmt with resetSeen := false, spiOut := [s.part.statusByte] } }.answer code tag r) := by
  have hready' := passRaw_ready dt hready
  have hnone' : (passRaw dt s.part).mgmt.transaction = none := by rw [passRaw_mgmt, hnone]
  have hjudged : (passRaw dt s.part).judges .writeM = true := by simp [Part.judges, hready'.2.1]
  have hframe : (passRaw dt s.part).outFrame .writeM = [] := by
    unfold Part.outFrame
    split <;> rfl
  refine completes_writeM ?_
  rw [whole_judged operationOf_writeM hready'.1 hnone' hjudged, hplaced, close_answer hready'.1 hnone' hmgmt, hframe, passRaw_mgmt,
    passRaw_statusByte]

theorem writeM_waits {frame : List Byte} (hheld : s.part.held = false) (hnone : s.part.mgmt.transaction = none)
    (hlen : frame.length ≤ 255) (hinbound : s.part.mgmt.inbound = none) (hreply : s.part.mgmt.reply ≠ none) :
    Completes (.writeM dt frame) s
      { passRaw dt s.part with
        mgmt := { s.part.mgmt with inbound := some frame, resetSeen := false, spiOut := [s.part.statusByte] } } := by
  obtain ⟨r, hr⟩ := Option.ne_none_iff_exists'.1 hreply
  have hheld' : (passRaw dt s.part).held = false := by simpa using hheld
  have hmgmt := passRaw_mgmt dt s.part
  refine completes_writeM ?_
  rw [whole_judged operationOf_writeM hheld' (by rw [hmgmt, hnone]) (by simp [Part.judges, hmgmt, hinbound]),
    placeRequest_waits frame (openTransaction 2 (passRaw dt s.part)) r hheld' (by simp [openTransaction, hmgmt, hinbound])
      (by simp [openTransaction, hmgmt, hr]), List.take_of_length_le hlen]
  simp [closeTransaction, openTransaction, Part.outFrame, hmgmt, hheld, hnone, passRaw_statusByte]

theorem writeM_discarded {frame : List Byte} (hheld : s.part.held = false) (hnone : s.part.mgmt.transaction = none)
    (hinbound : s.part.mgmt.inbound ≠ none) :
    Completes (.writeM dt frame) s
      { passRaw dt s.part with mgmt := { s.part.mgmt with resetSeen := false, spiOut := [s.part.statusByte] } } := by
  obtain ⟨f, hf⟩ := Option.ne_none_iff_exists'.1 hinbound
  have hheld' : (passRaw dt s.part).held = false := by simpa using hheld
  have hmgmt := passRaw_mgmt dt s.part
  refine completes_writeM ?_
  rw [whole_idle operationOf_writeM (by rw [hmgmt, hnone]) (by simp [Part.judges, hmgmt, hf]), close_open hheld' (by rw [hmgmt, hnone]),
    passRaw_statusByte, hmgmt]
  simp [Part.outFrame]

theorem writeM_restart {tag : Byte} (hready : s.part.Ready) (hnone : s.part.mgmt.transaction = none) :
    ∃ t : State, exec (.writeM dt [0x02#8, tag]) s = .next t ∧ t.pending = s.pending ∧
      t.part.mgmt.inbound = none ∧ t.part.mgmt.reply = some [0x05#8, 0x02#8, 0x02#8, tag, 0x00#8, 0x00#8] ∧
      t.part.mgmt.resetSeen = true ∧ t.part.mgmt.lastReset = .warmRequest ∧ t.part.mgmt.transaction = none ∧
      t.part.mgmt.spiOut = [s.part.statusByte] ∧ t.part.slots = resetSlots ∧ t.part.selected = none := by
  have hready' := passRaw_ready dt hready
  have hmgmt := passRaw_mgmt dt s.part
  have hopened := openTransaction_ready hready' 2
  have hplaced : placeRequest [0x02#8, tag] (openTransaction 2 (passRaw dt s.part)) =
      (restartPart (openTransaction 2 (passRaw dt s.part))).answer 0x02#8 tag { code := .done } :=
    placeRequest_answers hopened (by simp) rfl rfl
  obtain ⟨hrestarted, hslots, hselected⟩ := restartPart_leaves hopened.1
  have hdone : Completes (.writeM dt [0x02#8, tag]) s
      (closeTransaction ((passRaw dt s.part).outFrame .writeM)
        ((restartPart (openTransaction 2 (passRaw dt s.part))).answer 0x02#8 tag { code := .done })) := by
    refine completes_writeM ?_
    rw [whole_judged operationOf_writeM hready'.1 (by rw [hmgmt, hnone]) (by simp [Part.judges, hready'.2.1]), hplaced]
  refine ⟨_, hdone, rfl, ?_⟩
  dsimp only
  rw [settle_mgmt, settle_slots, settle_selected]
  generalize restartPart (openTransaction 2 (passRaw dt s.part)) = q at hrestarted hslots hselected
  simp [closeTransaction, Part.answer, hrestarted, hslots, hselected, MgmtPort.reset, openTransaction, hready'.1,
    passRaw_statusByte, Part.outFrame, replyFrame]
  exact ⟨rfl, rfl, rfl⟩

/-- A WRITE-M that completes a transaction begun before, with a request that waits. -/
theorem writeM_open_waits {frame : List Byte} {tr : Transaction} (hheld : s.part.held = false)
    (htr : s.part.mgmt.transaction = some tr) (hlen : frame.length ≤ 255) (hop : tr.op = .writeM)
    (hjudged : tr.judgedOk = true) (hintact : tr.intact = true) (hinbound : s.part.mgmt.inbound = none)
    (hreply : s.part.mgmt.reply ≠ none) :
    Completes (.writeM dt frame) s
      { passRaw dt s.part with
        mgmt := { s.part.mgmt with
          transaction := none, resetSeen := s.part.mgmt.resetSeen && !tr.intact
          spiOut := s.part.mgmt.spiOut ++ tr.frame, inbound := some frame } } := by
  obtain ⟨r, hr⟩ := Option.ne_none_iff_exists'.1 hreply
  have hmgmt := passRaw_mgmt dt s.part
  refine completes_writeM ?_
  rw [open_judged (by rw [hmgmt, htr]) hop hjudged hintact,
    placeRequest_waits frame (passRaw dt s.part) r (by simpa using hheld) (by rw [hmgmt, hinbound]) (by rw [hmgmt, hr]),
    List.take_of_length_le hlen]
  simp [closeTransaction, hmgmt, htr]

theorem writeM_open_locks {tag : Byte} {tr : Transaction} (hready : s.part.Ready)
    (htr : s.part.mgmt.transaction = some tr) (hop : tr.op = .writeM)
    (hjudged : tr.judgedOk = true) (hintact : tr.intact = true) :
    Completes (.writeM dt [0x51#8, tag]) s
      ({ passRaw dt s.part with
          osc := { s.part.osc with locked := true }
          mgmt := { s.part.mgmt with
            transaction := none, resetSeen := s.part.mgmt.resetSeen && !tr.intact
            spiOut := s.part.mgmt.spiOut ++ tr.frame } }.answer 0x51#8 tag { code := .done }) := by
  have hmgmt := passRaw_mgmt dt s.part
  have hplaced : placeRequest [0x51#8, tag] (passRaw dt s.part) =
      { passRaw dt s.part with osc := { (passRaw dt s.part).osc with locked := true } }.answer 0x51#8 tag { code := .done } :=
    placeRequest_answers (passRaw_ready dt hready) (by simp) rfl rfl
  refine completes_writeM ?_
  rw [open_judged (by rw [hmgmt, htr]) hop hjudged hintact, hplaced, (passRaw_osc dt s.part).1]
  simp [closeTransaction, Part.answer, hmgmt, htr]

theorem writeM_open_idle {frame : List Byte} {tr : Transaction} (htr : s.part.mgmt.transaction = some tr)
    (hop : tr.op = .writeM) (h : tr.judgedOk = false ∨ tr.intact = false) :
    Completes (.writeM dt frame) s
      { passRaw dt s.part with
        mgmt := { s.part.mgmt with
          transaction := none, resetSeen := s.part.mgmt.resetSeen && !tr.intact
          spiOut := s.part.mgmt.spiOut ++ tr.frame } } := by
  have hmgmt := passRaw_mgmt dt s.part
  have htr' : (passRaw dt s.part).mgmt.transaction = some tr := by rw [hmgmt, htr]
  refine completes_writeM ?_
  rw [open_idle htr' hop h, close_some htr', hmgmt]

end WriteM

/-- Settles O53: each request as it is placed, in a transaction of its own or in one begun before. -/
theorem requestsArePlacedTakenAndAnswered : Obligations.RequestsArePlacedTakenAndAnswered := by
  refine ⟨fun s dt frame hheld hnone hlen => ⟨writeM_waits hheld hnone hlen, writeM_discarded hheld hnone⟩,
    fun s dt tag kind q hready hnone hkind hq => ?_,
    fun s dt code tag body hready hlen hunknown => ⟨completes_of_work ?_, fun hnone => ?_⟩,
    fun s dt frame tr closed hheld htr hlen hclosed => ⟨fun hop hjudged hintact hinbound => ⟨fun hreply => ?_,
      fun hreply tag hframe => ?_⟩, fun hop h => ?_, fun hop => ?_⟩⟩
  · subst hq
    have hopened := openTransaction_ready (passRaw_ready dt hready) 2
    have hident : identBody (openTransaction 2 (passRaw dt s.part)) =
        [0x12#8, 0xD4#8, 0x02#8, 48#8, 12#8, 6#8, 6#8, kind] := by
      refine identBody_eq ?_
      rw [show (openTransaction 2 (passRaw dt s.part)).mgmt.lastReset = (passRaw dt s.part).mgmt.lastReset from rfl,
        passRaw_mgmt]
      exact hkind
    refine ⟨?_, ?_, ?_, ?_, writeM_restart hready hnone⟩
    · rw [← (passRaw_osc dt s.part).1]
      exact completes_writeM_answered (q := { openTransaction 2 (passRaw dt s.part) with
        osc := { (passRaw dt s.part).osc with locked := true } }) hready hnone
        (placeRequest_answers hopened (by simp) rfl rfl) rfl
    · rw [← passRaw_hub dt s.part]
      exact completes_writeM_answered (q := { openTransaction 2 (passRaw dt s.part) with
        hub := { (passRaw dt s.part).hub with stepPermission := true } }) hready hnone
        (placeRequest_answers hopened (by simp) rfl rfl) rfl
    · rw [← hident]
      exact completes_writeM_answered (q := openTransaction 2 (passRaw dt s.part)) hready hnone
        (placeRequest_answers hopened (by simp) rfl rfl) rfl
    · rw [← identBody_eq hkind]
      exact completes_request rfl hready (by simp) rfl rfl
  · have hnot : unknownFrame (code :: tag :: body) = true := by simp [unknownFrame, knownRequest, hunknown]
    change (if unknownFrame (code :: tag :: body) then placeRequest (code :: tag :: body) s.part else s.part) = _
    rw [if_pos hnot, placeRequest_refused hready hlen hunknown]
  · exact completes_writeM_answered (q := openTransaction 2 (passRaw dt s.part)) hready hnone
      (placeRequest_refused (openTransaction_ready (passRaw_ready dt hready) 2) hlen hunknown) rfl
  · subst hclosed
    exact writeM_open_waits hheld htr hlen hop hjudged hintact hinbound hreply
  · subst hclosed hframe
    exact writeM_open_locks ⟨hheld, hinbound, hreply⟩ htr hop hjudged hintact
  · subst hclosed
    exact writeM_open_idle htr hop h
  · exact completes_writeM (open_other (by rw [passRaw_mgmt, htr]) hop)

end Sys2Proof.Machine

/-! SUPPORT. READ-M and READ-A (R177, R179, R192). -/

namespace Sys2Proof.Machine

/-! ## A reply that is read, and the request that waits behind it (R190, R192) -/

theorem takeWaiting_idle {p : Part} (h : p.mgmt.inbound = none) : takeWaiting p = p := by
  obtain ⟨_, hframe, _⟩ | ⟨_, hidle⟩ := takeWaiting_cases p
  · rw [h] at hframe
    simp at hframe
  · exact hidle

theorem takeWaiting_taken {p : Part} {frame : List Byte} (hheld : p.held = false) (hinbound : p.mgmt.inbound = some frame)
    (hreply : p.mgmt.reply = none) :
    takeWaiting p = takeRequest frame { p with mgmt := { p.mgmt with inbound := none } } := by
  simp only [takeWaiting, hinbound, hreply, hheld]
  rfl

section ReadM

variable {s : State} {dt : Nat}

theorem completes_readM {q : Part} (h : completeTransaction .readM 3 emptyReply (passRaw dt s.part) = q) :
    Completes (.readM dt) s q := completes_of_work h

theorem outFrame_readM {p : Part} (hheld : p.held = false) : p.outFrame .readM = p.mgmt.reply.getD noneFrame := by
  simp only [Part.outFrame, hheld]
  rfl

/-- A READ-M that clocks a reply out whole. -/
theorem readM_whole {f : List Byte} (hheld : s.part.held = false) (hnone : s.part.mgmt.transaction = none)
    (hreply : s.part.mgmt.reply = some f) :
    completeTransaction .readM 3 emptyReply (passRaw dt s.part) =
      closeTransaction f (emptyReply (openTransaction 3 (passRaw dt s.part))) := by
  have hheld' : (passRaw dt s.part).held = false := by simpa using hheld
  have hmgmt := passRaw_mgmt dt s.part
  rw [whole_judged operationOf_readM hheld' (by rw [hmgmt, hnone]) (by simp [Part.judges, hmgmt, hreply]),
    outFrame_readM hheld', hmgmt, hreply]
  rfl

theorem readM_empties {f : List Byte} (hheld : s.part.held = false) (hnone : s.part.mgmt.transaction = none)
    (hreply : s.part.mgmt.reply = some f) (hinbound : s.part.mgmt.inbound = none) :
    Completes (.readM dt) s
      { passRaw dt s.part with
        mgmt := { s.part.mgmt with reply := none, resetSeen := false, spiOut := s.part.statusByte :: f } } := by
  have hmgmt := passRaw_mgmt dt s.part
  refine completes_readM ?_
  rw [readM_whole hheld hnone hreply, emptyReply, takeWaiting_idle (by simp [openTransaction, hmgmt, hinbound])]
  simp [closeTransaction, openTransaction, hmgmt, hheld, hnone, passRaw_statusByte]

/-- A READ-M that clocks a reply out whole, with a request waiting behind it. -/
theorem readM_answers {f frame : List Byte} {code tag : Byte} {q : Part} {r : Reply} (hheld : s.part.held = false)
    (hnone : s.part.mgmt.transaction = none) (hreply : s.part.mgmt.reply = some f)
    (hinbound : s.part.mgmt.inbound = some frame)
    (hact : takeRequest frame
        { passRaw dt s.part with
          mgmt := { (openTransaction 3 (passRaw dt s.part)).mgmt with inbound := none, reply := none } } = q.answer code tag r)
    (hmgmt : q.mgmt = { (openTransaction 3 (passRaw dt s.part)).mgmt with inbound := none, reply := none }) :
    Completes (.readM dt) s
      ({ q with
          mgmt := { s.part.mgmt with inbound := none, resetSeen := false, spiOut := s.part.statusByte :: f } }.answer
        code tag r) := by
  have hpassed := passRaw_mgmt dt s.part
  refine completes_readM ?_
  rw [readM_whole hheld hnone hreply, emptyReply,
    takeWaiting_taken (frame := frame)
      (p := { openTransaction 3 (passRaw dt s.part) with
        mgmt := { (openTransaction 3 (passRaw dt s.part)).mgmt with reply := none } }) ((passRaw_held dt s.part).trans hheld)
      (by simp [openTransaction, hpassed, hinbound]) rfl]
  have htaken : takeRequest frame _ = _ := hact
  refine (congrArg (closeTransaction f) htaken).trans ?_
  simp [closeTransaction, Part.answer, hmgmt, openTransaction, hpassed, hheld, hnone, passRaw_statusByte]

theorem readM_none (hheld : s.part.held = false) (hnone : s.part.mgmt.transaction = none)
    (hreply : s.part.mgmt.reply = none) :
    Completes (.readM dt) s
      { passRaw dt s.part with
        mgmt := { s.part.mgmt with resetSeen := false, spiOut := [s.part.statusByte, 0x01#8, 0x00#8] } } := by
  have hheld' : (passRaw dt s.part).held = false := by simpa using hheld
  have hmgmt := passRaw_mgmt dt s.part
  refine completes_readM ?_
  rw [whole_idle operationOf_readM (by rw [hmgmt, hnone]) (by simp [Part.judges, hmgmt, hreply]),
    close_open hheld' (by rw [hmgmt, hnone]), outFrame_readM hheld', hmgmt, hreply, passRaw_statusByte]
  rfl

end ReadM

/-! ## A notice that is read (R177, R179) -/

section ReadA

variable {s : State}

theorem outFrame_readA {p : Part} (hheld : p.held = false) :
    p.outFrame .readA = (p.alarm.buffer.map noticeFrame).getD noneFrame := by
  simp only [Part.outFrame, hheld]
  rfl

/-- The part after a READ-A that clocked its notice out whole: the next head is loaded, and RESET_SEEN cleared. -/
theorem noticeRead_eq {p : Part} {n : Notice} (hheld : p.held = false) (hnone : p.mgmt.transaction = none)
    (hnotice : p.alarm.buffer = some n) :
    noticeRead p =
      { p with
        alarm := { p.alarm with buffer := none }.load
        mgmt := { p.mgmt with resetSeen := false, spiOut := p.statusByte :: noticeFrame n } } := by
  have hframe : p.outFrame .readA = noticeFrame n := by
    rw [outFrame_readA hheld, hnotice]
    rfl
  rw [noticeRead, hframe, freeBuffer_of_free (p := openTransaction 4 p) hheld]
  simp [closeTransaction, openTransaction, hheld, hnone]

theorem exec_readA {q : Part} (hq : completeTransaction .readA 4 freeBuffer s.part = q)
    (h : q.alarm.buffer ≠ none ∨ q.alarm.list = []) : exec .readA s = .next { s with part := q } := by
  change commandDone (completeTransaction .readA 4 freeBuffer) s = _
  rw [commandDone_next, hq, settle_idle _ h]

theorem load_empty {a : AlarmUnit} (h : a.list = []) : a.load = a := by
  unfold AlarmUnit.load
  split
  · next hlist =>
    rw [h] at hlist
    simp at hlist
  · rfl

end ReadA

/-- Settles O54: each read by what its header finds in the buffer, in a transaction of its own or in one begun before. -/
theorem readsEmptyTheirBuffers : Obligations.ReadsEmptyTheirBuffers := by
  refine ⟨fun s dt hheld hnone => ⟨fun f hreply hinbound => readM_empties hheld hnone hreply hinbound,
      fun f body code tag hreply hinbound hunknown => ?_, fun f tag hreply hinbound => ?_, readM_none hheld hnone⟩,
    fun s hheld hnone => ⟨fun n hnotice hlist => ?_, fun n e rest hnotice hlist => ?_, fun hbuffer => completes_of_work ?_⟩,
    fun s dt tr closed hheld htr hclosed => ⟨fun hop => ⟨fun hjudged hintact hinbound => completes_readM ?_,
        fun h => completes_readM ?_⟩,
      fun hop => ⟨fun hjudged hintact hlist => ?_, fun h => completes_of_work ?_⟩, fun hop => completes_readM ?_,
      fun hop => completes_of_work ?_⟩⟩
  · refine readM_answers (q := { passRaw dt s.part with
      mgmt := { (openTransaction 3 (passRaw dt s.part)).mgmt with inbound := none, reply := none } })
      hheld hnone hreply hinbound ?_ rfl
    rw [takeRequest, dealWith_unknown hunknown]
    rfl
  · rw [← (passRaw_osc dt s.part).1]
    refine readM_answers (q := { passRaw dt s.part with
      osc := { (passRaw dt s.part).osc with locked := true }
      mgmt := { (openTransaction 3 (passRaw dt s.part)).mgmt with inbound := none, reply := none } })
      hheld hnone hreply hinbound rfl rfl
  · rw [exec_readA_of_notice hheld hnone (by simp [hnotice]), noticeRead_eq hheld hnone hnotice, load_empty (by exact hlist)]
  · rw [exec_readA_of_notice hheld hnone (by simp [hnotice]), noticeRead_eq hheld hnone hnotice,
      AlarmUnit.load_cons (a := { s.part.alarm with buffer := none }) rfl hlist]
    cases e.owner <;> rfl
  · change completeTransaction .readA 4 freeBuffer s.part = _
    rw [whole_idle operationOf_readA hnone (by simp [Part.judges, hbuffer]), close_open hheld hnone, outFrame_readA hheld, hbuffer]
    rfl
  · have hmgmt := passRaw_mgmt dt s.part
    subst hclosed
    rw [open_judged (by rw [hmgmt, htr]) hop hjudged hintact, emptyReply, takeWaiting_idle (by rw [← hinbound, ← hmgmt])]
    simp [closeTransaction, hmgmt, htr]
  · have hmgmt := passRaw_mgmt dt s.part
    have htr' : (passRaw dt s.part).mgmt.transaction = some tr := by rw [hmgmt, htr]
    subst hclosed
    rw [open_idle htr' hop h, close_some htr', hmgmt]
  · subst hclosed
    refine exec_readA ?_ (.inr hlist)
    rw [open_judged htr hop hjudged hintact, freeBuffer_of_free hheld, load_empty (by exact hlist)]
    simp [closeTransaction, htr]
  · subst hclosed
    change completeTransaction .readA 4 freeBuffer s.part = _
    rw [open_idle htr hop h, close_some htr]
  · exact open_other (by rw [passRaw_mgmt, htr]) hop
  · exact open_other htr hop

end Sys2Proof.Machine

/-! SUPPORT. LOOK on each table (R40, R66, R95, R119, R155, R182). -/

namespace Sys2Proof.Machine

theorem completes_look {c : Instr} {s : State} {tag table index : Byte} {r : Reply}
    (hexec : exec c s = request 0x10#8 tag [table, index] s) (hready : s.part.Ready)
    (hlook : handleLook table index s.part = r) : Completes c s (s.part.answer 0x10#8 tag r) :=
  completes_request hexec hready (by simp) rfl (by rw [← hlook]; rfl)

/-! ## Sets of records as masks (R155, R199) -/

theorem recordMask_getLsbD (i j : RecordIx) : (recordMask i).getLsbD j.val = decide (i = j) := by
  rw [recordMask, BitVec.getLsbD_shiftLeft, BitVec.getLsbD_one, Bool.eq_iff_iff, decide_eq_true_eq, Fin.ext_iff]
  have := j.isLt
  simp only [Bool.and_eq_true, decide_eq_true_eq, Bool.not_eq_true', decide_eq_false_iff_not]
  omega

theorem foldl_recordMask (has : RecordIx → Bool) (j : RecordIx) :
    ∀ (l : List RecordIx) (m : BitVec 48),
      (l.foldl (fun m i => if has i then m ||| recordMask i else m) m).getLsbD j.val =
        (m.getLsbD j.val || (decide (j ∈ l) && has j))
  | [], m => by simp
  | i :: l, m => by
    rw [List.foldl_cons, foldl_recordMask has j l]
    by_cases hi : i = j
    · subst hi
      cases hhas : has i <;> simp [recordMask_getLsbD]
    · have hne : ¬ j = i := fun h => hi h.symm
      have hbit : (recordMask i).getLsbD j.val = false := by rw [recordMask_getLsbD, decide_eq_false hi]
      split
      · rw [BitVec.getLsbD_or, hbit]
        simp [hne]
      · simp [hne]

theorem recordSet_getLsbD (p : Part) (has : ServiceRecord → Bool) (j : RecordIx) :
    (p.recordSet has).getLsbD j.val = has (p.record j) := by
  have hfold := foldl_recordMask (fun i => has (p.record i)) j allRecords 0
  rw [Part.recordSet]
  refine hfold.trans ?_
  simp [mem_allRecords]

/-- The mask of a set of records is the one with their bits. -/
theorem recordSet_eq {p : Part} {has : ServiceRecord → Bool} {m : BitVec 48}
    (h : ∀ i : RecordIx, m.getLsbD i.val = true ↔ has (p.record i) = true) : p.recordSet has = m := by
  refine BitVec.eq_of_getLsbD_eq fun n hn => ?_
  have hbit := recordSet_getLsbD p has ⟨n, hn⟩
  have hm := h ⟨n, hn⟩
  rw [Bool.eq_iff_iff]
  rw [show (p.recordSet has).getLsbD n = has (p.record ⟨n, hn⟩) from hbit]
  exact hm.symm

/-! ## Derived items -/

theorem sampleMarks (a b c : Bool) :
    flagCode a + 2 * flagCode b + 4 * flagCode c = (if a then 1 else 0) + (if b then 2 else 0) + (if c then 4 else 0) := by
  cases a <;> cases b <;> cases c <;> rfl

theorem lowSlot_iff (k : SlotIx) : k.val ≤ 1 ↔ k.val = 0 ∨ k.val = 1 := by omega

theorem returnSlot_iff (k : SlotIx) : 4 ≤ k.val ↔ k.val = 4 ∨ k.val = 5 := by omega

theorem lineSlot_iff (k : SlotIx) : k = lineSlot ↔ k.val = 3 := Fin.ext_iff

theorem slotCode_eq (x : Option SlotIx) :
    codeOrNone x = match x with
      | none => 255
      | some k => k.val := by
  cases x <;> rfl

/-- A record that is not VACANT shows every field, with the staged values that there are (R95). -/
theorem lookRecord_live {p : Part} {index : Byte} {i : RecordIx} (hindex : indexOf 48 index = some i)
    (hlive : (p.record i).state ≠ .vacant) :
    lookRecord index p = .doneWith (recordItems (p.record i) (p.alarm.standingOf (.record i))) := by
  rw [lookRecord, hindex]
  dsimp only
  rw [lookRecordBody, if_neg hlive]
  rfl

/-- A slot shows the fields of its kind, its last sample and the selected flag (R40). -/
theorem lookReference_shows {p : Part} {index : Byte} {k : SlotIx} (hindex : indexOf 6 index = some k) :
    lookReference index p = .doneWith (lookReferenceBody k p) := by
  rw [lookReference, hindex]

/-- The last sample, with the marks of the values that it has (R40, R199). -/
theorem sampleBytes_shows (x : Option Sample) :
    sampleBytes x = match x with
      | none => []
      | some x =>
        [byte x.outcome.code] ++ reportedBytes 8 (x.value.getD 0) ++ reportedUnsigned 4 (x.accuracy.getD 0) ++
          signedBytesOf 2 (x.scale.getD 0) ++ bytesOf 6 x.second ++ [byte (flagCode x.fresh)] ++
          [byte ((if x.value.isSome then 1 else 0) + (if x.accuracy.isSome then 2 else 0) +
            (if x.scale.isSome then 4 else 0))] := by
  cases x with
  | none => rfl
  | some x => simp only [sampleBytes, sampleMarks]

/-- The fields of a slot by the kinds of slot that have them (R39, R40). -/
theorem lookReferenceBody_shows (k : SlotIx) (p : Part) :
    lookReferenceBody k p =
      item1 32 (p.slot k).state.code ++ itemFlag 1 (p.slot k).enabled ++ item4 2 (p.slot k).priority ++
        item4 3 (p.slot k).wtr ++ item4 4 (p.slot k).holdOff ++ item4 5 (p.slot k).jumpLimit ++
        (if k.val = 0 ∨ k.val = 1 then item4 6 (p.slot k).acceptLimit ++ item4 7 (p.slot k).cableDelay else []) ++
        item4 8 (p.slot k).allowance ++ (if k.val = 3 then item8 9 (p.slot k).freqBound else []) ++
        item4 33 (p.slot k).goodRun ++ item4 34 (p.slot k).badRun ++ item4 35 (p.slot k).outlierRun ++
        itemFlag 36 (p.slot k).forced ++ itemFlag 37 (p.slot k).lockout ++
        (if k.val = 4 ∨ k.val = 5 then
          item 38 (match (p.slot k).binding with
            | none => []
            | some (i, g) => [byte i.val, byte g.val])
        else []) ++
        item 96 (sampleBytes (p.input k).last) ++ itemFlag 97 (decide (p.selected = some k)) := by
  have hselected : (p.selected == some k) = decide (p.selected = some k) := by
    rw [Bool.eq_iff_iff, beq_iff_eq, decide_eq_true_eq]
  simp only [lookReferenceBody, lowSlot_iff, returnSlot_iff, lineSlot_iff, hselected] <;> rfl

/-- A pair shows its line states and its sets of records (R155). -/
theorem lookPair_shows {p : Part} {index : Byte} {k : PairIx} {moved stuck : BitVec 48} (hindex : indexOf 6 index = some k)
    (hmoved : ∀ i : RecordIx, moved.getLsbD i.val = true ↔
      (p.record i).state ≠ .vacant ∧ (p.record i).homePort.val = 2 * k.val ∧ (p.record i).currentPort.val = 2 * k.val + 1)
    (hstuck : ∀ i : RecordIx, stuck.getLsbD i.val = true ↔
      (p.record i).state ≠ .vacant ∧ (p.record i).homePort.val = 2 * k.val ∧ (p.record i).blocked = true) :
    lookPair index p = .doneWith
      (itemFlag 1 (p.pair k).revertive ++ item4 2 (p.pair k).wtr ++ item1 32 (p.pair k).state.code ++
        item4 33 (p.pair k).waitCount ++ item1 96 (2 * k.val) ++ item1 97 (2 * k.val + 1) ++
        item 98 [byte (p.port (workingPort k)).line.code, byte (p.port (protectPort k)).line.code] ++
        item 99 (bytesOf 6 moved.toNat) ++ item 100 (bytesOf 6 stuck.toNat)) := by
  have hswitched : p.recordSet (fun r => r.switched k) = moved := recordSet_eq fun i => by
    rw [hmoved, switched_iff, Fin.ext_iff, Fin.ext_iff]
    rfl
  have hblocked : p.recordSet (fun r => r.state != .vacant && r.blocked && r.homePort == workingPort k) = stuck :=
    recordSet_eq fun i => by
      rw [hstuck]
      simp only [Bool.and_eq_true, bne_iff_ne, beq_iff_eq, Fin.ext_iff, workingPort]
      tauto
  rw [lookPair, hindex]
  dsimp only
  rw [lookPairBody, hswitched, hblocked]
  rfl

/-- The alarm settings show the standing sets of the slots one after another (R182). -/
theorem lookAlarmBody_shows (p : Part) :
    lookAlarmBody p =
      item1 1 (thresholdCode p.alarm.settings.recordThreshold) ++ item1 2 (thresholdCode p.alarm.settings.slotThreshold) ++
        item1 3 (thresholdCode p.alarm.settings.hubThreshold) ++ itemFlag 4 p.alarm.settings.coalescing ++
        item1 5 p.alarm.settings.almMode.code ++ item1 6 p.alarm.settings.almPolarity.code ++
        item1 7 p.alarm.settings.mgtMode.code ++ item1 8 p.alarm.settings.mgtPolarity.code ++
        item4 9 p.alarm.settings.pulseWidth ++
        item 96 (bytesOf 2 (p.alarm.standingOf (.slot 0)).toNat) ++ item 97 (bytesOf 2 (p.alarm.standingOf (.slot 1)).toNat) ++
        item 98 (bytesOf 2 (p.alarm.standingOf (.slot 2)).toNat) ++ item 99 (bytesOf 2 (p.alarm.standingOf (.slot 3)).toNat) ++
        item 100 (bytesOf 2 (p.alarm.standingOf (.slot 4)).toNat) ++
        item 101 (bytesOf 2 (p.alarm.standingOf (.slot 5)).toNat) ++ item 102 (bytesOf 2 p.alarm.hubStanding.toNat) ++
        item 103 (p.alarm.list.map (fun e => byte e.owner.number)) ++ itemFlag 104 p.alarm.buffer.isSome ++
        item1 105 (match p.alarm.buffer with
          | none => 255
          | some n => n.entry.owner.number) := by
  have hslots (f : SlotIx → List Byte) : allSlots.flatMap f = f 0 ++ f 1 ++ f 2 ++ f 3 ++ f 4 ++ f 5 := by
    simp [allSlots_eq]
  rw [lookAlarmBody, hslots]
  simp only [List.append_assoc]
  cases p.alarm.buffer <;> rfl

/-- Settles O27: each table's items as it lists them. -/
theorem looksAnswerAndChangeNothing : Obligations.LooksAnswerAndChangeNothing := by
  refine ⟨fun s tag index i r hready hindex hr => ⟨fun hvacant => ?_, fun hlive => ?_⟩,
    fun s tag index k r hready hindex hr => ?_, fun s tag index q hready hindex => ?_,
    fun s tag index k moved stuck hready hindex hmoved hstuck => ?_, fun s tag index h hready hh => ?_,
    fun s tag index a hready ha => ?_, fun s tag index hready => ⟨fun h => ?_, fun h => ?_, fun h => ?_, fun h => ?_⟩⟩
  · refine completes_look rfl hready ?_
    change lookRecord index s.part = _
    subst hr
    simp only [lookRecord, hindex, lookRecordBody, hvacant, if_true]
    rfl
  · refine completes_look rfl hready ?_
    change lookRecord index s.part = _
    subst hr
    rw [lookRecord_live hindex hlive]
    refine congrArg Reply.doneWith ?_
    unfold recordItems itemIdentity stagedItem
    rw [slotCode_eq] <;> rfl
  · refine completes_look rfl hready ?_
    change lookReference index s.part = _
    subst hr
    rw [lookReference_shows hindex, lookReferenceBody_shows, sampleBytes_shows] <;> rfl
  · refine completes_look rfl hready ?_
    change lookPort index s.part = _
    simp only [lookPort, hindex]
    rfl
  · refine completes_look rfl hready ?_
    change lookPair index s.part = _
    rw [lookPair_shows hindex hmoved hstuck]
    rfl
  · refine completes_look rfl hready ?_
    subst hh
    rfl
  · refine completes_look rfl hready ?_
    change Reply.doneWith (lookAlarmBody s.part) = _
    subst ha
    rw [lookAlarmBody_shows]
    rfl
  · refine completes_look rfl hready ?_
    change lookRecord index s.part = _
    simp only [lookRecord, indexOf_eq_none h]
    rfl
  · refine completes_look rfl hready ?_
    change lookReference index s.part = _
    simp only [lookReference, indexOf_eq_none h]
    rfl
  · refine completes_look rfl hready ?_
    change lookPort index s.part = _
    simp only [lookPort, indexOf_eq_none h]
    rfl
  · refine completes_look rfl hready ?_
    change lookPair index s.part = _
    simp only [lookPair, indexOf_eq_none h]
    rfl

end Sys2Proof.Machine

/-! SUPPORT. SET on tables 0 and 2 to 6 (R15, R65, R98 to R100, R120, R150, R156, R183, R198). -/

namespace Sys2Proof.Machine

/-! ## Flags and codes as items give them -/

section Codes

variable {kindOf : Nat → Option FieldKind} {raws : List RawItem} {items : List Item} {n : Nat} {field : Byte}
  {kind : FieldKind}

/-- The code written to a field of one byte is the byte that the items give it. -/
theorem codeWritten_eq (h : decodeItems kindOf raws = some items) (hn : field.toNat = n) (hkind : kindOf n = some kind)
    (hone : kind.oneByte = true) (htakes : takesItems kindOf raws = true) :
    codeWritten items n = heldCode raws field (fun c => some c.toNat) none := by
  rw [← codeWritten_held h hn hkind hone htakes (read := some) (fun _ => rfl) none]
  cases codeWritten items n <;> rfl

theorem flagWritten_eq (h : decodeItems kindOf raws = some items) (hn : field.toNat = n) (hkind : kindOf n = some kind)
    (hone : kind.oneByte = true) (htakes : takesItems kindOf raws = true) :
    flagWritten items n = heldCode raws field (fun c => some (c == 1)) none := by
  have hmeaning (c : Byte) : (c.toNat == 1) = (c == 1) := (byte_beq c 1).symm
  rw [flagWritten, codeWritten_eq h hn hkind hone htakes, heldCode, heldCode]
  split
  · rw [Option.map_some, hmeaning]
  · rfl

/-- A flag that items name has the value 0 or 1. -/
theorem valueOf_flag (htakes : takesItems kindOf raws = true) (hkind : kindOf field.toNat = some onOff) :
    valueOf raws field = none ∨ valueOf raws field = some [0] ∨ valueOf raws field = some [1] := by
  cases hv : valueOf raws field with
  | none => exact .inl rfl
  | some bytes =>
    have htaken := valueOf_takes htakes hv
    rw [hkind, Option.bind_some, onOff_isSome] at htaken
    simpa [or_comm] using htaken

end Codes

/-! ## Table 0 (R98 to R100, R150) -/

section Record

variable {raws : List RawItem} {items : List Item}

theorem newer_written (h : decodeItems recordFields raws = some items) (htakes : takesItems recordFields raws = true)
    {n : Nat} {field : Byte} {lo hi : Int} (hn : field.toNat = n) (hkind : recordFields n = some (.num lo hi))
    (hrange : recordRanges.lookup field = some (lo, hi)) (old : Option Int) :
    newer (numberWritten items n) old =
      if named raws field then some (heldNumber recordRanges raws field 0) else old := by
  have hheld := heldRecordNumber h htakes hn hkind hrange 0
  rw [← numberWritten_isSome h hn hkind htakes, ← hheld]
  cases numberWritten items n <;> rfl

/-- What a write of the statistics flag makes of a record (R99, R150). -/
theorem statistics_written (h : decodeItems recordFields raws = some items) (htakes : takesItems recordFields raws = true)
    (r : ServiceRecord) :
    (match flagWritten items 10 with
      | some on => writeStatistics on r
      | none => r) =
      { r with
        statistics := heldFlag raws 10 r.statistics, window := if named raws 10 then {} else r.window
        stale := if valueOf raws 10 = some [0] then r.stale || r.halfSpread.isSome else r.stale } := by
  rw [flagWritten_eq (field := 10#8) (n := 10) h rfl rfl rfl htakes]
  obtain hv | hv | hv := valueOf_flag (field := 10#8) htakes rfl <;>
    simp [heldCode, heldFlag, named, hv, writeStatistics, stopStatistics]

/-- The record as a SET leaves it (R98 to R100). -/
theorem writeRecord_eq (h : decodeItems recordFields raws = some items) (htakes : takesItems recordFields raws = true)
    (r : ServiceRecord) :
    writeRecord items r =
      { r with
        identity := heldIdentity raws r.identity
        budget := heldNumber recordRanges raws 2 r.budget
        asymmetry := heldNumber recordRanges raws 3 r.asymmetry
        stagedShare := if named raws 4 then some (heldNumber recordRanges raws 4 0) else r.stagedShare
        stagedOffset := if named raws 5 then some (heldNumber recordRanges raws 5 0) else r.stagedOffset
        protectOffset := heldNumber recordRanges raws 6 r.protectOffset
        eligible := heldFlag raws 7 r.eligible
        silentLimit := heldNumber recordRanges raws 8 r.silentLimit
        autoRetire := heldNumber recordRanges raws 9 r.autoRetire
        statistics := heldFlag raws 10 r.statistics
        window := if named raws 10 then {} else r.window
        stale := if valueOf raws 10 = some [0] then r.stale || r.halfSpread.isSome else r.stale } := by
  rw [writeRecord, writeImmediate, newer_written h htakes (n := 4) (field := 4#8) rfl rfl rfl, newer_written h htakes (n := 5) (field := 5#8) rfl rfl rfl,
    identityWritten_held h htakes, heldRecordNumber h htakes (n := 2) (field := 2#8) rfl rfl rfl, heldRecordNumber h htakes (n := 3) (field := 3#8) rfl rfl rfl,
    heldRecordNumber h htakes (n := 6) (field := 6#8) rfl rfl rfl, heldRecordNumber h htakes (n := 8) (field := 8#8) rfl rfl rfl,
    heldRecordNumber h htakes (n := 9) (field := 9#8) rfl rfl rfl, heldFlag_eq h htakes (n := 7) (field := 7#8) rfl rfl]
  have hstatistics := statistics_written h htakes
    { r with
      budget := heldNumber recordRanges raws 2 r.budget, asymmetry := heldNumber recordRanges raws 3 r.asymmetry
      protectOffset := heldNumber recordRanges raws 6 r.protectOffset, eligible := heldFlag raws 7 r.eligible
      silentLimit := heldNumber recordRanges raws 8 r.silentLimit, autoRetire := heldNumber recordRanges raws 9 r.autoRetire }
  refine (congrArg (fun w : ServiceRecord => { w with
    identity := heldIdentity raws r.identity
    stagedShare := if named raws 4 then some (heldNumber recordRanges raws 4 0) else r.stagedShare
    stagedOffset := if named raws 5 then some (heldNumber recordRanges raws 5 0) else r.stagedOffset }) hstatistics)

theorem identityWritten_isSome (h : decodeItems recordFields raws = some items)
    (htakes : takesItems recordFields raws = true) : (identityWritten items).isSome = named raws 1 := by
  rw [identityWritten_eq h htakes, named, Option.isSome_map]

theorem heldIdentity_named {x : List Byte} (hx : valueOf raws 1 = some x) (hne : x ≠ []) (old : Option Identity) :
    heldIdentity raws old = some (BitVec.ofNat 48 (numberOf x)) := by
  cases x with
  | nil => exact absurd rfl hne
  | cons b rest => rw [heldIdentity, hx]

theorem identityElsewhere_of {p : Part} {i j : RecordIx} {x : Identity} (hj : j ≠ i) (hstate : (p.record j).state ≠ .vacant)
    (hidentity : (p.record j).identity = some x) : p.identityElsewhere i (some x) = true :=
  List.any_eq_true.2 ⟨j, mem_allRecords j, by simp [hj, hstate, hidentity]⟩

/-- No other live record holds the identity that items name. -/
theorem identityElsewhere_none {p : Part} {i : RecordIx}
    (h : ∀ (x : List Byte) (j : RecordIx), valueOf raws 1 = some x → x ≠ [] → j ≠ i → (p.record j).state ≠ .vacant →
      (p.record j).identity ≠ some (BitVec.ofNat 48 (numberOf x))) :
    p.identityElsewhere i (heldIdentity raws none) = false := by
  unfold heldIdentity
  cases hv : valueOf raws 1 with
  | none => rfl
  | some bytes =>
    cases bytes with
    | nil => rfl
    | cons b rest =>
      refine List.any_eq_false.2 fun j _ => ?_
      by_cases hj : j = i
      · simp [hj]
      · by_cases hs : (p.record j).state = .vacant
        · simp [hs]
        · simp [h (b :: rest) j hv (List.cons_ne_nil b rest) hj hs]

end Record

section Sets

variable {s : State} {tag index : Byte} {raws : List RawItem}

/-- SET on table 0, clause by clause in the order of its checks (R98). -/
theorem setRecordRequest_cases (hfit : itemsFit 251 raws = true) (htakes : recordAdmits raws = true) {i : RecordIx}
    (hindex : indexOf 48 index = some i) (p : Part) :
    setRecordRequest index (joinItems raws) p =
      if (p.record i).state = .vacant then (p, .refused .vacant)
      else if (p.record i).state = .retiring then (p, .refused .state)
      else if named raws 1 = true ∧ (p.record i).state ≠ .reserved then (p, .refused .state)
      else if p.identityElsewhere i (heldIdentity raws none) then (p, .refused .conflict)
      else
        (p.setRecord i
          { p.record i with
            identity := heldIdentity raws (p.record i).identity
            budget := heldNumber recordRanges raws 2 (p.record i).budget
            asymmetry := heldNumber recordRanges raws 3 (p.record i).asymmetry
            stagedShare := if named raws 4 then some (heldNumber recordRanges raws 4 0) else (p.record i).stagedShare
            stagedOffset := if named raws 5 then some (heldNumber recordRanges raws 5 0) else (p.record i).stagedOffset
            protectOffset := heldNumber recordRanges raws 6 (p.record i).protectOffset
            eligible := heldFlag raws 7 (p.record i).eligible
            silentLimit := heldNumber recordRanges raws 8 (p.record i).silentLimit
            autoRetire := heldNumber recordRanges raws 9 (p.record i).autoRetire
            statistics := heldFlag raws 10 (p.record i).statistics
            window := if named raws 10 then {} else (p.record i).window
            stale := if valueOf raws 10 = some [0] then (p.record i).stale || (p.record i).halfSpread.isSome
              else (p.record i).stale },
          { code := .done, clamped := clampsAny recordRanges raws, staged := named raws 4 || named raws 5 }) := by
  rw [recordAdmits_eq] at htakes
  obtain ⟨items, hitems, hread⟩ := readItems_joinItems hfit htakes
  have hstaged : anyStaged items = (named raws 4 || named raws 5) := by
    rw [anyStaged, numberWritten_isSome (n := 4) (field := 4#8) hitems rfl rfl htakes,
      numberWritten_isSome (n := 5) (field := 5#8) hitems rfl rfl htakes]
    rfl
  simp only [setRecordRequest, hread, hindex, identityWritten_isSome hitems htakes, identityWritten_held hitems htakes,
    anyClamped_eq recordRanges_of hitems, hstaged, withRecord, writeRecord_eq hitems htakes]

/-- Settles the clauses of table 0. -/
theorem setRecord_clauses (hready : s.part.Ready) (hne : raws ≠ []) (hfit : itemsFit 251 raws = true) :
    (recordAdmits raws = false →
      Completes (.setServiceRecord tag index raws) s (s.part.answer 0x11#8 tag { code := .badRequest })) ∧
    (recordAdmits raws = true → 48 ≤ index.toNat →
      Completes (.setServiceRecord tag index raws) s (s.part.answer 0x11#8 tag { code := .noSuch })) := by
  refine ⟨fun hbad => completes_set rfl hready hne hfit ?_, fun hadmits hindex => completes_set rfl hready hne hfit ?_⟩
  · change setRecordRequest index (joinItems raws) s.part = _
    rw [setRecordRequest, readItems_eq_none hfit ((recordAdmits_eq raws).symm.trans hbad)]
    rfl
  · obtain ⟨items, _, hread⟩ := readItems_joinItems hfit ((recordAdmits_eq raws).symm.trans hadmits)
    change setRecordRequest index (joinItems raws) s.part = _
    rw [setRecordRequest, hread, indexOf_eq_none hindex]
    rfl

/-- A SET on table 0 is answered as its checks say. -/
theorem completes_setRecord {q : Part} {r : Reply} (hready : s.part.Ready) (hne : raws ≠ []) (hfit : itemsFit 251 raws = true)
    (hact : setRecordRequest index (joinItems raws) s.part = (q, r)) :
    Completes (.setServiceRecord tag index raws) s (q.answer 0x11#8 tag r) := completes_set rfl hready hne hfit hact

/-- What a SET on a live record makes of it (R98 to R100). -/
theorem setRecord_refusals {i : RecordIx} {r : ServiceRecord} (hready : s.part.Ready) (hne : raws ≠ [])
    (hfit : itemsFit 251 raws = true) (hindex : indexOf 48 index = some i) (hr : r = s.part.record i)
    (htakes : recordAdmits raws = true) :
    (r.state = .vacant →
      Completes (.setServiceRecord tag index raws) s (s.part.answer 0x11#8 tag { code := .vacant })) ∧
    (r.state = .retiring ∨ (r.state ≠ .vacant ∧ r.state ≠ .reserved ∧ named raws 1 = true) →
      Completes (.setServiceRecord tag index raws) s (s.part.answer 0x11#8 tag { code := .state })) ∧
    (∀ (x : List Byte) (j : RecordIx), r.state = .reserved → valueOf raws 1 = some x → x ≠ [] → j ≠ i →
      (s.part.record j).state ≠ .vacant → (s.part.record j).identity = some (BitVec.ofNat 48 (numberOf x)) →
      Completes (.setServiceRecord tag index raws) s (s.part.answer 0x11#8 tag { code := .conflict })) := by
  subst hr
  have hcases := setRecordRequest_cases (index := index) hfit htakes hindex s.part
  refine ⟨fun hvacant => completes_setRecord hready hne hfit ?_, fun hstate => completes_setRecord hready hne hfit ?_,
    fun x j hreserved hx hnonempty hj hlive hidentity => completes_setRecord hready hne hfit ?_⟩
  · rw [hcases, if_pos hvacant]
    rfl
  · obtain hretiring | ⟨hlive, hreserved, hnamed⟩ := hstate
    · rw [hcases, if_neg (by simp [hretiring]), if_pos hretiring]
      rfl
    · rw [hcases, if_neg hlive]
      split
      · rfl
      · rw [if_pos ⟨hnamed, hreserved⟩]
        rfl
  · rw [hcases, if_neg (by simp [hreserved]), if_neg (by simp [hreserved]), if_neg (by simp [hreserved]),
      heldIdentity_named hx hnonempty, if_pos (identityElsewhere_of hj hlive hidentity)]
    rfl

/-! ## Table 2 (R120) -/

theorem portMode_held {items : List Item} (h : decodeItems portFields raws = some items)
    (htakes : takesItems portFields raws = true) (old : EnrolmentMode) :
    ((codeWritten items 2).map (fun n => if n = 0 then EnrolmentMode.closed else EnrolmentMode.open)).getD old =
      heldCode raws 2 (fun c => if c = 0 then .closed else .open) old :=
  codeWritten_held (field := 2#8) (read := fun n => if n = 0 then EnrolmentMode.closed else EnrolmentMode.open)
    (meaning := fun c => if c = 0 then .closed else .open) h rfl rfl rfl htakes (fun _ => if_congr (BitVec.toNat_eq (y := 0)).symm rfl rfl) old

/-- A SET that leaves the enabled field as it is writes the mode and the default budget (R120). -/
theorem setPortFields_kept {items : List Item} (h : decodeItems portFields raws = some items)
    (htakes : takesItems portFields raws = true) {q : PortIx} {p : Part}
    (henabled : valueOf raws 1 = none ∨ (valueOf raws 1 = some [1] ∧ (p.port q).state ≠ .disabled) ∨
      (valueOf raws 1 = some [0] ∧ (p.port q).state = .disabled)) :
    setPortFields q items p =
      p.setPort q
        { p.port q with
          mode := heldCode raws 2 (fun c => if c = 0 then .closed else .open) (p.port q).mode
          defaultBudget := heldNumber portRanges raws 3 (p.port q).defaultBudget } := by
  have hflag := flagWritten_eq (n := 1) (field := 1#8) h rfl rfl rfl htakes
  rw [setPortFields, withPort, portMode_held h htakes,
    numberWritten_held (n := 3) (field := 3#8) (ranges := portRanges) h rfl rfl rfl htakes, hflag]
  obtain hv | ⟨hv, hstate⟩ | ⟨hv, hstate⟩ := henabled
  · rw [heldCode, show valueOf raws 1#8 = none from hv]
    rfl
  · rw [heldCode, show valueOf raws 1#8 = some [1] from hv]
    exact if_neg (by simpa using hstate)
  · rw [heldCode, show valueOf raws 1#8 = some [0] from hv]
    exact if_pos (by simpa using hstate)

theorem setPort_clauses (hready : s.part.Ready) (hne : raws ≠ []) (hfit : itemsFit 251 raws = true) :
    (portAdmits raws = false →
      Completes (.setPort tag index raws) s (s.part.answer 0x11#8 tag { code := .badRequest })) ∧
    (portAdmits raws = true → 12 ≤ index.toNat →
      Completes (.setPort tag index raws) s (s.part.answer 0x11#8 tag { code := .noSuch })) ∧
    ∀ q : PortIx, indexOf 12 index = some q → portAdmits raws = true →
      (valueOf raws 1 = none ∨ (valueOf raws 1 = some [1] ∧ (s.part.port q).state ≠ .disabled) ∨
        (valueOf raws 1 = some [0] ∧ (s.part.port q).state = .disabled)) →
      Completes (.setPort tag index raws) s
        ((s.part.setPort q
          { s.part.port q with
            mode := heldCode raws 2 (fun c => if c = 0 then .closed else .open) (s.part.port q).mode
            defaultBudget := heldNumber portRanges raws 3 (s.part.port q).defaultBudget }).answer 0x11#8 tag
          { code := .done, clamped := clampsAny portRanges raws }) := by
  rw [portAdmits_eq]
  refine ⟨fun hbad => completes_set rfl hready hne hfit ?_, fun htakes hindex => completes_set rfl hready hne hfit ?_,
    fun q hindex htakes henabled => completes_set rfl hready hne hfit ?_⟩
  · change setPortRequest index (joinItems raws) s.part = _
    rw [setPortRequest, readItems_eq_none hfit hbad]
    rfl
  · obtain ⟨items, _, hread⟩ := readItems_joinItems hfit htakes
    change setPortRequest index (joinItems raws) s.part = _
    rw [setPortRequest, hread, indexOf_eq_none hindex]
    rfl
  · obtain ⟨items, hitems, hread⟩ := readItems_joinItems hfit htakes
    change setPortRequest index (joinItems raws) s.part = _
    simp only [setPortRequest, hread, hindex, anyClamped_eq portRanges_of hitems, setPortFields_kept hitems htakes henabled]

/-! ## Table 5 (R15) -/

theorem setOscillator_clauses (hready : s.part.Ready) (hne : raws ≠ []) (hfit : itemsFit 251 raws = true) :
    (oscillatorAdmits raws = false →
      Completes (.setOscillatorRecord tag index raws) s (s.part.answer 0x11#8 tag { code := .badRequest })) ∧
    (oscillatorAdmits raws = true → s.part.osc.locked = false →
      Completes (.setOscillatorRecord tag index raws) s
        ({ s.part with
            osc := { s.part.osc with
              stability := heldNumber oscillatorRanges raws 1 s.part.osc.stability
              aging := heldNumber oscillatorRanges raws 2 s.part.osc.aging
              prediction := heldNumber oscillatorRanges raws 3 s.part.osc.prediction
              shift := heldNumber oscillatorRanges raws 4 s.part.osc.shift
              restart := heldNumber oscillatorRanges raws 5 s.part.osc.restart } }.answer 0x11#8 tag
          { code := .done, clamped := clampsAny oscillatorRanges raws })) := by
  rw [oscillatorAdmits_eq]
  refine ⟨fun hbad => completes_set rfl hready hne hfit ?_, fun htakes hlocked => completes_set rfl hready hne hfit ?_⟩
  · change setOscillator (joinItems raws) s.part = _
    rw [setOscillator, readItems_eq_none hfit hbad]
    rfl
  · obtain ⟨items, hitems, hread⟩ := readItems_joinItems hfit htakes
    change setOscillator (joinItems raws) s.part = _
    have held {n : Nat} {field : Byte} {lo hi : Int} (hn : field.toNat = n) (hkind : oscillatorFields n = some (.num lo hi))
        (hrange : oscillatorRanges.lookup field = some (lo, hi)) (old : Int) :
        (numberWritten items n).getD old = heldNumber oscillatorRanges raws field old :=
      numberWritten_held hitems hn hkind hrange htakes old
    have hwritten : writeOscillator items s.part.osc =
        { s.part.osc with
          stability := heldNumber oscillatorRanges raws 1 s.part.osc.stability
          aging := heldNumber oscillatorRanges raws 2 s.part.osc.aging
          prediction := heldNumber oscillatorRanges raws 3 s.part.osc.prediction
          shift := heldNumber oscillatorRanges raws 4 s.part.osc.shift
          restart := heldNumber oscillatorRanges raws 5 s.part.osc.restart } := by
      rw [writeOscillator, held (n := 1) (field := 1#8) rfl rfl rfl, held (n := 2) (field := 2#8) rfl rfl rfl,
        held (n := 3) (field := 3#8) rfl rfl rfl, held (n := 4) (field := 4#8) rfl rfl rfl,
        held (n := 5) (field := 5#8) rfl rfl rfl]
      rfl
    simp only [setOscillator, hread, hlocked, anyClamped_eq oscillatorRanges_of hitems, hwritten]
    rfl

end Sets

end Sys2Proof.Machine

/-! SUPPORT. SET on tables 3, 4 and 6 (R65, R156, R183, R198). -/

namespace Sys2Proof.Machine

/-! ## Table 3 (R156, R163) -/

theorem protectPort_ne_workingPort (k : PairIx) : protectPort k ≠ workingPort k := by
  rw [Ne, Fin.ext_iff]
  simp [protectPort, workingPort]

/-- No record stays switched after a return of its pair (R165). -/
theorem returnPair_none_switched (k : PairIx) (i : RecordIx) (p : Part) :
    ((returnPair k p).record i).switched k = false := by
  by_cases h : (p.record i).switched k = true
  · rw [returnPair_switched h]
    have hport : (returned k (p.record i)).currentPort = workingPort k := by
      unfold returned
      split <;> rfl
    by_contra hswitched
    have hprotect := ((switched_iff _ _).1 (by simpa using hswitched)).2.2
    exact protectPort_ne_workingPort k (hprotect.symm.trans hport)
  · rw [returnPair_unswitched (by simpa using h)]
    split
    · simpa [ServiceRecord.switched] using h
    · simpa using h

/-- A pair that enters RESTORE_WAIT, with its blocked flags cleared; with a WTR of 0 it returns at once (R163). -/
def waitEntered (k : PairIx) (p : Part) : Part :=
  clearBlocked k (withPair k (fun r => { r with state := .restoreWait, waitCount := 0 }) p)

theorem waitEntered_pair (k : PairIx) (p : Part) :
    (waitEntered k p).pair k = { p.pair k with state := .restoreWait, waitCount := 0 } := by
  rw [waitEntered, clearBlocked_pair, withPair, pair_setPair_self]

theorem waitEntered_record (k : PairIx) (i : RecordIx) (p : Part) :
    (waitEntered k p).record i =
      { p.record i with
        blocked := if pairOf (p.record i).homePort = k then false else (p.record i).blocked } := by
  rw [waitEntered, clearBlocked_record, withPair, setPair_record]
  split <;> rfl

theorem clearBlocked_ports (k : PairIx) (p : Part) : (clearBlocked k p).ports = p.ports :=
  forEach_keeps (get := Part.ports) fun i _ q => by
    split <;> rfl

theorem enterWait_eq (k : PairIx) (p : Part) :
    enterWait k p = if (p.pair k).wtr ≤ 0 then returnPair k (waitEntered k p) else waitEntered k p := by
  have hwtr : ((waitEntered k p).pair k).wtr = (p.pair k).wtr := by rw [waitEntered_pair]
  rw [← hwtr]
  rfl

theorem enterWait_ports (k : PairIx) (p : Part) : (enterWait k p).ports = p.ports := by
  have hentered : (waitEntered k p).ports = p.ports := by rw [waitEntered, clearBlocked_ports, withPair, setPair_ports]
  rw [enterWait_eq]
  split
  · rw [returnPair_ports, hentered]
  · exact hentered

section Sets

variable {s : State} {tag index : Byte} {raws : List RawItem}

/-- The pair record as a SET's numbers and flag leave it (R156). -/
def pairWritten (raws : List RawItem) (r : PairRecord) : PairRecord :=
  { r with revertive := heldFlag raws 1 r.revertive, wtr := heldNumber pairRanges raws 2 r.wtr }

/-- A SET on a pair writes its fields, and a change of revertive moves a pair that waits or has switched (R156). -/
theorem setPairFields_eq {items : List Item} (h : decodeItems pairFields raws = some items)
    (htakes : takesItems pairFields raws = true) (k : PairIx) (p : Part) :
    setPairFields k items p =
      if heldFlag raws 1 (p.pair k).revertive = (p.pair k).revertive then p.setPair k (pairWritten raws (p.pair k))
      else
        match (p.pair k).state with
        | .restoreWait =>
          if heldFlag raws 1 (p.pair k).revertive then p.setPair k (pairWritten raws (p.pair k))
          else withPair k (fun r => { r with state := .switchedAuto, waitCount := 0 })
            (p.setPair k (pairWritten raws (p.pair k)))
        | .switchedAuto =>
          if heldFlag raws 1 (p.pair k).revertive && !p.faulted (workingPort k) then
            enterWait k (p.setPair k (pairWritten raws (p.pair k)))
          else p.setPair k (pairWritten raws (p.pair k))
        | .switchedManual => p.setPair k (pairWritten raws (p.pair k))
        | .normal => p.setPair k (pairWritten raws (p.pair k)) := by
  have hon := flagWritten_held (n := 1) (field := 1#8) h rfl rfl rfl htakes (p.pair k).revertive
  have hwtr := numberWritten_held (n := 2) (field := 2#8) (ranges := pairRanges) h rfl rfl rfl htakes (p.pair k).wtr
  have hwritten : withPair k (fun r => { r with
      revertive := (flagWritten items 1).getD (p.pair k).revertive, wtr := (numberWritten items 2).getD r.wtr }) p =
      p.setPair k (pairWritten raws (p.pair k)) := by
    rw [withPair, hon, hwtr]
    rfl
  rw [setPairFields, hwritten, hon]
  rfl

/-- A pair whose revertive setting stays, or whose state a change of it does not move, has its fields written alone. -/
theorem setPairFields_kept {items : List Item} (h : decodeItems pairFields raws = some items)
    (htakes : takesItems pairFields raws = true) {k : PairIx} {p : Part}
    (hkept : heldFlag raws 1 (p.pair k).revertive = (p.pair k).revertive ∨ (p.pair k).state = .normal ∨
      (p.pair k).state = .switchedManual ∨
      ((p.pair k).state = .restoreWait ∧ heldFlag raws 1 (p.pair k).revertive = true) ∨
      ((p.pair k).state = .switchedAuto ∧
        (heldFlag raws 1 (p.pair k).revertive = false ∨ (p.port (workingPort k)).line = .fault))) :
    setPairFields k items p = p.setPair k (pairWritten raws (p.pair k)) := by
  rw [setPairFields_eq h htakes]
  by_cases hsame : heldFlag raws 1 (p.pair k).revertive = (p.pair k).revertive
  · rw [if_pos hsame]
  · rw [if_neg hsame]
    obtain h | h | h | ⟨h, hon⟩ | ⟨h, hoff⟩ := hkept
    · exact absurd h hsame
    · simp only [h]
    · simp only [h]
    · simp only [h, hon, if_true]
    · simp only [h]
      refine if_neg ?_
      obtain hoff | hfault := hoff
      · rw [hoff, Bool.false_and]
        exact Bool.false_ne_true
      · simp [Part.faulted, hfault]

theorem setPair_clauses (hready : s.part.Ready) (hne : raws ≠ []) (hfit : itemsFit 251 raws = true) :
    (pairAdmits raws = false →
      Completes (.setPair tag index raws) s (s.part.answer 0x11#8 tag { code := .badRequest })) ∧
    (pairAdmits raws = true → 6 ≤ index.toNat →
      Completes (.setPair tag index raws) s (s.part.answer 0x11#8 tag { code := .noSuch })) := by
  rw [pairAdmits_eq]
  refine ⟨fun hbad => completes_set rfl hready hne hfit ?_, fun htakes hindex => completes_set rfl hready hne hfit ?_⟩
  · change setPairRequest index (joinItems raws) s.part = _
    rw [setPairRequest, readItems_eq_none hfit hbad]
    rfl
  · obtain ⟨items, _, hread⟩ := readItems_joinItems hfit htakes
    change setPairRequest index (joinItems raws) s.part = _
    rw [setPairRequest, hread, indexOf_eq_none hindex]
    rfl

/-- A SET on a pair that exists is answered DONE with its fields written. -/
theorem completes_setPair {k : PairIx} {q : Part} (hready : s.part.Ready) (hne : raws ≠ []) (hfit : itemsFit 251 raws = true)
    (hadmits : pairAdmits raws = true) (hindex : indexOf 6 index = some k)
    (hq : ∀ items, decodeItems pairFields raws = some items → takesItems pairFields raws = true →
      setPairFields k items s.part = q) :
    Completes (.setPair tag index raws) s
      (q.answer 0x11#8 tag { code := .done, clamped := clampsAny pairRanges raws }) := by
  have htakes := (pairAdmits_eq raws).symm.trans hadmits
  obtain ⟨items, hitems, hread⟩ := readItems_joinItems hfit htakes
  refine completes_set rfl hready hne hfit ?_
  change setPairRequest index (joinItems raws) s.part = _
  simp only [setPairRequest, hread, hindex, anyClamped_eq pairRanges_of hitems, hq items hitems htakes]

/-- A switched pair that becomes revertive with its working port CLEAN waits, or returns at once (R156, R163). -/
theorem setPair_waits {k : PairIx} {r w : PairRecord} (hready : s.part.Ready) (hne : raws ≠ []) (hfit : itemsFit 251 raws = true)
    (hadmits : pairAdmits raws = true) (hindex : indexOf 6 index = some k) (hr : r = s.part.pair k)
    (hw : w = pairWritten raws r) (hstate : r.state = .switchedAuto) (hoff : r.revertive = false) (hon : w.revertive = true)
    (hclean : (s.part.port (workingPort k)).line = .clean) :
    ∃ t : State, exec (.setPair tag index raws) s = .next t ∧ t.pending = s.pending ∧
      t.part.mgmt =
        (s.part.answer 0x11#8 tag { code := .done, clamped := clampsAny pairRanges raws }).mgmt ∧
      (∀ j, j ≠ k → t.part.pair j = s.part.pair j) ∧ KeepsBase s.part t.part ∧
      t.part.ports = s.part.ports ∧ t.part.engines = s.part.engines ∧ t.part.slots = s.part.slots ∧
      (0 < w.wtr →
        t.part.pair k = { w with state := .restoreWait, waitCount := 0 } ∧
        ∀ i, t.part.record i =
          { s.part.record i with
            blocked :=
              if pairOf (s.part.record i).homePort = k then false else (s.part.record i).blocked }) ∧
      (w.wtr ≤ 0 →
        t.part.pair k = { w with state := .normal, waitCount := 0 } ∧
          ∀ i, (t.part.record i).switched k = false) := by
  subst hr hw
  have hpair : (s.part.setPair k (pairWritten raws (s.part.pair k))).pair k = pairWritten raws (s.part.pair k) :=
    pair_setPair_self _ _ _
  have hfields : ∀ items, decodeItems pairFields raws = some items → takesItems pairFields raws = true →
      setPairFields k items s.part = enterWait k (s.part.setPair k (pairWritten raws (s.part.pair k))) := by
    intro items hitems htakes
    have hflag : heldFlag raws 1 (s.part.pair k).revertive = true := hon
    rw [setPairFields_eq hitems htakes, if_neg (by rw [hflag, hoff]; simp)]
    simp only [hstate]
    exact if_pos (by rw [hflag]; simp [Part.faulted, hclean])
  have hwithin : Within (.pairing k) s.part (enterWait k (s.part.setPair k (pairWritten raws (s.part.pair k)))) :=
    ((Within.refl (.pairing k) s.part).withPair (Access.pairing_pair k).pair
    fun _ => pairWritten raws (s.part.pair k)).enterWait (Access.pairing_pair k)
  have hports := enterWait_ports k (s.part.setPair k (pairWritten raws (s.part.pair k)))
  refine ⟨_, completes_setPair hready hne hfit hadmits hindex hfields, rfl,
    answered_mgmt hwithin.mgmt hwithin.alarm.settings, fun j hj => by simpa using hwithin.pairs j hj,
    answered_keepsBase (hwithin.keepsBase nofun), by simpa using hports, by simpa using hwithin.engines_eq nofun,
    by simpa using hwithin.slots_eq nofun, fun hwtr => ?_, fun hwtr => ?_⟩
  · have hentered : enterWait k (s.part.setPair k (pairWritten raws (s.part.pair k))) =
        waitEntered k (s.part.setPair k (pairWritten raws (s.part.pair k))) := by
      rw [enterWait_eq, hpair, if_neg (Int.not_le.2 hwtr)]
    dsimp only
    rw [settle_pair, answer_pair, hentered, waitEntered_pair, hpair]
    refine ⟨rfl, fun i => ?_⟩
    rw [settle_record, answer_record, waitEntered_record, setPair_record]
  · have hentered : enterWait k (s.part.setPair k (pairWritten raws (s.part.pair k))) =
        returnPair k (waitEntered k (s.part.setPair k (pairWritten raws (s.part.pair k)))) := by
      rw [enterWait_eq, hpair, if_pos hwtr]
    dsimp only
    rw [settle_pair, answer_pair, hentered, returnPair_pair, waitEntered_pair, hpair]
    refine ⟨rfl, fun i => ?_⟩
    rw [settle_record, answer_record]
    exact returnPair_none_switched k i _

end Sets

end Sys2Proof.Machine

/-! SUPPORT. SET on tables 4 and 6 (R65, R183, R198). -/

namespace Sys2Proof.Machine

theorem byte_eq_iff (a b : Byte) : a.toNat = b.toNat ↔ a = b := BitVec.toNat_eq.symm

section Sets

variable {s : State} {tag index : Byte} {raws : List RawItem} {items : List Item}

/-! ## Table 4 (R65) -/

/-- The hub settings as a SET leaves them (R65). -/
def hubWritten (raws : List RawItem) (h : HubSettings) : HubSettings :=
  { loopClass := heldCode raws 1 (fun c => if c = 0 then .fast else if c = 1 then .normal else .slow) h.loopClass
    lockWindow := heldNumber hubRanges raws 2 h.lockWindow
    stepThreshold := heldNumber hubRanges raws 3 h.stepThreshold
    holdoverLimit := heldNumber hubRanges raws 4 h.holdoverLimit
    revertive := heldFlag raws 5 h.revertive
    preferred := heldCode raws 6 (fun c => indexOf 6 c) h.preferred }

theorem loopClassOf_code (c : Byte) :
    loopClassOf c.toNat = if c = 0 then .fast else if c = 1 then .normal else .slow := by
  revert c
  decide

theorem writeHubSettings_eq (h : decodeItems hubFields raws = some items) (htakes : takesItems hubFields raws = true)
    (old : HubSettings) : writeHubSettings items old = hubWritten raws old := by
  have hpreferred := codeWritten_held (n := 6) (field := 6) (read := fun n => if h : n < 6 then some (⟨n, h⟩ : SlotIx) else none)
    (meaning := fun c => indexOf 6 c) h rfl rfl rfl htakes (fun _ => rfl) old.preferred
  have held {n : Nat} {field : Byte} {lo hi : Int} (hn : field.toNat = n) (hkind : hubFields n = some (.num lo hi))
      (hrange : hubRanges.lookup field = some (lo, hi)) (old : Int) :
      (numberWritten items n).getD old = heldNumber hubRanges raws field old :=
    numberWritten_held h hn hkind hrange htakes old
  have hclass := codeWritten_held (n := 1) (field := 1) h rfl rfl rfl htakes loopClassOf_code old.loopClass
  have hflag := flagWritten_held (n := 5) (field := 5) h rfl rfl rfl htakes old.revertive
  rw [hubWritten, ← hpreferred, ← hclass, ← hflag, ← held (n := 2) (field := 2) rfl rfl rfl,
    ← held (n := 3) (field := 3) rfl rfl rfl, ← held (n := 4) (field := 4) rfl rfl rfl, writeHubSettings]
  cases codeWritten items 6 <;> rfl

/-- The code of the preferred slot is none or names a slot (R65, R198). -/
theorem preferredCodeOk_eq (h : decodeItems hubFields raws = some items) (htakes : takesItems hubFields raws = true) :
    preferredCodeOk items = true ↔ ∀ c : Byte, valueOf raws 6 = some [c] → c.toNat < 6 ∨ c = 0xFF#8 := by
  have hcode := codeWritten_eq (n := 6) (field := 6#8) h rfl rfl rfl htakes
  rw [preferredCodeOk, hcode]
  cases hv : valueOf raws 6 with
  | none => simp [heldCode, show valueOf raws 6#8 = none from hv]
  | some bytes =>
    obtain ⟨c, rfl, _⟩ := valueOf_oneByte (field := 6#8) htakes rfl rfl hv
    have hnone : c.toNat = 255 ↔ c = 0xFF#8 := byte_eq_iff c 0xFF#8
    simp [heldCode, show valueOf raws 6#8 = some [c] from hv, hnone]

theorem setHub_eq (hfit : itemsFit 251 raws = true) (hadmits : hubAdmits raws = true) (p : Part)
    (hcode : ∀ c : Byte, valueOf raws 6 = some [c] → c.toNat < 6 ∨ c = 0xFF#8) :
    setHub (joinItems raws) p =
      (if p.hub.settings.preferred = (hubWritten raws p.hub.settings).preferred ∧
          p.hub.settings.revertive = (hubWritten raws p.hub.settings).revertive then
        withHub (fun h => { h with settings := hubWritten raws p.hub.settings }) p
      else choose .better (withHub (fun h => { h with settings := hubWritten raws p.hub.settings }) p),
      { code := .done, clamped := clampsAny hubRanges raws }) := by
  have htakes := (hubAdmits_eq raws).symm.trans hadmits
  obtain ⟨items, hitems, hread⟩ := readItems_joinItems hfit htakes
  have hok := (preferredCodeOk_eq hitems htakes).2 hcode
  simp only [setHub, hread, hok, writeHubSettings_eq hitems htakes, anyClamped_eq hubRanges_of hitems]
  rfl

/-- What a SET makes of the hub settings (R65). -/
theorem setHub_clauses (hready : s.part.Ready) (hne : raws ≠ []) (hfit : itemsFit 251 raws = true) :
    (hubAdmits raws = false →
      Completes (.setHubRecord tag index raws) s (s.part.answer 0x11#8 tag { code := .badRequest })) ∧
    (∀ c : Byte, hubAdmits raws = true → valueOf raws 6 = some [c] → 6 ≤ c.toNat → c ≠ 0xFF#8 →
      Completes (.setHubRecord tag index raws) s (s.part.answer 0x11#8 tag { code := .noSuch })) ∧
    ∀ w : HubSettings, hubAdmits raws = true →
      (∀ c : Byte, valueOf raws 6 = some [c] → c.toNat < 6 ∨ c = 0xFF#8) → w = hubWritten raws s.part.hub.settings →
      (w.preferred = s.part.hub.settings.preferred → w.revertive = s.part.hub.settings.revertive →
        Completes (.setHubRecord tag index raws) s
          ({ s.part with hub := { s.part.hub with settings := w } }.answer 0x11#8 tag
            { code := .done, clamped := clampsAny hubRanges raws })) ∧
      ∃ t : State, exec (.setHubRecord tag index raws) s = .next t ∧ t.pending = s.pending ∧
        t.part.mgmt = (s.part.answer 0x11#8 tag { code := .done, clamped := clampsAny hubRanges raws }).mgmt ∧
        t.part.hub.settings = w ∧ KeepsTables s.part t.part ∧ KeepsBase s.part t.part ∧
        t.part.inputs = s.part.inputs ∧ t.part.slots = s.part.slots := by
  refine ⟨fun hbad => completes_set rfl hready hne hfit ?_, fun c hadmits hc hsix hnone => completes_set rfl hready hne hfit ?_,
    fun w hadmits hcode hw => ⟨fun hpreferred hrevertive => completes_set rfl hready hne hfit ?_, ?_⟩⟩
  · change setHub (joinItems raws) s.part = _
    rw [setHub, readItems_eq_none hfit ((hubAdmits_eq raws).symm.trans hbad)]
    rfl
  · have htakes := (hubAdmits_eq raws).symm.trans hadmits
    obtain ⟨items, hitems, hread⟩ := readItems_joinItems hfit htakes
    have hnot : preferredCodeOk items = false := by
      rw [← Bool.not_eq_true, preferredCodeOk_eq hitems htakes]
      intro h
      exact (h c hc).elim (fun hlt => absurd hlt (Nat.not_lt.2 hsix)) hnone
    change setHub (joinItems raws) s.part = _
    simp only [setHub, hread, hnot]
    rfl
  · subst hw
    change setHub (joinItems raws) s.part = _
    rw [setHub_eq hfit hadmits s.part hcode, if_pos ⟨hpreferred.symm, hrevertive.symm⟩]
    rfl
  · subst hw
    have hset := setHub_eq hfit hadmits s.part hcode
    have written := (Within.refl .choosing s.part).withHub Access.choosing_choice.hub
      (fun h => { h with settings := hubWritten raws s.part.hub.settings })
    have hwithin := Within.ite (c := s.part.hub.settings.preferred = (hubWritten raws s.part.hub.settings).preferred ∧
      s.part.hub.settings.revertive = (hubWritten raws s.part.hub.settings).revertive) written
      (written.choose Access.choosing_choice .better)
    refine ⟨_, completes_set rfl hready hne hfit hset, rfl, answered_mgmt hwithin.mgmt hwithin.alarm.settings, ?_,
      answered_keepsTables (hwithin.keepsTables nofun nofun nofun nofun), answered_keepsBase (hwithin.keepsBase nofun),
      by simpa using hwithin.inputs_eq nofun, by simpa using hwithin.slots_eq nofun⟩
    rw [settle_hub, answer_hub]
    split
    · rfl
    · exact choose_hub_settings _ _

/-! ## Table 6 (R183) -/

theorem thresholdOf_code (c : Byte) : thresholdOf c.toNat = thresholdNamed c := by
  revert c
  decide

theorem lineMode_code (c : Byte) :
    (if c.toNat = 0 then LineMode.level else LineMode.pulse) = if c = 0 then LineMode.level else LineMode.pulse :=
  if_congr (byte_eq_iff c 0) rfl rfl

theorem polarity_code (c : Byte) :
    (if c.toNat = 0 then Polarity.activeHigh else Polarity.activeLow) =
      if c = 0 then Polarity.activeHigh else Polarity.activeLow :=
  if_congr (byte_eq_iff c 0) rfl rfl

/-- The pulse width written is the largest listed one not above the number (R183). -/
theorem widthWritten_eq (h : decodeItems alarmFields raws = some items) (htakes : takesItems alarmFields raws = true) :
    numberWritten items 9 = (valueOf raws 9).map (fun bytes => listedWidth (signedNumberOf bytes)) := by
  rw [numberWritten, findSome_decoded (field := 9) (kind := .pulseWidth) _ rfl ?other ?self h]
  case other =>
    intro m value hm _
    cases value with
    | num v c => exact if_neg hm
    | code _ => rfl
    | ident _ => rfl
  case self =>
    intro bytes value hvalue
    rw [decodeValue] at hvalue
    split at hvalue
    · obtain rfl := Option.some.inj hvalue
      rfl
    · simp at hvalue
  cases hv : valueOf raws 9 with
  | none => rfl
  | some bytes =>
    have htaken := valueOf_takes htakes hv
    change (decodeValue .pulseWidth bytes).isSome = true at htaken
    have hlen : bytes.length = 4 := by simpa [decodeValue_pulseWidth_isSome] using htaken
    simp [decodeValue, hlen]

theorem listedWidth_eq (v : Int) :
    listedWidth v = if v < 2 then 1 else if v < 4 then 2 else if v < 8 then 4 else 8 := by
  unfold listedWidth
  split_ifs <;> omega

/-- The alarm settings as a SET leaves them (R183). -/
def alarmWritten (raws : List RawItem) (a : AlarmSettings) : AlarmSettings :=
  { recordThreshold := heldCode raws 1 thresholdNamed a.recordThreshold
    slotThreshold := heldCode raws 2 thresholdNamed a.slotThreshold
    hubThreshold := heldCode raws 3 thresholdNamed a.hubThreshold
    coalescing := heldFlag raws 4 a.coalescing
    almMode := heldCode raws 5 (fun c => if c = 0 then .level else .pulse) a.almMode
    almPolarity := heldCode raws 6 (fun c => if c = 0 then .activeHigh else .activeLow) a.almPolarity
    mgtMode := heldCode raws 7 (fun c => if c = 0 then .level else .pulse) a.mgtMode
    mgtPolarity := heldCode raws 8 (fun c => if c = 0 then .activeHigh else .activeLow) a.mgtPolarity
    pulseWidth :=
      match valueOf raws 9 with
      | none => a.pulseWidth
      | some v =>
        if signedNumberOf v < 2 then 1 else if signedNumberOf v < 4 then 2
        else if signedNumberOf v < 8 then 4 else 8 }

theorem writeAlarmSettings_eq (h : decodeItems alarmFields raws = some items) (htakes : takesItems alarmFields raws = true)
    (a : AlarmSettings) : writeAlarmSettings items a = alarmWritten raws a := by
  have code {α : Type} {n : Nat} {field : Byte} {kind : FieldKind} (hn : field.toNat = n) (hkind : alarmFields n = some kind)
      (hone : kind.oneByte = true) {read : Nat → α} {meaning : Byte → α} (hmeaning : ∀ c : Byte, read c.toNat = meaning c)
      (old : α) : ((codeWritten items n).map read).getD old = heldCode raws field meaning old :=
    codeWritten_held h hn hkind hone htakes hmeaning old
  have hflag := flagWritten_held (n := 4) (field := 4) h rfl rfl rfl htakes a.coalescing
  rw [writeAlarmSettings, code (n := 1) (field := 1) rfl rfl rfl thresholdOf_code,
    code (n := 2) (field := 2) rfl rfl rfl thresholdOf_code, code (n := 3) (field := 3) rfl rfl rfl thresholdOf_code,
    code (n := 5) (field := 5) rfl rfl rfl lineMode_code, code (n := 7) (field := 7) rfl rfl rfl lineMode_code,
    code (n := 6) (field := 6) rfl rfl rfl polarity_code, code (n := 8) (field := 8) rfl rfl rfl polarity_code, hflag,
    widthWritten_eq h htakes, alarmWritten]
  cases valueOf raws 9 with
  | none => rfl
  | some v =>
    rw [Option.map_some, Option.getD_some, listedWidth_eq]

theorem lineAfterSettings_eq (changed : Bool) (l : PulseLine) :
    lineAfterSettings changed l = if changed = false then l else lineChanged l := by
  cases changed with
  | false => rfl
  | true =>
    cases hphase : l.phase <;> simp [lineAfterSettings, lineChanged, PulseLine.endPulse, hphase]

theorem unchanged_iff (m n : LineMode) (p q : Polarity) : (m != n || p != q) = false ↔ n = m ∧ q = p := by
  rw [Bool.or_eq_false_iff, bne_eq_false_iff_eq, bne_eq_false_iff_eq, @eq_comm _ m n, @eq_comm _ p q]

/-- The number clamped on table 6 is the pulse width, when it is not a listed one (R183, R191). -/
theorem widthClamped (v : Int) : (listedWidth v != v) = decide (v ∉ [1, 2, 4, 8]) := by
  rw [Bool.eq_iff_iff, bne_iff_ne, decide_eq_true_eq]
  simp only [List.mem_cons, List.not_mem_nil, or_false]
  unfold listedWidth
  split_ifs <;> omega

theorem alarmClamped_item {raw : RawItem} {kind : FieldKind} {value : FieldValue}
    (hkind : alarmFields raw.field.toNat = some kind) (hvalue : decodeValue kind raw.value = some value) :
    value.clamped = (decide (raw.field = 9) && decide (signedNumberOf raw.value ∉ [1, 2, 4, 8])) := by
  by_cases hfield : raw.field = 9
  · have hwidth : kind = .pulseWidth := by
      rw [hfield] at hkind
      exact (Option.some.inj hkind).symm
    subst hwidth
    rw [decodeValue] at hvalue
    split at hvalue
    · obtain rfl := Option.some.inj hvalue
      rw [decide_eq_true hfield, Bool.true_and, ← widthClamped]
      rfl
    · simp at hvalue
  · have hone : kind.oneByte = true := by
      have hne : raw.field.toNat ≠ 9 := fun h => hfield ((byte_eq_iff raw.field 9).1 h)
      unfold alarmFields at hkind
      split at hkind <;> simp_all [onOff, FieldKind.oneByte] <;> simp [← hkind]
    obtain ⟨c, _, rfl⟩ := decodeValue_oneByte hone hvalue
    rw [decide_eq_false hfield, Bool.false_and]
    rfl

theorem alarmClamped : ∀ {raws : List RawItem} {items : List Item}, decodeItems alarmFields raws = some items →
    anyClamped items = raws.any (fun raw => decide (raw.field = 9) && decide (signedNumberOf raw.value ∉ [1, 2, 4, 8]))
  | [], items, h => by
    obtain rfl := Option.some.inj h
    rfl
  | raw :: rest, items, h => by
    rw [decodeItems_cons, Option.bind_eq_some_iff] at h
    obtain ⟨value, hvalue, h⟩ := h
    obtain ⟨others, hothers, rfl⟩ := Option.map_eq_some_iff.1 h
    obtain ⟨kind, hkind, hdecoded⟩ := Option.bind_eq_some_iff.1 hvalue
    rw [anyClamped_cons, alarmClamped hothers, List.any_cons, alarmClamped_item hkind hdecoded]

/-- With each field named once, a property of the items of a field is that of the value that they give it. -/
theorem any_field {field : Byte} {f : List Byte → Bool} :
    ∀ {raws : List RawItem}, (raws.map RawItem.field).Nodup →
      raws.any (fun raw => decide (raw.field = field) && f raw.value) = (valueOf raws field).any f
  | [], _ => rfl
  | raw :: rest, h => by
    rw [List.map_cons, List.nodup_cons] at h
    rw [List.any_cons, valueOf_cons, any_field h.2]
    by_cases hfield : raw.field = field
    · have hrest : valueOf rest field = none := by
        rw [valueOf, Option.map_eq_none_iff, List.find?_eq_none]
        intro it hit heq
        exact h.1 (List.mem_map.2 ⟨it, hit, (beq_iff_eq.1 heq).trans hfield.symm⟩)
      simp [hfield, hrest]
    · simp [hfield]

theorem setAlarm_clauses (hready : s.part.Ready) (hne : raws ≠ []) (hfit : itemsFit 251 raws = true) :
    (alarmAdmits raws = false →
      Completes (.setAlarmSettings tag index raws) s (s.part.answer 0x11#8 tag { code := .badRequest })) ∧
    ∀ a w : AlarmSettings, alarmAdmits raws = true → a = s.part.alarm.settings → w = alarmWritten raws a →
      Completes (.setAlarmSettings tag index raws) s
        ({ s.part with
            alarm := { s.part.alarm with
              settings := w
              alm :=
                if w.almMode = a.almMode ∧ w.almPolarity = a.almPolarity then s.part.alarm.alm
                else lineChanged s.part.alarm.alm }
            mgmt := { s.part.mgmt with
              mgt :=
                if w.mgtMode = a.mgtMode ∧ w.mgtPolarity = a.mgtPolarity then s.part.mgmt.mgt
                else lineChanged s.part.mgmt.mgt } }.answer 0x11#8 tag
          { code := .done
            clamped := (valueOf raws 9).any (fun v => decide (signedNumberOf v ∉ [1, 2, 4, 8])) }) := by
  refine ⟨fun hbad => completes_set rfl hready hne hfit ?_, fun a w hadmits ha hw => completes_set rfl hready hne hfit ?_⟩
  · change setAlarm (joinItems raws) s.part = _
    rw [setAlarm, readItems_eq_none hfit ((alarmAdmits_eq raws).symm.trans hbad)]
    rfl
  · subst ha hw
    have htakes := (alarmAdmits_eq raws).symm.trans hadmits
    obtain ⟨items, hitems, hread⟩ := readItems_joinItems hfit htakes
    have hnodup : (raws.map RawItem.field).Nodup := of_decide_eq_true ((Bool.and_eq_true _ _).mp htakes).1
    change setAlarm (joinItems raws) s.part = _
    simp only [setAlarm, hread, writeAlarmSettings_eq hitems htakes, lineAfterSettings_eq, unchanged_iff,
      alarmClamped hitems, any_field (field := 9) (f := fun v => decide (signedNumberOf v ∉ [1, 2, 4, 8])) hnodup]

end Sets

end Sys2Proof.Machine

/-! SUPPORT. SET on table 1 (R41, R52, R60, R61), and the settlement of the SETs. -/

namespace Sys2Proof.Machine

section Written

variable {raws : List RawItem} {items : List Item} {k : SlotIx}

/-- The slot record as a SET's numbers leave it (R52). -/
def slotWritten (k : SlotIx) (raws : List RawItem) (r : SlotRecord) : SlotRecord :=
  { r with
    priority := heldNumber (slotRanges k) raws 2 r.priority, wtr := heldNumber (slotRanges k) raws 3 r.wtr
    holdOff := heldNumber (slotRanges k) raws 4 r.holdOff
    jumpLimit := heldNumber (slotRanges k) raws 5 r.jumpLimit
    acceptLimit := heldNumber (slotRanges k) raws 6 r.acceptLimit
    cableDelay := heldNumber (slotRanges k) raws 7 r.cableDelay
    allowance := heldNumber (slotRanges k) raws 8 r.allowance
    freqBound := heldNumber (slotRanges k) raws 9 r.freqBound }

/-- A number of a slot is held in its range, or kept when its kind of slot does not have it (R39). -/
theorem slotNumber_held (h : decodeItems (slotFields k) raws = some items) (htakes : takesItems (slotFields k) raws = true)
    {n : Nat} {field : Byte} (hn : field.toNat = n)
    (hkind : (∃ lo hi, slotFields k n = some (.num lo hi) ∧ (slotRanges k).lookup field = some (lo, hi)) ∨
      slotFields k n = none ∧ (slotRanges k).lookup field = none) (old : Int) :
    (numberWritten items n).getD old = heldNumber (slotRanges k) raws field old := by
  obtain ⟨lo, hi, hkind, hrange⟩ | ⟨hkind, hrange⟩ := hkind
  · exact numberWritten_held h hn hkind hrange htakes old
  · exact numberWritten_kept h hkind hrange old

theorem writeSlot_eq (h : decodeItems (slotFields k) raws = some items) (htakes : takesItems (slotFields k) raws = true)
    (r : SlotRecord) : writeSlot items r = slotWritten k raws r := by
  have held {n : Nat} {field : Byte} := slotNumber_held h htakes (n := n) (field := field)
  rw [slotWritten, ← held (n := 2) (field := 2) rfl (.inl ⟨0, 8, rfl, rfl⟩),
    ← held (n := 3) (field := 3) rfl (.inl ⟨0, 3600, rfl, rfl⟩), ← held (n := 4) (field := 4) rfl (.inl ⟨0, 30, rfl, rfl⟩),
    ← held (n := 5) (field := 5) rfl ?jump, ← held (n := 6) (field := 6) rfl ?accept, ← held (n := 7) (field := 7) rfl ?cable,
    ← held (n := 8) (field := 8) rfl ?allowance, ← held (n := 9) (field := 9) rfl ?freq]
  · rfl
  case jump => fin_cases k <;> exact .inl ⟨_, _, rfl, rfl⟩
  case accept =>
    fin_cases k
    · exact .inl ⟨_, _, rfl, rfl⟩
    · exact .inl ⟨_, _, rfl, rfl⟩
    all_goals exact .inr ⟨rfl, rfl⟩
  case cable =>
    fin_cases k
    · exact .inl ⟨_, _, rfl, rfl⟩
    · exact .inl ⟨_, _, rfl, rfl⟩
    all_goals exact .inr ⟨rfl, rfl⟩
  case allowance => fin_cases k <;> exact .inl ⟨_, _, rfl, rfl⟩
  case freq =>
    by_cases hk : k = lineSlot
    · subst hk
      exact .inl ⟨_, _, rfl, rfl⟩
    · refine .inr ⟨if_neg hk, ?_⟩
      fin_cases k <;> first | rfl | exact absurd rfl hk

/-- The enabled field is written at slots 0 to 3 (R39). -/
theorem slotFlag_kind (k : SlotIx) : slotFields k 1 = some onOff ∨ slotFields k 1 = none := by
  by_cases hk : k.val ≤ 3
  · exact .inl (if_pos hk)
  · exact .inr (if_neg hk)

/-- A field that the table does not have is not written. -/
theorem codeWritten_absent {kindOf : Nat → Option FieldKind} (h : decodeItems kindOf raws = some items) {n : Nat}
    (hkind : kindOf n = none) : codeWritten items n = none := by
  have hfield : ∀ it ∈ items, it.field ≠ n := by
    intro it hit hn
    obtain ⟨kind, _, hk, _⟩ := decodeItems_mem h it hit
    rw [hn, hkind] at hk
    simp at hk
  rw [codeWritten, List.findSome?_eq_none_iff]
  intro it hit
  cases it.value <;> simp [hfield it hit]

theorem slotFlag_written (h : decodeItems (slotFields k) raws = some items) (htakes : takesItems (slotFields k) raws = true) :
    flagWritten items 1 = heldCode raws 1 (fun c => some (c == 1)) none := by
  obtain hkind | hkind := slotFlag_kind k
  · exact flagWritten_eq (n := 1) (field := 1) h rfl hkind rfl htakes
  · rw [flagWritten, codeWritten_absent h hkind, heldCode]
    cases hv : valueOf raws 1 with
    | none => rfl
    | some bytes =>
      have htaken := valueOf_takes htakes hv
      rw [show slotFields k (1 : Byte).toNat = none from hkind] at htaken
      exact absurd htaken (by simp)

theorem slotFlag_none (h : decodeItems (slotFields k) raws = some items) (htakes : takesItems (slotFields k) raws = true)
    (hv : valueOf raws 1 = none) : flagWritten items 1 = none := by
  rw [slotFlag_written h htakes, heldCode, hv]

theorem slotFlag_off (h : decodeItems (slotFields k) raws = some items) (htakes : takesItems (slotFields k) raws = true)
    (hv : valueOf raws 1 = some [0]) : flagWritten items 1 = some false := by
  rw [slotFlag_written h htakes, heldCode, hv]
  rfl

theorem slotFlag_on (h : decodeItems (slotFields k) raws = some items) (htakes : takesItems (slotFields k) raws = true)
    (hv : valueOf raws 1 = some [1]) : flagWritten items 1 = some true := by
  rw [slotFlag_written h htakes, heldCode, hv]
  rfl

end Written

/-! ## The enabled field (R41) -/

theorem enterDisabled_input (k : SlotIx) (p : Part) :
    (enterDisabled k p).input k =
      { last := (p.input k).last.map (fun s => { s with fresh := false }), completed := (p.input k).completed
        discardMessages := (p.input k).discardMessages } := input_setInput_self _ _ _

theorem leaveDisabled_input (k : SlotIx) (p : Part) :
    (leaveDisabled k p).input k =
      { last := (p.input k).last, completed := (p.input k).completed, discardMessages := (p.input k).discardMessages } :=
  input_setInput_self _ _ _

/-- A slot that enters DISABLED holds neither FAILED nor FORCED (R41). -/
theorem enterDisabled_standing (k : SlotIx) (p : Part) :
    (enterDisabled k p).alarm.standingOf (.slot k) &&& 0x0003#16 = 0#16 := by
  have cleared (c : Condition) (hc : c.standing = true) (q : Part) :
      hasCondition ((clearSlot c k q).alarm.standingOf (.slot k)) c = false :=
    take_cleared (r := slotReport c false k q) rfl hc
  have hforced : hasCondition ((enterDisabled k p).alarm.standingOf (.slot k)) .forced = false := cleared .forced rfl _
  have hfailed : hasCondition ((enterDisabled k p).alarm.standingOf (.slot k)) .failed = false :=
    take_stays_clear rfl (cleared .failed rfl _)
  refine BitVec.eq_of_getLsbD_eq fun n hn => ?_
  rw [BitVec.getLsbD_and]
  obtain hlow | hhigh := Nat.lt_or_ge n 2
  · have hclear : ((enterDisabled k p).alarm.standingOf (.slot k)).getLsbD n = false := by
      interval_cases n
      · exact hfailed
      · exact hforced
    simp [hclear]
  · have hmask : (0x0003#16).getLsbD n = false := by
      interval_cases n <;> rfl
    simp [hmask]

section Sets

variable {s : State} {tag index : Byte} {raws : List RawItem} {items : List Item} {k : SlotIx}

theorem setSlotFields_within (k : SlotIx) (items : List Item) (p : Part) :
    Within (.choosingSlot k) p (setSlotFields k items p) := by
  have hk := Access.choosingSlot_slot k
  have written := (Within.refl (.choosingSlot k) p).withSlot hk.slot (writeSlot items)
  have enabled : Within (.choosingSlot k) p (writeEnabled items k (withSlot k (writeSlot items) p)) := by
    unfold writeEnabled
    split
    · exact .ite (written.leaveDisabled hk) written
    · exact .ite written (written.enterDisabled hk)
    · exact written
  exact .ite enabled (enabled.choose (Access.choosingSlot_choice k) _)

/-- What the enabled field makes of a slot whose fields have been written, and the choice that follows a change. -/
theorem setSlotFields_eq (h : decodeItems (slotFields k) raws = some items) (htakes : takesItems (slotFields k) raws = true)
    (p : Part) :
    setSlotFields k items p =
      if ((writeEnabled items k (p.setSlot k (slotWritten k raws (p.slot k)))).slot k).state = (p.slot k).state ∧
          ((writeEnabled items k (p.setSlot k (slotWritten k raws (p.slot k)))).slot k).priority = (p.slot k).priority then
        writeEnabled items k (p.setSlot k (slotWritten k raws (p.slot k)))
      else
        choose (if ((writeEnabled items k (p.setSlot k (slotWritten k raws (p.slot k)))).slot k).state = .disabled then
          .disabled else .priority) (writeEnabled items k (p.setSlot k (slotWritten k raws (p.slot k)))) := by
  rw [setSlotFields, withSlot, writeSlot_eq h htakes]

theorem slotWritten_slot (k : SlotIx) (raws : List RawItem) (p : Part) :
    (p.setSlot k (slotWritten k raws (p.slot k))).slot k = slotWritten k raws (p.slot k) := slot_setSlot_self _ _ _

theorem writeEnabled_kept (h : decodeItems (slotFields k) raws = some items) (htakes : takesItems (slotFields k) raws = true)
    {p : Part} (hkept : valueOf raws 1 = none ∨ (valueOf raws 1 = some [1] ∧ (p.slot k).state ≠ .disabled) ∨
      (valueOf raws 1 = some [0] ∧ (p.slot k).state = .disabled)) :
    writeEnabled items k (p.setSlot k (slotWritten k raws (p.slot k))) = p.setSlot k (slotWritten k raws (p.slot k)) := by
  have hstate : ((p.setSlot k (slotWritten k raws (p.slot k))).slot k).state = (p.slot k).state := by rw [slotWritten_slot]; rfl
  unfold writeEnabled
  obtain hv | ⟨hv, hs⟩ | ⟨hv, hs⟩ := hkept
  · simp only [slotFlag_none h htakes hv]
  · simp only [slotFlag_on h htakes hv, hstate, if_neg hs]
  · simp only [slotFlag_off h htakes hv, hstate, if_pos hs]

/-- A slot turned off by a SET (R41, R52). -/
theorem setSlotFields_off (h : decodeItems (slotFields k) raws = some items) (htakes : takesItems (slotFields k) raws = true)
    {p : Part} (hv : valueOf raws 1 = some [0]) (hstate : (p.slot k).state ≠ .disabled) :
    setSlotFields k items p = choose .disabled (enterDisabled k (p.setSlot k (slotWritten k raws (p.slot k)))) := by
  have hkept : ((p.setSlot k (slotWritten k raws (p.slot k))).slot k).state = (p.slot k).state := by rw [slotWritten_slot]; rfl
  have hoff : writeEnabled items k (p.setSlot k (slotWritten k raws (p.slot k))) =
      enterDisabled k (p.setSlot k (slotWritten k raws (p.slot k))) := by
    unfold writeEnabled
    simp only [slotFlag_off h htakes hv, hkept, if_neg hstate]
  have hdisabled : ((enterDisabled k (p.setSlot k (slotWritten k raws (p.slot k)))).slot k).state = .disabled := by
    rw [enterDisabled_slot, if_pos rfl]
  rw [setSlotFields_eq h htakes, hoff, hdisabled, if_neg fun hs => hstate hs.1.symm, if_pos rfl]

/-- A slot turned on by a SET (R41, R52). -/
theorem setSlotFields_on (h : decodeItems (slotFields k) raws = some items) (htakes : takesItems (slotFields k) raws = true)
    {p : Part} (hv : valueOf raws 1 = some [1]) (hstate : (p.slot k).state = .disabled) :
    setSlotFields k items p = choose .priority (leaveDisabled k (p.setSlot k (slotWritten k raws (p.slot k)))) := by
  have hkept : ((p.setSlot k (slotWritten k raws (p.slot k))).slot k).state = (p.slot k).state := by rw [slotWritten_slot]; rfl
  have hon : writeEnabled items k (p.setSlot k (slotWritten k raws (p.slot k))) =
      leaveDisabled k (p.setSlot k (slotWritten k raws (p.slot k))) := by
    unfold writeEnabled
    simp only [slotFlag_on h htakes hv, hkept, if_pos hstate]
  have hcandidate : ((leaveDisabled k (p.setSlot k (slotWritten k raws (p.slot k)))).slot k).state = .candidate := by
    rw [leaveDisabled_slot, if_pos rfl]
  rw [setSlotFields_eq h htakes, hon, hcandidate, hstate, if_neg (by simp), if_neg (by simp)]

theorem setReference_done (hfit : itemsFit 251 raws = true) (hadmits : slotAdmits k raws = true)
    (hindex : indexOf 6 index = some k) (p : Part) :
    ∃ items, decodeItems (slotFields k) raws = some items ∧ takesItems (slotFields k) raws = true ∧
      setReference index (joinItems raws) p =
        (setSlotFields k items p, { code := .done, clamped := clampsAny (slotRanges k) raws }) := by
  have htakes := (slotAdmits_eq k raws).symm.trans hadmits
  obtain ⟨items, hitems, hread⟩ := readItems_joinItems hfit htakes
  exact ⟨items, hitems, htakes, by simp only [setReference, hindex, hread, anyClamped_eq (slotRanges_of k) hitems]⟩

/-- A SET on a slot that exists, whatever its items write (R41, R52). -/
theorem setSlot_done {r w : SlotRecord} (hready : s.part.Ready) (hne : raws ≠ []) (hfit : itemsFit 251 raws = true)
    (hindex : indexOf 6 index = some k) (hr : r = s.part.slot k) (hw : w = slotWritten k raws r)
    (hadmits : slotAdmits k raws = true) :
    ∃ t : State, exec (.setReferenceSlot tag index raws) s = .next t ∧ t.pending = s.pending ∧
      t.part.mgmt =
        (s.part.answer 0x11#8 tag { code := .done, clamped := clampsAny (slotRanges k) raws }).mgmt ∧
      KeepsTables s.part t.part ∧ KeepsBase s.part t.part ∧ KeepsOtherSlots k s.part t.part ∧
      (valueOf raws 1 = some [0] → r.state ≠ .disabled →
        t.part.slot k =
          { w with
            state := .disabled, enabled := false, goodRun := 0, badRun := 0, outlierRun := 0, forced := false } ∧
        t.part.input k =
          { last := (s.part.input k).last.map (fun x => { x with fresh := false })
            completed := (s.part.input k).completed, discardMessages := (s.part.input k).discardMessages } ∧
        t.part.selected ≠ some k ∧ t.part.alarm.standingOf (.slot k) &&& 0x0003#16 = 0#16) ∧
      (valueOf raws 1 = some [1] → r.state = .disabled →
        t.part.slot k =
          { w with
            state := .candidate, enabled := true, goodRun := 0, badRun := 0, outlierRun := 0, forced := false } ∧
        t.part.input k =
          { last := (s.part.input k).last, completed := (s.part.input k).completed
            discardMessages := (s.part.input k).discardMessages }) ∧
      (named raws 1 = false → t.part.slot k = w ∧ t.part.inputs = s.part.inputs) := by
  subst hr hw
  obtain ⟨items, hitems, htakes, hset⟩ := setReference_done hfit hadmits hindex s.part
  have hwithin := setSlotFields_within k items s.part
  have hdone := completes_set (c := .setReferenceSlot tag index raws) (tag := tag) (table := 1) rfl hready hne hfit hset
  refine ⟨_, hdone, rfl, answered_mgmt hwithin.mgmt hwithin.alarm.settings,
    answered_keepsTables (hwithin.keepsTables nofun nofun nofun nofun), answered_keepsBase (hwithin.keepsBase nofun),
    answered_keepsOtherSlots (hwithin.keepsOtherSlots fun _ h => h), fun hv hstate => ?_, fun hv hstate => ?_, fun hnamed => ?_⟩
  · have heq := setSlotFields_off hitems htakes hv hstate
    have hslot : (setSlotFields k items s.part).slot k =
        { slotWritten k raws (s.part.slot k) with
          state := .disabled, enabled := false, goodRun := 0, badRun := 0, outlierRun := 0, forced := false } := by
      rw [heq, choose_slot, enterDisabled_slot, if_pos rfl, slotWritten_slot]
    dsimp only
    rw [settle_slot, settle_input, settle_selected, settle_standingOf, answer_slot, answer_input, answer_selected, answer_alarm]
    refine ⟨hslot, ?_, ?_, ?_⟩
    · rw [heq, Part.input, choose_inputs]
      exact enterDisabled_input k (s.part.setSlot k (slotWritten k raws (s.part.slot k)))
    · rw [heq]
      refine choose_selected_ne ?_
      rw [Part.eligible, enterDisabled_slot, if_pos rfl]
      simp
    · rw [heq]
      refine Eq.trans ?_ (enterDisabled_standing k (s.part.setSlot k (slotWritten k raws (s.part.slot k))))
      congr 1
      exact BitVec.eq_of_getLsbD_eq fun n hn =>
        ((Within.refl .choosing _).choose Access.choosing_choice .disabled).alarm.marks (.slot k) n nofun
  · have heq := setSlotFields_on hitems htakes hv hstate
    have hslot : (setSlotFields k items s.part).slot k =
        { slotWritten k raws (s.part.slot k) with
          state := .candidate, enabled := true, goodRun := 0, badRun := 0, outlierRun := 0, forced := false } := by
      rw [heq, choose_slot, leaveDisabled_slot, if_pos rfl, slotWritten_slot]
    dsimp only
    rw [settle_slot, settle_input, answer_slot, answer_input]
    refine ⟨hslot, ?_⟩
    rw [heq, Part.input, choose_inputs]
    exact leaveDisabled_input k (s.part.setSlot k (slotWritten k raws (s.part.slot k)))
  · have hv : valueOf raws 1 = none := by simpa [named] using hnamed
    have hkept := writeEnabled_kept hitems htakes (p := s.part) (.inl hv)
    dsimp only
    rw [settle_slot, settle_inputs, answer_slot, answer_inputs, setSlotFields_eq hitems htakes, hkept]
    split
    · exact ⟨slotWritten_slot k raws s.part, rfl⟩
    · rw [choose_slot, choose_inputs]
      exact ⟨slotWritten_slot k raws s.part, rfl⟩

end Sets

/-- Settles O29: each table's SET by what its items write. -/
theorem setsWriteEveryNamedField : Obligations.SetsWriteEveryNamedField := by
  intro s tag index raws hready hne hfit
  obtain ⟨hbadRecord, hnoRecord⟩ := setRecord_clauses (s := s) (tag := tag) (index := index) hready hne hfit
  obtain ⟨hbadPair, hnoPair⟩ := setPair_clauses (s := s) (tag := tag) (index := index) hready hne hfit
  refine ⟨⟨hbadRecord, hnoRecord, fun i r hindex hr htakes => ?_⟩, ⟨fun hindex => ?_, fun k r w hindex hr hw => ?_⟩,
    setPort_clauses hready hne hfit, ⟨hbadPair, hnoPair, fun k r w hindex hr hadmits hw => ⟨fun hkept => ?_,
      fun hstate hon hoff => ?_, setPair_waits hready hne hfit hadmits hindex hr hw⟩⟩,
    setHub_clauses hready hne hfit, setOscillator_clauses hready hne hfit, setAlarm_clauses hready hne hfit⟩
  · obtain ⟨hvacant, hstate, hconflict⟩ := setRecord_refusals (tag := tag) hready hne hfit hindex hr htakes
    refine ⟨hvacant, hstate, hconflict, fun hlive hactive hreserved hfree => completes_setRecord hready hne hfit ?_⟩
    subst hr
    rw [setRecordRequest_cases hfit htakes hindex, if_neg hlive, if_neg hactive,
      if_neg fun h => h.2 (hreserved h.1), if_neg (by rw [identityElsewhere_none hfree]; exact Bool.false_ne_true)]
  · refine completes_set rfl hready hne hfit ?_
    change setReference index (joinItems raws) s.part = _
    rw [setReference, indexOf_eq_none hindex]
    rfl
  · refine ⟨fun hbad => completes_set rfl hready hne hfit ?_, fun hadmits hpriority hkept => ?_,
      setSlot_done hready hne hfit hindex hr hw⟩
    · change setReference index (joinItems raws) s.part = _
      rw [setReference, hindex]
      dsimp only
      rw [readItems_eq_none hfit ((slotAdmits_eq k raws).symm.trans hbad)]
      rfl
    · subst hr hw
      obtain ⟨items, hitems, htakes, hset⟩ := setReference_done hfit hadmits hindex s.part
      have hslot := slotWritten_slot k raws s.part
      rw [setSlotFields_eq hitems htakes, writeEnabled_kept hitems htakes hkept, hslot, if_pos ⟨rfl, hpriority⟩] at hset
      exact completes_set rfl hready hne hfit hset
  · subst hr hw
    exact completes_setPair hready hne hfit hadmits hindex fun items hitems htakes =>
      setPairFields_kept hitems htakes hkept
  · subst hr hw
    refine completes_setPair hready hne hfit hadmits hindex fun items hitems htakes => ?_
    have hflag : heldFlag raws 1 (s.part.pair k).revertive = false := hoff
    rw [setPairFields_eq hitems htakes, hflag, hon, if_neg (by simp)]
    simp only [hstate]
    rw [if_neg Bool.false_ne_true, withPair, pair_setPair_self]
    simp only [Part.setPair, Vector.set_set, pairWritten, hflag]

end Sys2Proof.Machine

/-! SUPPORT. The news of an owner under later reports, and the outcomes of a DELAY slot but for the ECHO: DISTRESS and the
missing ones (R108, R110, R125, R126, R130, R173, R174). -/

namespace Sys2Proof.Machine

/-! ## News that later reports leave (R173, R174, R176) -/

/-- An entry of an owner, in the list or in its notice in the buffer, is as said. -/
def Part.Carries (p : Part) (o : Owner) (shows : Entry → Prop) : Prop :=
  (∃ e ∈ p.alarm.list, e.owner = o ∧ shows e) ∨ ∃ n, p.alarm.buffer = some n ∧ n.entry.owner = o ∧ shows n.entry

theorem reported_iff {p : Part} {o : Owner} {c : Condition} {shows : Entry → Prop} :
    p.Reported o c shows ↔ p.Carries o (fun e => hasCondition e.raised c = true ∧ shows e) := Iff.rfl

/-- An entry in the list is there after one is put, changed where it is the owner's. -/
theorem mem_putEntry {a : AlarmUnit} {e : Entry} (o : Owner) (change : Entry → Entry) (new : Entry) (h : e ∈ a.list) :
    (if e.owner = o then change e else e) ∈ (a.putEntry o change new).list := by
  unfold AlarmUnit.putEntry
  split
  · exact List.mem_map.2 ⟨e, h, rfl⟩
  · next hnone =>
    have hne : e.owner ≠ o := fun ho => hnone (hasEntry_of_mem h ho)
    rw [if_neg hne]
    exact List.mem_append_left _ h

/-- A report merges into its owner's entry, or adds its record to the hub's entry; it leaves the other entries. -/
theorem mem_take {a : AlarmUnit} {e : Entry} (r : Report) (h : e ∈ a.list) :
    e ∈ (a.take r).list ∨ (e.owner = r.owner ∧ e.merge r ∈ (a.take r).list) ∨
      (e.owner = .hub ∧ r.ancillary = true ∧ ∃ i, e.coalesce i r.cause ∈ (a.take r).list) := by
  unfold AlarmUnit.take
  split
  · have hstanding : e ∈ (a.updateStanding r).list := by rwa [updateStanding_list]
    split
    · unfold AlarmUnit.enter
      split
      · next i hi =>
        have hmem := mem_putEntry .hub (fun x => x.coalesce i r.cause) (Entry.coalesced i r.cause) hstanding
        split at hmem
        · have hancillary : r.ancillary = true := by
            by_contra hnot
            rw [coalescedRecord_of_not_ancillary _ (by simpa using hnot)] at hi
            simp at hi
          exact .inr (.inr ⟨‹_›, hancillary, i, hmem⟩)
        · exact .inl hmem
      · have hmem := mem_putEntry r.owner (fun x => x.merge r) (Entry.fresh r) hstanding
        split at hmem
        · exact .inr (.inl ⟨‹_›, hmem⟩)
        · exact .inl hmem
    · exact .inl hstanding
  · exact .inl h

namespace Part.Carries

variable {p : Part} {o : Owner} {shows : Entry → Prop}

theorem mono {weaker : Entry → Prop} (h : p.Carries o shows) (himp : ∀ e, shows e → weaker e) : p.Carries o weaker := by
  obtain ⟨e, hmem, howner, hshows⟩ | ⟨n, hbuffer, howner, hshows⟩ := h
  · exact .inl ⟨e, hmem, howner, himp e hshows⟩
  · exact .inr ⟨n, hbuffer, howner, himp _ hshows⟩

/-- News that a merge of the report leaves as said stays news. -/
theorem report {r : Report} (h : p.Carries o shows) (hmerge : r.owner = o → ∀ e, shows e → shows (e.merge r))
    (hcoalesce : r.ancillary = true → o = .hub → ∀ i e, shows e → shows (e.coalesce i r.cause)) :
    (report r p).Carries o shows := by
  obtain ⟨e, hmem, rfl, hshows⟩ | ⟨n, hbuffer, howner, hshows⟩ := h
  · obtain hsame | ⟨howner, hmerged⟩ | ⟨howner, hancillary, i, hjoined⟩ := mem_take r hmem
    · exact .inl ⟨e, hsame, rfl, hshows⟩
    · exact .inl ⟨_, hmerged, rfl, hmerge howner.symm e hshows⟩
    · exact .inl ⟨_, hjoined, rfl, hcoalesce hancillary howner i e hshows⟩
  · exact .inr ⟨n, (take_buffer _ r).trans hbuffer, howner, hshows⟩

theorem loadIfDue (h : p.Carries o shows) : (loadIfDue p).Carries o shows := by
  unfold Machine.loadIfDue
  split
  · exact h
  · obtain ⟨hempty, first, rest, hlist, hload⟩ | ⟨_, hload⟩ := load_cases p.alarm
    · obtain ⟨e, hmem, hnews⟩ | ⟨n, hbuffer, _⟩ := h
      · rw [hlist, List.mem_cons] at hmem
        obtain rfl | hmem := hmem
        · exact .inr ⟨_, congrArg AlarmUnit.buffer hload, hnews⟩
        · exact .inl ⟨e, (congrArg AlarmUnit.list hload) ▸ hmem, hnews⟩
      · simp [hempty] at hbuffer
    · rw [hload]
      exact h

theorem settle (h : p.Carries o shows) (waiting : List Instr) : (settle waiting p).Carries o shows := by
  unfold Machine.settle
  split
  · exact h
  · exact h.loadIfDue

end Part.Carries

/-- What a raise leaves in its owner's notices stays under later reports of that owner that carry the same. -/
theorem Part.Reported.report {p : Part} {o : Owner} {c : Condition} {shows : Entry → Prop} {r : Report}
    (h : p.Reported o c shows) (hmerge : r.owner = o → ∀ e, shows e → shows (e.merge r)) (hne : o ≠ .hub) :
    (report r p).Reported o c shows := by
  refine reported_iff.2 ((reported_iff.1 h).report (fun howner e hshows => ⟨?_, hmerge howner e hshows.2⟩)
    fun _ hhub => absurd hhub hne)
  unfold Entry.merge
  dsimp only
  split
  · rw [hasCondition, BitVec.getLsbD_or]
    exact Bool.or_eq_true_iff.2 (.inl hshows.1)
  · exact hshows.1

/-! ## The leave of a slot outcome -/

/-- Leave for the outcome of a DELAY slot that is not an ECHO: the record with its notices, and the hub's entry, which a
coalesced raise joins (R176). -/
def Access.outcome (i : RecordIx) : Access :=
  { hub := False, step := False, slots := fun _ => False, records := fun j => j = i, ports := fun _ => False
    engines := fun _ => False, pairs := fun _ => False, owners := fun o => o = .hub ∨ o = .record i
    marks := fun o _ => o = .record i }

theorem Access.outcome_record (i : RecordIx) : (outcome i).Record i := ⟨rfl, .inr rfl, fun _ => rfl⟩

/-! ## DISTRESS (R110) -/

theorem takeDistress_within (q : PortIx) (i : RecordIx) (p : Part) : Within (.outcome i) p (takeDistress q i p) :=
  (Within.refl _ p).takeDistress (Access.outcome_record i) q

theorem takeDistress_record (q : PortIx) (i : RecordIx) (p : Part) :
    (takeDistress q i p).record i =
      { discardDelay (p.record i) with state := .pending, silentCount := 0, silentSeconds := 0, resetRequest := true } :=
  record_setRecord_self _ i _

theorem takeDistress_standing (q : PortIx) (i : RecordIx) (p : Part) :
    hasCondition ((takeDistress q i p).alarm.standingOf (.record i)) .silent = false ∧
      hasCondition ((takeDistress q i p).alarm.standingOf (.record i)) .teMarginal = false ∧
      hasCondition ((takeDistress q i p).alarm.standingOf (.record i)) .teExceeded = false := by
  let te := (p.record i).te
  let p1 := raiseRecord .distress q i p
  let p2 := clearTe .teMarginal te q i p1
  let p3 := clearTe .teExceeded te q i p2
  have marginal : hasCondition (p2.alarm.standingOf (.record i)) .teMarginal = false :=
    take_cleared (r := { recordPortReport .teMarginal false q i p1 with te := te }) rfl rfl
  have exceeded : hasCondition (p3.alarm.standingOf (.record i)) .teExceeded = false :=
    take_cleared (r := { recordPortReport .teExceeded false q i p2 with te := te }) rfl rfl
  have silent : hasCondition ((takeDistress q i p).alarm.standingOf (.record i)) .silent = false :=
    take_cleared (r := recordPortReport .silent false q i p3) rfl rfl
  have after3 (c : Condition) (h : hasCondition (p3.alarm.standingOf (.record i)) c = false) :
      hasCondition ((takeDistress q i p).alarm.standingOf (.record i)) c = false := take_stays_clear rfl h
  exact ⟨silent, after3 _ (take_stays_clear rfl marginal), after3 _ exceeded⟩

/-- The clears of a DISTRESS carry the port of the slot, as its raise does. -/
theorem takeDistress_reported (q : PortIx) (i : RecordIx) {p : Part}
    (h : p.alarm.settings.recordThreshold = some .note) :
    (takeDistress q i p).Reported (.record i) .distress (fun e => e.ports = some (portMask q)) := by
  let te := (p.record i).te
  let p1 := raiseRecord .distress q i p
  let p2 := clearTe .teMarginal te q i p1
  let p3 := clearTe .teExceeded te q i p2
  have raised : p1.Reported (.record i) .distress (fun e => e.ports = some (portMask q)) :=
    (reported_report (r := recordPortReport .distress true q i p) rfl rfl
      (atThreshold_of_note h rfl (Nat.le_add_left 1 _))).mono fun e shown => shown.ports _ rfl
  have marginal : p2.Reported (.record i) .distress (fun e => e.ports = some (portMask q)) :=
    raised.report (r := { recordPortReport .teMarginal false q i p1 with te := te }) (fun _ _ _ => rfl) nofun
  have exceeded : p3.Reported (.record i) .distress (fun e => e.ports = some (portMask q)) :=
    marginal.report (r := { recordPortReport .teExceeded false q i p2 with te := te }) (fun _ _ _ => rfl) nofun
  exact exceeded.report (r := recordPortReport .silent false q i p3) (fun _ _ _ => rfl) nofun

theorem distressReceived_live {q : PortIx} {t : SlotTarget} {characters : List LineChar} {p : Part}
    (hlive : p.LiveSlot q t) (hactivity : (p.engine q).activity = .response)
    (hdistress : acceptedResponse false characters = some .distress) :
    distressReceived q characters p = takeDistress q t.record (slotDecided q .none p) := by
  obtain ⟨hheld, hslot, htarget, hgeneration, hstate⟩ := hlive
  rw [distressReceived, if_pos hdistress, responseAccepted_target _ hheld hactivity hslot htarget,
    recordOutcome_live (p := slotDecided q .none p) _ _ _ hgeneration hstate, liveOutcome]

/-- Settles O35: the DISTRESS decides the slot, and its reports and its record are read off the decided part. -/
theorem distressStartsTheRecordAgain : Obligations.DistressStartsTheRecordAgain := by
  intro s q t characters hlive hactivity hdistress
  have hwithin := takeDistress_within q t.record (slotDecided q .none s.part)
  obtain ⟨hsilent, hmarginal, hexceeded⟩ := takeDistress_standing q t.record (slotDecided q .none s.part)
  refine ⟨_, completes_of_work (distressReceived_live hlive hactivity hdistress), rfl, ?_, ?_, ?_, ?_, ?_, ?_, ?_, ?_, ?_,
    ?_, ?_, ?_, ?_⟩
  · rw [settle_record, takeDistress_record]
    rfl
  · rwa [settle_standingOf]
  · rwa [settle_standingOf]
  · rwa [settle_standingOf]
  · exact fun h => (takeDistress_reported q t.record (p := slotDecided q .none s.part) h).settle _
  · rw [settle_port, hwithin.ports q nofun, slotDecided_port_self]
  · rw [settle_engine, hwithin.engines q nofun, slotDecided_engine_self]
  · intro j hj
    rw [settle_record]
    exact hwithin.records j hj
  · intro j hj
    rw [settle_port, settle_engine, hwithin.ports j nofun, hwithin.engines j nofun]
    exact slotDecided_keepsOtherPorts q .none s.part j hj
  · refine ⟨?_, ?_, ?_, ?_, ?_⟩
    · exact (settle_osc _ _).trans hwithin.osc
    · exact (settle_lineClock _ _).trans hwithin.lineClock
    · exact (settle_porn _ _).trans hwithin.porn
    · exact (settle_wrst _ _).trans hwithin.wrst
    · rw [settle_tb, hwithin.tb, hwithin.step nofun]
      rfl
  · rw [settle_hub, hwithin.hub nofun]
    rfl
  · rw [settle_slots, hwithin.slots_eq nofun]
    rfl
  · rw [settle_inputs, hwithin.inputs_eq nofun]
    rfl

end Sys2Proof.Machine

/-! SUPPORT. A slot that ends as missing, its time error judgement, and what the silent count comes to (R108, R125, R126,
R130, R149, R151). -/

namespace Sys2Proof.Machine

/-! ## A slot that is decided (R125, R126) -/

theorem withEngine_same (q : PortIx) (p : Part) : withEngine q (fun e => e) p = p := by
  simp [withEngine, Part.setEngine, Part.engine]

/-- The part `x` is the part `p` with the slot on a port decided, its engine at rest and its error the last slot error;
time may have come to another place in the second. -/
structure Part.Decided (p : Part) (q : PortIx) (error : SlotError) (x : Part) : Prop where
  osc       : x.osc = p.osc
  lineClock : x.lineClock = p.lineClock
  inputs    : x.inputs = p.inputs
  slots     : x.slots = p.slots
  selected  : x.selected = p.selected
  hub       : x.hub = p.hub
  records   : x.records = p.records
  pairs     : x.pairs = p.pairs
  alarm     : x.alarm = p.alarm
  mgmt      : x.mgmt = p.mgmt
  porn      : x.porn = p.porn
  wrst      : x.wrst = p.wrst
  error     : (x.port q).lastError = error
  activity  : (x.engine q).activity = .idle
  target    : (x.engine q).target = none
  others    : KeepsOtherPorts q p x

theorem decided_slotDecided (q : PortIx) (error : SlotError) (p : Part) (tb : TimeBase) (e : Engine) :
    p.Decided q error (slotDecided q error ({ p with tb := tb }.setEngine q e)) := by
  constructor
  case error => rw [slotDecided_port_self]
  case activity => rw [slotDecided_engine_self]
  case target => rw [slotDecided_engine_self]
  case others =>
    intro j hj
    obtain ⟨hport, hengine⟩ := slotDecided_keepsOtherPorts q error ({ p with tb := tb }.setEngine q e) j hj
    exact ⟨hport, hengine.trans (engine_setEngine_ne _ hj.symm e)⟩
  all_goals rfl

namespace Part.Decided

variable {p x y : Part} {q : PortIx} {error : SlotError} {A : Access}

theorem record (h : p.Decided q error x) (j : RecordIx) : x.record j = p.record j := by
  rw [Part.record, h.records, Part.record]

theorem slot (h : p.Decided q error x) (k : SlotIx) : x.slot k = p.slot k := by rw [Part.slot, h.slots, Part.slot]

theorem input (h : p.Decided q error x) (k : SlotIx) : x.input k = p.input k := by rw [Part.input, h.inputs, Part.input]

theorem held (h : p.Decided q error x) : x.held = p.held := by rw [Part.held, h.porn, h.wrst, Part.held]

theorem keepsOtherRecords {i : RecordIx} (h : p.Decided q error x) (g : Within A x y) (hA : ∀ j, A.records j → j = i) :
    KeepsOtherRecords i p y := fun j hj => (g.records j (mt (hA j) hj)).trans (h.record j)

theorem keepsOtherPorts (h : p.Decided q error x) (g : Within A x y) (hports : ∀ j, ¬ A.ports j)
    (hengines : ∀ j, ¬ A.engines j) : KeepsOtherPorts q p y := fun j hj =>
  ⟨(g.ports j (hports j)).trans (h.others j hj).1, (g.engines j (hengines j)).trans (h.others j hj).2⟩

end Part.Decided

/-- Keeps an engine at rest at rest. -/
def KeepsRest (tidy : Engine → Engine) : Prop :=
  ∀ e, e.activity = .idle → e.target = none → (tidy e).activity = .idle ∧ (tidy e).target = none

theorem keepsRest_same : KeepsRest (fun e => e) := fun _ ha ht => ⟨ha, ht⟩

theorem KeepsRest.engine {tidy : Engine → Engine} (h : KeepsRest tidy) {y : Part} {q : PortIx}
    (ha : (y.engine q).activity = .idle) (ht : (y.engine q).target = none) :
    ((withEngine q tidy y).engine q).activity = .idle ∧ ((withEngine q tidy y).engine q).target = none := by
  rw [withEngine, engine_setEngine_self]
  exact h _ ha ht

theorem withEngine_keepsOtherPorts (q : PortIx) (tidy : Engine → Engine) (y : Part) :
    KeepsOtherPorts q y (withEngine q tidy y) := fun _ hj => ⟨rfl, engine_setEngine_ne _ hj.symm _⟩

/-- The engine of a slot that begins, before it has something to send or a record to report to. -/
def slotBegun (s : PortSlot) (e : Engine) : Engine :=
  { e with slot := s, activity := .idle, target := none, t1 := none, t4 := none }

theorem keepsRest_slotBegun (s : PortSlot) : KeepsRest (slotBegun s) := fun _ _ _ => ⟨rfl, rfl⟩

/-- What is still open of a record's slot ends as missing when the next one begins. -/
def Part.StillOpen (p : Part) (q : PortIx) (error : SlotError) : Prop :=
  (p.engine q).activity = .window ∧ error = .noResponse ∨ (p.engine q).activity = .response ∧ error = .overrun ∨
    ∃ f, (p.engine q).activity = .driving f ∧ f.kind.expectsResponse = true ∧ error = .overrun

theorem endSlot_decides {p : Part} {q : PortIx} {error : SlotError} (hslot : (p.engine q).slot.isAddress = true)
    (h : p.StillOpen q error) : endSlot q p = decideSlot q .missing error p := by
  obtain ⟨hactivity, rfl⟩ | ⟨hactivity, rfl⟩ | ⟨f, hactivity, hexpects, rfl⟩ := h
  · have herror : silenceError (p.engine q).slot = .noResponse := by
      refine if_neg fun hopen => ?_
      simp [hopen, PortSlot.isAddress] at hslot
    simp only [endSlot, hactivity, herror]
  · simp only [endSlot, hactivity]
  · simp only [endSlot, hactivity, hexpects, if_true]

/-- Time within the second comes to another place and nothing else changes. -/
theorem elapseToMs_eq (ms : Nat) (p : Part) : ∃ tb, elapseToMs ms p = { p with tb := tb } := by
  unfold elapseToMs
  split
  · exact ⟨p.tb, rfl⟩
  · exact ⟨_, rfl⟩

/-- A slot of a record that ends as missing: what it is decided as, and how the outcome reaches the record. -/
theorem missesSlot_work {p : Part} {q : PortIx} {t : SlotTarget} {c : Instr} {cause : LineEvent} {error : SlotError}
    (hheld : p.held = false) (hslot : (p.engine q).slot.isAddress = true) (htarget : (p.engine q).target = some t)
    (h : p.MissesSlot q c cause error) :
    ∃ (x : Part) (t1 t4 : Option Stamp) (tidy : Engine → Engine), p.Decided q error x ∧ KeepsRest tidy ∧
      (c = .quietSlotStart q ∨ x.tb = p.tb) ∧
      commandWork c p = withEngine q tidy (recordOutcome q t t1 t4 .missing x) := by
  have plain : ({ p with tb := p.tb }).setEngine q (p.engine q) = p := withEngine_same q p
  have decidesNow (hwork : commandWork c p = decideSlot q .missing error p) :
      ∃ (x : Part) (t1 t4 : Option Stamp) (tidy : Engine → Engine), p.Decided q error x ∧ KeepsRest tidy ∧
        (c = .quietSlotStart q ∨ x.tb = p.tb) ∧
        commandWork c p = withEngine q tidy (recordOutcome q t t1 t4 .missing x) := by
    refine ⟨slotDecided q error p, (p.engine q).t1, (p.engine q).t4, fun e => e, ?_, keepsRest_same, .inr rfl, ?_⟩
    · have hdecided := decided_slotDecided q error p p.tb (p.engine q)
      rwa [plain] at hdecided
    · rw [withEngine_same, hwork, decideSlot_target _ _ htarget]
  obtain ⟨rfl, rfl, rfl, hactivity⟩ | ⟨characters, rfl, rfl, herror, hactivity⟩ | ⟨rfl, rfl, rfl, hactivity⟩ |
    ⟨f, bit, level, driven, rfl, rfl, rfl, hactivity, hdriven, hlevel⟩ := h
  · refine decidesNow ?_
    change windowClosed q p = _
    have herror : silenceError (p.engine q).slot = .noResponse := by
      refine if_neg fun hopen => ?_
      simp [hopen, PortSlot.isAddress] at hslot
    simp only [windowClosed, unlessHeld_of_free hheld, hactivity, herror]
  · refine decidesNow ?_
    change responseFailed q characters p = _
    have hopen : ((p.engine q).slot == .openSlot) = false := by
      refine beq_eq_false_iff_ne.2 fun hopen => ?_
      simp [hopen, PortSlot.isAddress] at hslot
    simp only [responseFailed, unlessHeld_of_free hheld, hactivity, hopen, herror]
  · obtain ⟨tb, htb⟩ := elapseToMs_eq (quietMs (p.engine q).slot) p
    refine ⟨_, (p.engine q).t1, (p.engine q).t4, slotBegun .quiet, decided_slotDecided q .overrun p tb (p.engine q),
      keepsRest_slotBegun _, .inl rfl, ?_⟩
    · have hengine : ({ p with tb := tb }).setEngine q (p.engine q) = { p with tb := tb } :=
        withEngine_same q { p with tb := tb }
      have hbefore : ({ p with tb := tb } : Part).held = false := hheld
      rw [hengine]
      change quietSlotStart q p = _
      rw [quietSlotStart, htb, unlessHeld_of_free hbefore, beginSlot,
        endSlot_decides (p := { p with tb := tb }) hslot (.inr (.inl ⟨hactivity, rfl⟩)),
        decideSlot_target (p := { p with tb := tb }) _ _ htarget]
      rfl
  · have hdiffers : f.differs bit level = true := (differs_iff f bit level).2 ⟨driven, hdriven, hlevel⟩
    refine ⟨_, (p.engine q).t1, (p.engine q).t4, fun e => e,
      decided_slotDecided q .readback p p.tb { p.engine q with aborted := true }, keepsRest_same, .inr rfl, ?_⟩
    · have haborted : commandWork (.readbackMismatch q bit level) p =
          decideSlot q .missing .readback (withEngine q (fun e => { e with aborted := true }) p) := by
        change frameAborted q bit level p = _
        simp only [frameAborted, unlessHeld_of_free hheld, hactivity, hdiffers, if_true]
      have hengine : (p.setEngine q { p.engine q with aborted := true }).engine q = { p.engine q with aborted := true } :=
        engine_setEngine_self _ _ _
      rw [withEngine_same, haborted, withEngine, decideSlot_target (t := t) _ _ (by rw [hengine]; exact htarget), hengine]

theorem runCause_of_misses {p : Part} {q : PortIx} {c : Instr} {cause : LineEvent} {error : SlotError}
    (h : p.MissesSlot q c cause error) : runCause (.line q cause) p = commandWork c p := by
  obtain ⟨rfl, rfl, _⟩ | ⟨characters, rfl, rfl, _⟩ | ⟨rfl, rfl, _⟩ | ⟨f, bit, level, driven, rfl, rfl, _⟩ := h <;> rfl

/-! ## Counting the slot, and the judgement (R148, R149, R151, R152) -/

/-- Only the window, the half-spread and the stale flag change when a slot is counted. -/
theorem countSlot_leaves (c : SlotCount) (r : ServiceRecord) :
    ∃ w h s, countSlot c r = { r with window := w, halfSpread := h, stale := s } := by
  unfold countSlot closeWindow
  split
  · split
    · split
      · exact ⟨_, _, _, rfl⟩
      · exact ⟨_, _, _, rfl⟩
    · exact ⟨_, _, _, rfl⟩
  · exact ⟨_, _, _, rfl⟩

/-- A record as its judgement leaves it, for the U that it reads: one without a filter as it was (R151, R152). -/
def judged (u : Int) (r : ServiceRecord) : ServiceRecord :=
  if r.filter.isSome then
    { r with te := some (u + r.linkTerm), teState := verdictOf (u + r.linkTerm) r.budget, prevLink := some r.linkTerm }
  else r

theorem judged_leaves (u : Int) (r : ServiceRecord) :
    ∃ te v l, judged u r = { r with te := te, teState := v, prevLink := l } := by
  unfold judged
  split
  · exact ⟨_, _, _, rfl⟩
  · exact ⟨_, _, _, rfl⟩

@[simp] theorem reportPair_record (c : Bool) (a b : Report) (p : Part) (i : RecordIx) :
    (reportPair c a b p).record i = p.record i := by
  unfold reportPair
  split
  · rfl
  · split <;> rfl

@[simp] theorem reportVerdict_record (a b : TeState) (te : Int) (x : Bool) (q : PortIx) (i j : RecordIx) (p : Part) :
    (reportVerdict a b te x q i p).record j = p.record j := by
  unfold reportVerdict
  dsimp only
  split
  all_goals simp

/-- A record with a filter is judged with the U that stands, and its verdict is reported. -/
theorem judgeTe_of_filter {q : PortIx} {i : RecordIx} {p : Part} (h : (p.record i).filter.isSome = true) :
    judgeTe q i p =
      reportVerdict (p.record i).teState (verdictOf (p.hub.bound + (p.record i).linkTerm) (p.record i).budget)
        (p.hub.bound + (p.record i).linkTerm)
        (ancillaryRaise (p.record i).prevLink (p.record i).linkTerm p.hub.causeNumber) q i
        (withRecord i (judged p.hub.bound) p) := by
  obtain ⟨f, hf⟩ := Option.isSome_iff_exists.1 h
  have hjudged : withRecord i (judged p.hub.bound) p =
      withRecord i (fun r => { r with
        te := some (p.hub.bound + (p.record i).linkTerm)
        teState := verdictOf (p.hub.bound + (p.record i).linkTerm) (p.record i).budget
        prevLink := some (p.record i).linkTerm }) p := by
    simp only [withRecord, judged, h, if_true]
  rw [hjudged]
  simp only [judgeTe, hf]

theorem judgeTe_of_none {q : PortIx} {i : RecordIx} {p : Part} (h : (p.record i).filter = none) : judgeTe q i p = p := by
  simp only [judgeTe, h]

theorem judgeTe_record (q : PortIx) (i : RecordIx) (p : Part) :
    (judgeTe q i p).record i = judged p.hub.bound (p.record i) := by
  by_cases h : (p.record i).filter.isSome = true
  · rw [judgeTe_of_filter h, reportVerdict_record, record_withRecord, if_pos rfl]
  · have hnone : (p.record i).filter = none := by simpa using h
    rw [judgeTe_of_none hnone, judged, if_neg h]

/-! ## A missing outcome (R108) -/

theorem measureMissing_record (q : PortIx) (i : RecordIx) (p : Part) :
    (measureMissing q i p).record i = judged p.hub.bound (countSlot .missed (p.record i)) := by
  rw [measureMissing, judgeTe_record, record_withRecord, if_pos rfl]
  rfl

theorem missing_within (q : PortIx) (i : RecordIx) (p : Part) :
    Within (.outcome i) p (countMissing q i (measureMissing q i p)) :=
  ((Within.refl _ p).measureMissing (Access.outcome_record i) (.inl rfl) q).countMissing (Access.outcome_record i) q

/-- What the silent count comes to: one more, and SILENT at the limit. -/
theorem countMissing_of_live {q : PortIx} {i : RecordIx} {p : Part}
    (h : (p.record i).state = .pending ∨ (p.record i).state = .active) :
    countMissing q i p =
      if (p.record i).silentLimit ≤ (p.record i).silentCount + 1 then
        raiseRecord .silent q i
          (withRecord i (fun r => { r with silentCount := r.silentCount + 1, state := .silent, silentSeconds := 0 }) p)
      else withRecord i (fun r => { r with silentCount := r.silentCount + 1 }) p := if_pos h

theorem countMissing_of_silent {q : PortIx} {i : RecordIx} {p : Part} (h : (p.record i).state = .silent) :
    countMissing q i p = p := if_neg (by simp [h])

/-- The fields of a record that a slot counted and judged leaves. -/
theorem measureMissing_leaves (q : PortIx) (i : RecordIx) (p : Part) :
    ∃ w h s te v l, (measureMissing q i p).record i =
      { p.record i with
        window := w, halfSpread := h, stale := s, te := te, teState := v, prevLink := l } := by
  obtain ⟨w, h, s, hcount⟩ := countSlot_leaves .missed (p.record i)
  obtain ⟨te, v, l, hjudged⟩ := judged_leaves p.hub.bound (countSlot .missed (p.record i))
  refine ⟨w, h, s, te, v, l, ?_⟩
  rw [measureMissing_record, hjudged, hcount]

/-- A missing outcome at a record that is not SILENT yet. -/
theorem missing_live {q : PortIx} {i : RecordIx} {p : Part}
    (hstate : (p.record i).state = .pending ∨ (p.record i).state = .active) :
    ((countMissing q i (measureMissing q i p)).record i).silentCount = (p.record i).silentCount + 1 ∧
      ((countMissing q i (measureMissing q i p)).record i).filter = (p.record i).filter ∧
      ((countMissing q i (measureMissing q i p)).record i).compensation = (p.record i).compensation ∧
      ((countMissing q i (measureMissing q i p)).record i).resetRequest = (p.record i).resetRequest ∧
      ((p.record i).silentLimit ≤ (p.record i).silentCount + 1 →
        ((countMissing q i (measureMissing q i p)).record i).state = .silent ∧
          ((countMissing q i (measureMissing q i p)).record i).silentSeconds = 0 ∧
          hasCondition ((countMissing q i (measureMissing q i p)).alarm.standingOf (.record i)) .silent = true) ∧
      ((p.record i).silentCount + 1 < (p.record i).silentLimit →
        ((countMissing q i (measureMissing q i p)).record i).state = (p.record i).state) := by
  obtain ⟨w, h, s, te, v, l, hmeasured⟩ := measureMissing_leaves q i p
  generalize measureMissing q i p = m at hmeasured
  have hlive : (m.record i).state = .pending ∨ (m.record i).state = .active := by rwa [hmeasured]
  have hlimit : (m.record i).silentLimit = (p.record i).silentLimit := by rw [hmeasured]
  have hcount : (m.record i).silentCount = (p.record i).silentCount := by rw [hmeasured]
  rw [countMissing_of_live hlive, hlimit, hcount]
  by_cases hreached : (p.record i).silentLimit ≤ (p.record i).silentCount + 1
  · rw [if_pos hreached]
    have hrecord (f : ServiceRecord → ServiceRecord) :
        (raiseRecord .silent q i (withRecord i f m)).record i = f (m.record i) := by
      rw [raiseRecord, report_record, record_withRecord, if_pos rfl]
    rw [hrecord, hmeasured]
    refine ⟨rfl, rfl, rfl, rfl, fun _ => ⟨rfl, rfl, ?_⟩, fun hnot => absurd hreached (by omega)⟩
    exact take_raised (r := recordPortReport .silent true q i _) rfl rfl
  · rw [if_neg hreached, record_withRecord, if_pos rfl, hmeasured]
    exact ⟨rfl, rfl, rfl, rfl, fun hyes => absurd hyes hreached, fun _ => rfl⟩

/-- A command that names what an occurrence brings about does the occurrence whole when it does bring it about. -/
theorem exec_of_cause {d : Instr} {c : Cause} {test : Part → Part → Bool} {s : State} {q : Part}
    (hexec : exec d s = commandDone (fun p => whenReached (test p (runCause c p)) (runCause c) p) s)
    (hcause : runCause c s.part = q) (htest : test s.part q = true) :
    exec d s = .next { s with part := settle s.pending q } := by
  rw [hexec, commandDone_next, whenReached, hcause, htest, if_pos rfl]

/-- Settles O36: the slot is decided, the outcome counted, and SILENT_ENTRY is the same work. -/
theorem missingOutcomesLeadToSilence : Obligations.MissingOutcomesLeadToSilence := by
  intro s q t c cause error hlive hnotSilent hmiss
  obtain ⟨hheld, hslot, htarget, hgeneration, hstate⟩ := hlive
  obtain ⟨x, t1, t4, tidy, hx, hrest, _, hwork⟩ := missesSlot_work hheld hslot htarget hmiss
  have hstate2 : (s.part.record t.record).state = .pending ∨ (s.part.record t.record).state = .active := by
    obtain h | h | h := hstate
    · exact .inl h
    · exact .inr h
    · exact absurd h hnotSilent
  have hrecord := hx.record t.record
  rw [recordOutcome_live _ _ _ (by rw [hrecord]; exact hgeneration) (by rw [hrecord]; exact hstate)] at hwork
  have hwithin := missing_within q t.record x
  have hmissing := missing_live (q := q) (i := t.record) (p := x) (by rw [hrecord]; exact hstate2)
  change commandWork c s.part = withEngine q tidy (countMissing q t.record (measureMissing q t.record x)) at hwork
  generalize countMissing q t.record (measureMissing q t.record x) = y at hwork hwithin hmissing
  rw [hrecord] at hmissing
  obtain ⟨hcount, hfilter, hcompensation, _, hreached, hbelow⟩ := hmissing
  have hengine := hwithin.engines q nofun
  obtain ⟨hactivity, htargetNone⟩ :=
    hrest.engine (y := y) (q := q) (by rw [hengine]; exact hx.activity) (by rw [hengine]; exact hx.target)
  refine ⟨_, completes_of_work hwork, rfl, ?_, ?_, ?_, ?_, ?_, ?_, fun hlimit => ?_, fun hlimit => ?_, ?_, ?_, ?_, ?_, ?_⟩
  · rw [settle_port, withEngine, setEngine_port, hwithin.ports q nofun]
    exact hx.error
  · rwa [settle_engine]
  · rwa [settle_engine]
  · rw [settle_record]
    exact hcount
  · rw [settle_record]
    exact hfilter
  · rw [settle_record]
    exact hcompensation
  · obtain ⟨hsilent, hseconds, hstanding⟩ := hreached hlimit
    refine ⟨?_, ?_, ?_, ?_⟩
    · rw [settle_record]
      exact hsilent
    · rw [settle_record]
      exact hseconds
    · rw [settle_standingOf]
      exact hstanding
    · refine exec_of_cause (test := fallsSilent t.record) rfl ((runCause_of_misses hmiss).trans hwork) ?_
      have hafter : ((withEngine q tidy y).record t.record).state = .silent := hsilent
      obtain h | h := hstate2 <;> simp [fallsSilent, h, hafter]
  · rw [settle_record]
    exact hbelow hlimit
  · intro j hj
    rw [settle_record]
    exact hx.keepsOtherRecords (i := t.record) hwithin (fun _ h => h) j hj
  · intro j hj
    obtain ⟨hport, hother⟩ := hx.keepsOtherPorts hwithin nofun nofun j hj
    rw [settle_port, settle_engine]
    exact ⟨hport, ((withEngine_keepsOtherPorts q tidy y) j hj).2.trans hother⟩
  · rw [settle_hub]
    exact (hwithin.hub nofun).trans hx.hub
  · rw [settle_slots]
    exact (hwithin.slots_eq nofun).trans hx.slots
  · rw [settle_mgmt]
    exact hwithin.mgmt.trans hx.mgmt

end Sys2Proof.Machine

/-! SUPPORT. The starts of the address, OPEN, VERDICT and quiet slots on a port with nothing in progress (R114, R122, R124,
R128, R129). -/

namespace Sys2Proof.Machine

/-! ## A slot that begins (R122) -/

theorem setEngine_setEngine (p : Part) (q : PortIx) (d e : Engine) : (p.setEngine q d).setEngine q e = p.setEngine q e := by
  simp [Part.setEngine]

theorem withEngine_setEngine (p : Part) (q : PortIx) (e : Engine) (f : Engine → Engine) :
    withEngine q f (p.setEngine q e) = p.setEngine q (f e) := by
  rw [withEngine, engine_setEngine_self, setEngine_setEngine]

theorem porn_of_free {p : Part} (h : p.held = false) : p.porn = false := by
  rw [Part.held, Bool.or_eq_false_iff] at h
  exact h.1

/-- The part with the slot of a port begun at its place in the second, and nothing in it yet. -/
def slotOpened (q : PortIx) (slot : PortSlot) (ms : Nat) (p : Part) : Part :=
  ({ p with tb := p.tb.elapseTo (ms * qPerMs) }).setEngine q
    { p.engine q with slot := slot, target := none, t1 := none, t4 := none }

theorem elapseToMs_of_free {p : Part} (h : p.held = false) (ms : Nat) :
    elapseToMs ms p = { p with tb := p.tb.elapseTo (ms * qPerMs) } := by
  rw [elapseToMs, porn_of_free h, if_neg (by simp)]

theorem beginSlot_of_idle {q : PortIx} {p : Part} (hheld : p.held = false) (hidle : (p.engine q).activity = .idle)
    (slot : PortSlot) (ms : Nat) : beginSlot q slot (elapseToMs ms p) = slotOpened q slot ms p := by
  rw [elapseToMs_of_free hheld]
  have hend : endSlot q { p with tb := p.tb.elapseTo (ms * qPerMs) } = { p with tb := p.tb.elapseTo (ms * qPerMs) } := by
    have hengine : ({ p with tb := p.tb.elapseTo (ms * qPerMs) } : Part).engine q = p.engine q := rfl
    simp only [endSlot, hengine, hidle]
  rw [beginSlot, hend, slotOpened, ← hidle]
  rfl

theorem slotOpened_engine (q : PortIx) (slot : PortSlot) (ms : Nat) (p : Part) :
    (slotOpened q slot ms p).engine q = { p.engine q with slot := slot, target := none, t1 := none, t4 := none } :=
  engine_setEngine_self _ _ _

theorem slotOpened_keepsOtherPorts (q : PortIx) (slot : PortSlot) (ms : Nat) (p : Part) :
    KeepsOtherPorts q p (slotOpened q slot ms p) := fun _ hj => ⟨rfl, engine_setEngine_ne _ hj.symm _⟩

theorem drive_slotOpened (q : PortIx) (slot : PortSlot) (ms : Nat) (f : LineFrame) (g : Engine → Engine) (p : Part) :
    drive q f (withEngine q g (slotOpened q slot ms p)) =
      ({ p with tb := p.tb.elapseTo (ms * qPerMs) }).setEngine q
        { g { p.engine q with slot := slot, target := none, t1 := none, t4 := none } with activity := .driving f } := by
  rw [drive, slotOpened, withEngine_setEngine, withEngine_setEngine]

theorem held_elapseToMs (ms : Nat) (p : Part) : (elapseToMs ms p).held = p.held := by
  obtain ⟨tb, htb⟩ := elapseToMs_eq ms p
  rw [htb]
  rfl

theorem stampAt_elapseToMs (ms : Nat) (p : Part) (e : Nat) : (elapseToMs ms p).tb.stampAt e = p.tb.stampAt e := by
  unfold elapseToMs
  split <;> rfl

/-! ## Address slots (R114, R124) -/

theorem on_iff (r : ServiceRecord) (q : PortIx) : r.on q = true ↔ r.state ≠ .vacant ∧ r.currentPort = q := by
  simp [ServiceRecord.on]

theorem counts_of_on {r : ServiceRecord} {q : PortIx} (h : r.on q = true) : r.counts q = true := by
  obtain ⟨hstate, hport⟩ := (on_iff r q).1 h
  exact (counts_iff r q).2 ⟨hstate, .inr hport⟩

/-- The slot of an address serves the one record that the laws of R94 let be there. -/
theorem recordAt_of_laws {p : Part} {q : PortIx} {a : Address} {i : RecordIx} (laws : RecordLaws p)
    (hstate : (p.record i).state ≠ .vacant) (hport : (p.record i).currentPort = q) (haddress : (p.record i).address = a) :
    p.recordAt q a = some i := by
  have hon : (p.record i).on q = true := (on_iff _ _).2 ⟨hstate, hport⟩
  refine find_finRange_unique (by simp [hon, haddress]) fun j hj => ?_
  obtain ⟨hj, hja⟩ : (p.record j).on q = true ∧ (p.record j).address = a := by simpa using hj
  exact laws.1 q j i (counts_of_on hj) (counts_of_on hon) (hja.trans haddress.symm)

theorem recordAt_some {p : Part} {q : PortIx} {a : Address} {i : RecordIx} (h : p.recordAt q a = some i) :
    (p.record i).state ≠ .vacant ∧ (p.record i).currentPort = q ∧ (p.record i).address = a := by
  obtain ⟨hon, ha⟩ : (p.record i).on q = true ∧ (p.record i).address = a := by
    simpa using List.find?_some h
  obtain ⟨hstate, hport⟩ := (on_iff _ _).1 hon
  exact ⟨hstate, hport, ha⟩

/-- An address slot without a record to serve is empty. -/
theorem delaySlotStart_empty {q : PortIx} {a : Address} {p b : Part} (hheld : p.held = false)
    (hb : beginSlot q (.address a) (elapseToMs (addressMs a) p) = b)
    (hnone : ∀ i, b.recordAt q a = some i → (b.record i).state = .reserved) : delaySlotStart q a p = b := by
  simp only [delaySlotStart, unlessHeld_of_free ((held_elapseToMs _ _).trans hheld), hb]
  cases hat : b.recordAt q a with
  | none => rfl
  | some i => exact if_pos (hnone i hat)

/-- An address slot serves the record there, with t1 at its place in the second. -/
theorem delaySlotStart_record {q : PortIx} {a : Address} {i : RecordIx} {p b : Part} (hheld : p.held = false)
    (hb : beginSlot q (.address a) (elapseToMs (addressMs a) p) = b) (hat : b.recordAt q a = some i)
    (hlive : (b.record i).state ≠ .reserved) :
    delaySlotStart q a p = beginRecordSlot q (p.tb.stampAt (addressMs a * qPerMs)) i b := by
  simp only [delaySlotStart, unlessHeld_of_free ((held_elapseToMs _ _).trans hheld), hb, hat, if_neg hlive,
    stampAt_elapseToMs]

/-- What the slot of a record keeps of it. -/
def slotTarget (i : RecordIx) (r : ServiceRecord) : SlotTarget :=
  { record := i, generation := r.generation, dismiss := r.state == .retiring, filterHeld := r.filter.isSome }

theorem beginRecordSlot_served {q : PortIx} {t1 : Stamp} {i : RecordIx} {b : Part}
    (hlive : (b.record i).state ≠ .retiring) (hrunning : (b.port q).state = .running) (hclean : (b.port q).line = .clean) :
    beginRecordSlot q t1 i b =
      drive q (delayFrame (b.record i).address (b.record i).compensation (b.record i).resetRequest)
        (withEngine q (fun e => { e with target := some (slotTarget i (b.record i)), t1 := some t1 }) b) := by
  have hmissing : ¬ ((b.port q).line = .fault ∨ (b.port q).state = .disabled) := by simp [hrunning, hclean]
  simp only [beginRecordSlot, if_neg hlive, if_neg hmissing, if_pos hrunning, recordFrame]
  rfl

/-- A slot of a RETIRING record is an attempt (R114). -/
def attempted (i : RecordIx) (b : Part) : Part :=
  withRecord i (fun r => { r with dismissAttempts := r.dismissAttempts + 1 }) b

theorem beginRecordSlot_dismissed {q : PortIx} {t1 : Stamp} {i : RecordIx} {b : Part}
    (hretiring : (b.record i).state = .retiring) (hrunning : (b.port q).state = .running)
    (hclean : (b.port q).line = .clean) :
    beginRecordSlot q t1 i b =
      drive q (dismissFrame (b.record i).address)
        (withEngine q (fun e => { e with target := some (slotTarget i (b.record i)), t1 := some t1 }) (attempted i b)) := by
  have hport : (attempted i b).port q = b.port q := rfl
  have hmissing : ¬ ((b.port q).line = .fault ∨ (b.port q).state = .disabled) := by simp [hrunning, hclean]
  simp only [beginRecordSlot, if_pos hretiring, recordFrame]
  change (if ((attempted i b).port q).line = .fault ∨ ((attempted i b).port q).state = .disabled then _
    else if ((attempted i b).port q).state = .running then _ else _) = _
  rw [hport, if_neg hmissing, if_pos hrunning]
  rfl

/-- On a port in FAULT or DISABLED the slot is missing at once. -/
theorem beginRecordSlot_missing {q : PortIx} {t1 : Stamp} {i : RecordIx} {b : Part}
    (hport : (b.port q).line = .fault ∨ (b.port q).state = .disabled) :
    beginRecordSlot q t1 i b =
      recordOutcome q (slotTarget i (b.record i)) none none .missing
        (if (b.record i).state = .retiring then attempted i b else b) := by
  by_cases hretiring : (b.record i).state = .retiring
  · simp only [beginRecordSlot, if_pos hretiring]
    exact if_pos hport
  · simp only [beginRecordSlot, if_neg hretiring]
    exact if_pos hport

theorem delayPayload (c : Int) (flag : Bool) (a : Address) :
    delayFrame a c flag =
      { kind := .delay, address := a
        payload := signedBytesOf 4 (roundDiv c 4096) ++ [if flag then 1#8 else 0#8] } := by
  cases flag <;> rfl

theorem live_cases {state : RecordState} (h : state = .pending ∨ state = .active ∨ state = .silent) :
    state ≠ .vacant ∧ state ≠ .reserved ∧ state ≠ .retiring := by
  obtain rfl | rfl | rfl := h <;> simp

/-- A slot that is missing at once, of a record that counts it. -/
theorem missingAtOnce {q : PortIx} {a : Address} {i : RecordIx} {p : Part} (hheld : p.held = false)
    (hidle : (p.engine q).activity = .idle) (laws : RecordLaws p) (hport : (p.record i).currentPort = q)
    (haddress : (p.record i).address = a)
    (hstate : (p.record i).state = .pending ∨ (p.record i).state = .active ∨ (p.record i).state = .silent)
    (hdark : (p.port q).line = .fault ∨ (p.port q).state = .disabled) :
    delaySlotStart q a p =
      countMissing q i (measureMissing q i (slotOpened q (.address a) (addressMs a) p)) := by
  obtain ⟨hvacant, hreserved, hretiring⟩ := live_cases hstate
  have hb := beginSlot_of_idle hheld hidle (.address a) (addressMs a)
  rw [delaySlotStart_record hheld hb (recordAt_of_laws laws hvacant hport haddress) hreserved,
    beginRecordSlot_missing (b := slotOpened q (.address a) (addressMs a) p) hdark,
    if_neg (c := ((slotOpened q (.address a) (addressMs a) p).record i).state = .retiring) hretiring]
  exact recordOutcome_live (t := slotTarget i (p.record i)) _ _ _ rfl hstate

/-- Settles O40: the slot is begun at its place, and the record there is served, attempted, or missing at once. -/
theorem addressSlotsServeTheirRecords : Obligations.AddressSlotsServeTheirRecords := by
  intro s q a hheld hidle laws
  have hb := beginSlot_of_idle hheld hidle (.address a) (addressMs a)
  refine ⟨fun i hport haddress hstate hrunning hclean => ?_, fun i hport haddress hretiring hrunning hclean => ?_,
    fun i hport haddress hstate hdark => ?_, fun hnone => ?_⟩
  · obtain ⟨hvacant, hreserved, hretiring⟩ := live_cases hstate
    refine completes_of_work ?_
    change delaySlotStart q a s.part = _
    have hdismiss : (slotTarget i (s.part.record i)) =
        { record := i, generation := (s.part.record i).generation, dismiss := false
          filterHeld := (s.part.record i).filter.isSome } := by
      simp [slotTarget, hretiring]
    rw [delaySlotStart_record hheld hb (recordAt_of_laws laws hvacant hport haddress) hreserved,
      beginRecordSlot_served (b := slotOpened q (.address a) (addressMs a) s.part) hretiring hrunning hclean,
      drive_slotOpened, delayPayload]
    have hrecord : (slotOpened q (.address a) (addressMs a) s.part).record i = s.part.record i := rfl
    rw [hrecord, haddress, hdismiss]
    rfl
  · have hvacant : (s.part.record i).state ≠ .vacant := by simp [hretiring]
    have hreserved : (s.part.record i).state ≠ .reserved := by simp [hretiring]
    have hwork : commandWork (.delaySlotStart q a) s.part = _ :=
      (delaySlotStart_record hheld hb (recordAt_of_laws laws hvacant hport haddress) hreserved).trans
        (beginRecordSlot_dismissed (b := slotOpened q (.address a) (addressMs a) s.part) hretiring hrunning hclean)
    have hopened := slotOpened_engine q (.address a) (addressMs a) s.part
    have hothers := slotOpened_keepsOtherPorts q (.address a) (addressMs a) s.part
    have hrecords (j : RecordIx) : (slotOpened q (.address a) (addressMs a) s.part).record j = s.part.record j := rfl
    have hhub : (slotOpened q (.address a) (addressMs a) s.part).hub = s.part.hub := rfl
    generalize slotOpened q (.address a) (addressMs a) s.part = b at hwork hopened hothers hrecords hhub
    have hattempted (j : RecordIx) (h : j ≠ i) : (attempted i b).record j = s.part.record j :=
      (record_setRecord_ne b h.symm _).trans (hrecords j)
    refine ⟨_, completes_of_work hwork, rfl, ?_, ?_, ?_, ?_, ?_, ?_⟩
    · rw [settle_engine, drive, withEngine, engine_setEngine_self, hrecords, haddress]
      rfl
    · rw [settle_engine, drive, withEngine, engine_setEngine_self, withEngine, engine_setEngine_self, attempted,
        withRecord, setRecord_engine, hopened]
    · rw [settle_record]
      refine Eq.trans (record_setRecord_self b i _) ?_
      rw [hrecords]
    · intro j hj
      rw [settle_record]
      exact hattempted j hj
    · intro j hj
      rw [settle_port, settle_engine]
      refine ⟨(hothers j hj).1, ?_⟩
      rw [drive, withEngine, engine_setEngine_ne _ hj.symm, withEngine, engine_setEngine_ne _ hj.symm]
      exact (hothers j hj).2
    · rw [settle_hub]
      exact hhub
  · have hwork : commandWork (.delaySlotStart q a) s.part = _ :=
      missingAtOnce hheld hidle laws hport haddress (hstate.imp_right .inl) hdark
    have hopened := slotOpened_engine q (.address a) (addressMs a) s.part
    have hothers := slotOpened_keepsOtherPorts q (.address a) (addressMs a) s.part
    have hwithin := missing_within q i (slotOpened q (.address a) (addressMs a) s.part)
    obtain ⟨hcount, _, _, hreset, _, _⟩ :=
      missing_live (q := q) (i := i) (p := slotOpened q (.address a) (addressMs a) s.part) hstate
    have hengine := hwithin.engines q nofun
    refine ⟨_, completes_of_work hwork, rfl, ?_, ?_, ?_, ?_, ?_, ?_, ?_, ?_, ?_⟩
    · rw [settle_engine, hengine, hopened]
      exact hidle
    · rw [settle_engine, hengine, hopened]
    · rw [settle_engine, hengine, hopened]
    · rw [settle_port]
      exact hwithin.ports q nofun
    · rw [settle_record]
      exact hcount
    · rw [settle_record]
      exact hreset
    · intro j hj
      rw [settle_record]
      exact hwithin.records j hj
    · intro j hj
      rw [settle_port, settle_engine, hwithin.ports j nofun, hwithin.engines j nofun]
      exact hothers j hj
    · rw [settle_hub]
      exact hwithin.hub nofun
  · refine completes_of_work ?_
    change delaySlotStart q a s.part = _
    refine (delaySlotStart_empty hheld hb fun i hat => ?_).trans ?_
    · obtain ⟨hvacant, hport, haddress⟩ := recordAt_some hat
      by_contra hreserved
      exact hnone i hvacant hreserved hport haddress
    · rfl

/-! ## The OPEN, VERDICT and quiet slots (R128, R129) -/

theorem sum_filter {α : Type} (f : α → Bool) (g : α → Nat) (l : List α) :
    ((l.filter f).map g).sum = (l.map (fun a => if f a then g a else 0)).sum := by
  induction l with
  | nil => rfl
  | cons a rest ih => cases h : f a <;> simp [h, ih]

theorem openFrame_eq (p : Part) (q : PortIx) :
    openFrame (p.freeAddresses q) =
      { kind := .openFrame, address := 0
        payload :=
          [byte ((if p.addressFree q 0 then 1 else 0) + (if p.addressFree q 1 then 2 else 0) +
            (if p.addressFree q 2 then 4 else 0) + (if p.addressFree q 3 then 8 else 0))] } := by
  have hall : allAddresses = [0, 1, 2, 3] := rfl
  rw [openFrame, addressSetByte, Part.freeAddresses, sum_filter, hall]
  simp [Nat.add_assoc]

theorem offersOpen_of {p : Part} {q : PortIx}
    (h : (∃ i : RecordIx, (p.record i).state = .reserved ∧ (p.record i).currentPort = q) ∨
      ((p.port q).mode = .open ∧ (∃ a : Address, p.addressFree q a = true) ∧
        ∃ i : RecordIx, (p.record i).state = .vacant ∧ p.recordHeld i = false)) : p.offersOpen q = true := by
  obtain ⟨i, hreserved, hport⟩ | ⟨hmode, ⟨a, hfree⟩, i, hvacant, hunheld⟩ := h
  · have hany : allRecords.any (fun i => (p.record i).reservedOn q) = true :=
      List.any_eq_true.2 ⟨i, mem_allRecords i, by simp [ServiceRecord.reservedOn, hreserved, hport]⟩
    simp only [Part.offersOpen, hany, Bool.true_or]
  · have haddress : (p.freeAddresses q).isEmpty = false := by
      refine List.isEmpty_eq_false_iff_exists_mem.2 ⟨a, List.mem_filter.2 ⟨List.mem_finRange a, hfree⟩⟩
    have hrecord : p.usableRecord.isSome = true :=
      List.find?_isSome.2 ⟨i, mem_allRecords i, by simp [hvacant, hunheld]⟩
    have hopen : ((p.port q).mode == .open) = true := by rw [hmode]; rfl
    simp only [Part.offersOpen, haddress, hrecord, hopen, Bool.not_false, Bool.true_and, Bool.or_true]

theorem serving_of {r : PortRecord} (hrunning : r.state = .running) (hclean : r.line = .clean) : r.serving = true := by
  simp [PortRecord.serving, hrunning, hclean]

theorem serving_eq_false {r : PortRecord} (h : r.state ≠ .running ∨ r.line = .fault) : r.serving = false := by
  obtain h | h := h <;> simp [PortRecord.serving, h]

/-- The OPEN slot of a second that is long enough, on a port with nothing in progress. -/
theorem openSlotStart_eq {q : PortIx} {p : Part} (hheld : p.held = false) (hidle : (p.engine q).activity = .idle)
    (hlong : 800000000 ≤ p.tb.lengthNs) :
    openSlotStart q p =
      if (p.port q).serving && p.offersOpen q then
        drive q (openFrame (p.freeAddresses q))
          (withEngine q (fun e => { e with verdict := none }) (slotOpened q .openSlot 600 p))
      else withEngine q (fun e => { e with verdict := none }) (slotOpened q .openSlot 600 p) := by
  have hb := beginSlot_of_idle hheld hidle .openSlot 600
  have hbefore : p.tb.holdsOpen = true := decide_eq_true hlong
  have hafter : (elapseToMs 600 p).tb.holdsOpen = true := by
    rw [elapseToMs_of_free hheld]
    exact hbefore
  simp only [openSlotStart, hbefore, if_true, unlessHeld_of_free ((held_elapseToMs _ _).trans hheld), hafter, hb]
  rfl

/-- The VERDICT slot of a second that is long enough, on a port with nothing in progress. -/
theorem verdictSlotStart_none {q : PortIx} {p : Part} (hheld : p.held = false) (hidle : (p.engine q).activity = .idle)
    (hlong : 800000000 ≤ p.tb.lengthNs) (hnone : (p.engine q).verdict = none) :
    verdictSlotStart q p = slotOpened q .verdictSlot 700 p := by
  have hb := beginSlot_of_idle hheld hidle .verdictSlot 700
  have hbefore : p.tb.holdsOpen = true := decide_eq_true hlong
  have hafter : (elapseToMs 700 p).tb.holdsOpen = true := by
    rw [elapseToMs_of_free hheld]
    exact hbefore
  simp only [verdictSlotStart, hbefore, if_true, unlessHeld_of_free ((held_elapseToMs _ _).trans hheld), hafter, hb,
    slotOpened_engine, hnone]

theorem verdictSlotStart_some {q : PortIx} {p : Part} {v : Verdict} (hheld : p.held = false)
    (hidle : (p.engine q).activity = .idle) (hlong : 800000000 ≤ p.tb.lengthNs) (hsome : (p.engine q).verdict = some v) :
    verdictSlotStart q p =
      if (p.port q).serving then
        drive q (verdictFrame v) (withEngine q (fun e => { e with verdict := none }) (slotOpened q .verdictSlot 700 p))
      else withEngine q (fun e => { e with verdict := none }) (slotOpened q .verdictSlot 700 p) := by
  have hb := beginSlot_of_idle hheld hidle .verdictSlot 700
  have hbefore : p.tb.holdsOpen = true := decide_eq_true hlong
  have hafter : (elapseToMs 700 p).tb.holdsOpen = true := by
    rw [elapseToMs_of_free hheld]
    exact hbefore
  simp only [verdictSlotStart, hbefore, if_true, unlessHeld_of_free ((held_elapseToMs _ _).trans hheld), hafter, hb,
    slotOpened_engine, hsome]
  rfl

/-- In a short second the two starts come at no place and do nothing (R122). -/
theorem shortSecond {q : PortIx} {p : Part} (hheld : p.held = false) (hshort : p.tb.lengthNs < 800000000) :
    openSlotStart q p = p ∧ verdictSlotStart q p = p := by
  have hholds : p.tb.holdsOpen = false := decide_eq_false (by omega)
  simp only [openSlotStart, verdictSlotStart, hholds, unlessHeld_of_free hheld, Bool.false_eq_true, if_false, and_self]

theorem withEngine_slotOpened (q : PortIx) (slot : PortSlot) (ms : Nat) (g : Engine → Engine) (p : Part) :
    withEngine q g (slotOpened q slot ms p) =
      ({ p with tb := p.tb.elapseTo (ms * qPerMs) }).setEngine q
        (g { p.engine q with slot := slot, target := none, t1 := none, t4 := none }) := by
  rw [slotOpened, withEngine_setEngine]

theorem verdictSlotStart_silent {q : PortIx} {p : Part} (hheld : p.held = false) (hidle : (p.engine q).activity = .idle)
    (hlong : 800000000 ≤ p.tb.lengthNs) (hdark : (p.port q).serving = false) :
    verdictSlotStart q p = withEngine q (fun e => { e with verdict := none }) (slotOpened q .verdictSlot 700 p) := by
  cases hverdict : (p.engine q).verdict with
  | none =>
    rw [verdictSlotStart_none hheld hidle hlong hverdict, withEngine_slotOpened, slotOpened, ← hverdict]
  | some v => rw [verdictSlotStart_some hheld hidle hlong hverdict, hdark, if_neg (by simp)]

theorem verdictFrame_eq (v : Verdict) :
    verdictFrame v =
      { kind := .verdict
        address := match v.result with
          | .admitted a => a
          | .refuse _ => 0
        payload := bytesOf 6 v.identity.toNat ++
          match v.result with
          | .admitted _ => [0#8, 0#8]
          | .refuse .full => [1#8, 1#8]
          | .refuse .duplicate => [1#8, 2#8]
          | .refuse .closed => [1#8, 3#8] } := by
  obtain ⟨x, a | r⟩ := v
  · rfl
  · cases r <;> rfl

/-- Settles O41: the slot is begun at its place, and what the port may send goes out. -/
theorem openAndVerdictSlotsCarryTheirFrames : Obligations.OpenAndVerdictSlotsCarryTheirFrames := by
  refine fun s q hheld hidle => ⟨fun hlong => ⟨fun hrunning hclean hoffers => ?_, fun v hrunning hclean hverdict => ?_,
    fun hdark => ⟨?_, ?_⟩⟩, fun hshort => ⟨?_, ?_⟩, ?_⟩
  · refine completes_of_work ?_
    change openSlotStart q s.part = _
    rw [openSlotStart_eq hheld hidle hlong, serving_of hrunning hclean, offersOpen_of hoffers, if_pos (by simp),
      drive_slotOpened, openFrame_eq]
    rfl
  · refine completes_of_work ?_
    change verdictSlotStart q s.part = _
    rw [verdictSlotStart_some hheld hidle hlong hverdict, serving_of hrunning hclean, if_pos rfl, drive_slotOpened,
      verdictFrame_eq]
    rfl
  · refine completes_of_work ?_
    change openSlotStart q s.part = _
    rw [openSlotStart_eq hheld hidle hlong, serving_eq_false hdark, Bool.false_and, if_neg (by simp),
      withEngine_slotOpened]
    rfl
  · refine completes_of_work ?_
    change verdictSlotStart q s.part = _
    rw [verdictSlotStart_silent hheld hidle hlong (serving_eq_false hdark), withEngine_slotOpened]
    rfl
  · exact completes_of_work (shortSecond hheld hshort).1
  · exact completes_of_work (shortSecond hheld hshort).2
  · refine completes_of_work ?_
    change quietSlotStart q s.part = _
    rw [quietSlotStart, unlessHeld_of_free ((held_elapseToMs _ _).trans hheld), beginSlot_of_idle hheld hidle]
    cases h : (s.part.engine q).slot <;> rw [slotOpened] <;> rfl

end Sys2Proof.Machine

/-! SUPPORT. Wake pulses, and a port that SET turns off, with the slot in progress there, or on (R108, R114, R133 to R135). -/

namespace Sys2Proof.Machine

/-! ## Wake pulses (R134, R135) -/

theorem withPort_same (q : PortIx) (p : Part) : p.setPort q (p.port q) = p := by simp [Part.setPort, Part.port]

theorem wakePulse_taken {q : PortIx} {p : Part} (hheld : p.held = false)
    (h : (p.port q).state ≠ .running ∨ (p.engine q).activity = .idle) :
    wakePulse q p = p.setPort q (p.port q).wake := by
  have hfree : ¬ ((p.port q).state = .running ∧ (p.engine q).activity ≠ .idle) := by
    rintro ⟨hrunning, hbusy⟩
    obtain h | h := h
    · exact h hrunning
    · exact hbusy h
  rw [wakePulse, unlessHeld_of_free hheld, if_neg hfree, withPort]

theorem wakePulse_busy {q : PortIx} {p : Part} (hheld : p.held = false) (hrunning : (p.port q).state = .running)
    (hbusy : (p.engine q).activity ≠ .idle) : wakePulse q p = p := by
  rw [wakePulse, unlessHeld_of_free hheld, if_pos ⟨hrunning, hbusy⟩]

theorem portsWoken (s : State) (q : PortIx) (hheld : s.part.held = false) :
    ((s.part.port q).state = .parked →
      Completes (.wakePulse q) s
        (s.part.setPort q { s.part.port q with state := .running, idleCount := 0, wakeWindow := 64 })) ∧
    ((s.part.port q).state = .running → (s.part.engine q).activity = .idle →
      Completes (.wakePulse q) s (s.part.setPort q { s.part.port q with wakeWindow := 64 })) ∧
    ((s.part.port q).state = .disabled ∨
        ((s.part.port q).state = .running ∧ (s.part.engine q).activity ≠ .idle) →
      Completes (.wakePulse q) s s.part) := by
  refine ⟨fun hparked => completes_of_work ?_, fun hrunning hidle => completes_of_work ?_, fun h => completes_of_work ?_⟩
  · change wakePulse q s.part = _
    rw [wakePulse_taken hheld (.inl (by simp [hparked]))]
    simp only [PortRecord.wake, hparked]
  · change wakePulse q s.part = _
    rw [wakePulse_taken hheld (.inr hidle)]
    simp only [PortRecord.wake, hrunning]
  · change wakePulse q s.part = _
    obtain hdisabled | ⟨hrunning, hbusy⟩ := h
    · rw [wakePulse_taken hheld (.inl (by simp [hdisabled]))]
      simp only [PortRecord.wake, hdisabled]
      exact withPort_same q s.part
    · exact wakePulse_busy hheld hrunning hbusy

/-! ## A port that is turned off (R133) -/

/-- The part with a port off, and nothing in progress there. -/
def portOff (q : PortIx) (p : Part) : Part :=
  (p.setPort q { p.port q with enabled := false, state := .disabled, idleCount := 0, wakeWindow := 0 }).setEngine q
    { p.engine q with activity := .idle, target := none, verdict := none }

theorem portOff_port (q : PortIx) (p : Part) :
    (portOff q p).port q =
      { p.port q with enabled := false, state := .disabled, idleCount := 0, wakeWindow := 0 } := port_setPort_self p q _

theorem portOff_engine (q : PortIx) (p : Part) :
    (portOff q p).engine q = { p.engine q with activity := .idle, target := none, verdict := none } :=
  engine_setEngine_self _ _ _

theorem portOff_keepsOtherPorts (q : PortIx) (p : Part) : KeepsOtherPorts q p (portOff q p) :=
  fun _ hj => ⟨port_setPort_ne p hj.symm _, engine_setEngine_ne _ hj.symm _⟩

/-- The slot in progress on a port that is turned off is missing to its record. -/
theorem disablePort_some {q : PortIx} {p : Part} {t : SlotTarget} (h : (p.engine q).target = some t) :
    disablePort q p = recordOutcome q t (p.engine q).t1 (p.engine q).t4 .missing (portOff q p) := by
  have hengine (r : PortRecord) (e : Engine) : ((p.setPort q r).setEngine q e).engine q = e := engine_setEngine_self _ _ _
  have hsame (r : PortRecord) : (p.setPort q r).engine q = p.engine q := rfl
  simp only [disablePort, reportOutcome, withPort, withEngine, hengine, hsame, setEngine_setEngine, h]
  rfl

theorem disablePort_none {q : PortIx} {p : Part} (h : (p.engine q).target = none) : disablePort q p = portOff q p := by
  have hengine (r : PortRecord) (e : Engine) : ((p.setPort q r).setEngine q e).engine q = e := engine_setEngine_self _ _ _
  have hsame (r : PortRecord) : (p.setPort q r).engine q = p.engine q := rfl
  simp only [disablePort, reportOutcome, withPort, withEngine, hengine, hsame, setEngine_setEngine, h]
  rfl

/-- An outcome does not reach a record that has become VACANT, has a new occupant, or waits for an ENROL. -/
theorem recordOutcome_lost {q : PortIx} {t : SlotTarget} {p : Part} (t1 t4 : Option Stamp) (o : SlotOutcome)
    (h : (p.record t.record).generation ≠ t.generation ∨ (p.record t.record).state = .vacant ∨
      (p.record t.record).state = .reserved) : recordOutcome q t t1 t4 o p = p := by
  unfold recordOutcome
  split
  · next hgeneration =>
    obtain h | h | h := h
    · exact absurd hgeneration h
    · simp only [h]
    · simp only [h]
  · rfl

/-! ## SET of the enabled field alone -/

/-- The items of a SET that names the enabled field alone. -/
theorem readItems_enabled (on : Bool) :
    ∃ items, readItems portFields [1#8, 1#8, if on then 1#8 else 0#8] = some items ∧ codeWritten items 2 = none ∧
      numberWritten items 3 = none ∧ flagWritten items 1 = some on ∧ anyClamped items = false := by
  cases on
  · exact ⟨_, rfl, rfl, rfl, rfl, rfl⟩
  · exact ⟨_, rfl, rfl, rfl, rfl, rfl⟩

theorem setPortRequest_off {index : Byte} {q : PortIx} {p : Part} (hindex : indexOf 12 index = some q)
    (hon : (p.port q).state ≠ .disabled) :
    setPortRequest index [1#8, 1#8, 0#8] p = (disablePort q p, { code := .done }) := by
  obtain ⟨items, hread, hmode, hbudget, hflag, hclamped⟩ := readItems_enabled false
  have hread' : readItems portFields [1#8, 1#8, 0#8] = some items := hread
  have hkept : withPort q (fun r =>
      { r with
        mode := ((codeWritten items 2).map (fun n => if n = 0 then .closed else .open)).getD r.mode
        defaultBudget := (numberWritten items 3).getD r.defaultBudget }) p = p := by
    rw [hmode, hbudget]
    exact withPort_same q p
  simp only [setPortRequest, hread', hindex, setPortFields, hkept, hflag, if_neg hon, hclamped]

theorem setPortRequest_on {index : Byte} {q : PortIx} {p : Part} (hindex : indexOf 12 index = some q)
    (hoff : (p.port q).state = .disabled) :
    setPortRequest index [1#8, 1#8, 1#8] p = (enablePort q p, { code := .done }) := by
  obtain ⟨items, hread, hmode, hbudget, hflag, hclamped⟩ := readItems_enabled true
  have hread' : readItems portFields [1#8, 1#8, 1#8] = some items := hread
  have hkept : withPort q (fun r =>
      { r with
        mode := ((codeWritten items 2).map (fun n => if n = 0 then .closed else .open)).getD r.mode
        defaultBudget := (numberWritten items 3).getD r.defaultBudget }) p = p := by
    rw [hmode, hbudget]
    exact withPort_same q p
  simp only [setPortRequest, hread', hindex, setPortFields, hkept, hflag, if_pos hoff, hclamped]

theorem placeRequest_off {tag index : Byte} {q : PortIx} {p : Part} (hready : p.Ready) (hindex : indexOf 12 index = some q)
    (hon : (p.port q).state ≠ .disabled) :
    placeRequest [0x11#8, tag, 2#8, index, 1#8, 1#8, 0#8] p = (disablePort q p).answer 0x11#8 tag { code := .done } :=
  placeRequest_answers (code := 0x11#8) (body := [2#8, index, 1#8, 1#8, 0#8]) hready (by simp) rfl
    (setPortRequest_off hindex hon)

/-! ## The slot in progress at the port (R108, R114) -/

theorem off_within (q : PortIx) (t : SlotTarget) (t1 t4 : Option Stamp) (p : Part) :
    Within (.ending t.record) p (recordOutcome q t t1 t4 .missing p) :=
  (Within.refl _ p).recordOutcome (Access.ending_record _) (Access.ending_returns _) rfl q t1 t4 .missing

theorem off_within_live {q : PortIx} {t : SlotTarget} {p : Part} (t1 t4 : Option Stamp)
    (h : (p.record t.record).state ≠ .retiring) : Within (.outcome t.record) p (recordOutcome q t t1 t4 .missing p) := by
  have counted : Within (.outcome t.record) p (liveOutcome q t t1 t4 .missing p) := missing_within q t.record p
  unfold recordOutcome
  split
  · split
    · exact .refl _ _
    · exact .refl _ _
    · exact counted
    · exact counted
    · exact counted
    · exact absurd ‹_› h
  · exact .refl _ _

/-- A missing outcome of a SILENT record. -/
theorem missing_silent {q : PortIx} {i : RecordIx} {p : Part} (h : (p.record i).state = .silent) :
    ((countMissing q i (measureMissing q i p)).record i).state = .silent ∧
      ((countMissing q i (measureMissing q i p)).record i).silentCount = (p.record i).silentCount ∧
      ((countMissing q i (measureMissing q i p)).record i).filter = (p.record i).filter ∧
      ((countMissing q i (measureMissing q i p)).record i).compensation = (p.record i).compensation := by
  obtain ⟨w, x, s, te, v, l, hmeasured⟩ := measureMissing_leaves q i p
  rw [countMissing_of_silent (by rw [hmeasured]; exact h), hmeasured]
  exact ⟨h, rfl, rfl, rfl⟩

/-- What a DISMISS slot that ends without a LEAVE comes to (R114). -/
theorem missing_retiring {q : PortIx} {t : SlotTarget} {p : Part} {o : SlotOutcome} (t1 t4 : Option Stamp)
    (ho : o ≠ .leave) (hgeneration : (p.record t.record).generation = t.generation)
    (hstate : (p.record t.record).state = .retiring) :
    recordOutcome q t t1 t4 o p =
      if t.dismiss ∧ 3 ≤ (p.record t.record).dismissAttempts then endRetired .unacknowledged t.record p else p := by
  rw [recordOutcome_retiring t1 t4 o hgeneration hstate, retiringOutcome, if_neg ho]

theorem reported_answer {p : Part} {o : Owner} {c : Condition} {shows : Entry → Prop} {code tag : Byte} {r : Reply}
    (h : p.Reported o c shows) : (p.answer code tag r).Reported o c shows := h

/-- A SET that turns a port off with a record's slot in progress. -/
theorem portTurnedOff (s : State) (tag index : Byte) (q : PortIx) (hready : s.part.Ready)
    (hindex : indexOf 12 index = some q) (t : SlotTarget) (r : ServiceRecord) (cause : Cause)
    (hon : (s.part.port q).state ≠ .disabled) (htarget : (s.part.engine q).target = some t)
    (hr : r = s.part.record t.record) (hgeneration : r.generation = t.generation) (hvacant : r.state ≠ .vacant)
    (hreserved : r.state ≠ .reserved) (hcause : cause = .request [0x11#8, tag, 2#8, index, 1#8, 1#8, 0#8]) :
    ∃ u : State, exec (.setPort tag index [{ field := 1#8, value := [0#8] }]) s = .next u ∧ u.pending = s.pending ∧
      u.part.mgmt = (s.part.answer 0x11#8 tag { code := .done }).mgmt ∧
      u.part.port q =
        { s.part.port q with enabled := false, state := .disabled, idleCount := 0, wakeWindow := 0 } ∧
      u.part.engine q = { s.part.engine q with activity := .idle, target := none, verdict := none } ∧
      (r.state = .pending ∨ r.state = .active →
        (u.part.record t.record).silentCount = r.silentCount + 1 ∧
        (u.part.record t.record).filter = r.filter ∧ (u.part.record t.record).compensation = r.compensation ∧
        (r.silentLimit ≤ r.silentCount + 1 →
          (u.part.record t.record).state = .silent ∧ (u.part.record t.record).silentSeconds = 0 ∧
          hasCondition (u.part.alarm.standingOf (.record t.record)) .silent = true ∧
          exec (.silentEntry t.record cause) s = .next u) ∧
        (r.silentCount + 1 < r.silentLimit → (u.part.record t.record).state = r.state)) ∧
      (r.state = .silent →
        (u.part.record t.record).state = .silent ∧ (u.part.record t.record).silentCount = r.silentCount ∧
        (u.part.record t.record).filter = r.filter ∧ (u.part.record t.record).compensation = r.compensation) ∧
      (r.state = .retiring → t.dismiss = true → 3 ≤ r.dismissAttempts →
        u.part.record t.record = { generation := r.generation } ∧
        exec (.retireUnacknowledged t.record cause) s = .next u ∧
        (s.part.alarm.settings.recordThreshold = some .note →
          u.part.Reported (.record t.record) .retired (fun e => e.detail = some .unacknowledged))) ∧
      (r.state = .retiring → t.dismiss = false ∨ r.dismissAttempts < 3 → u.part.record t.record = r) ∧
      (r.state ≠ .retiring → KeepsOtherRecords t.record s.part u.part ∧ u.part.hub = s.part.hub) ∧
      KeepsOtherPorts q s.part u.part ∧ KeepsBase s.part u.part := by
  subst hr
  have hsome := disablePort_some (q := q) (p := s.part) htarget
  have hwithin := off_within q t (s.part.engine q).t1 (s.part.engine q).t4 (portOff q s.part)
  have hplaced := placeRequest_off (tag := tag) hready hindex hon
  rw [← hsome] at hwithin
  have hlive (h : (s.part.record t.record).state = .pending ∨ (s.part.record t.record).state = .active ∨
      (s.part.record t.record).state = .silent) :
      disablePort q s.part = countMissing q t.record (measureMissing q t.record (portOff q s.part)) :=
    hsome.trans (recordOutcome_live (p := portOff q s.part) _ _ _ hgeneration h)
  have hretiring (h : (s.part.record t.record).state = .retiring) :
      disablePort q s.part =
        if t.dismiss ∧ 3 ≤ (s.part.record t.record).dismissAttempts then
          endRetired .unacknowledged t.record (portOff q s.part)
        else portOff q s.part :=
    hsome.trans (missing_retiring (p := portOff q s.part) _ _ (by simp) hgeneration h)
  refine ⟨_, completes_of_work hplaced, rfl, ?_, ?_, ?_, fun hstate => ?_, fun hstate => ?_, fun hstate hdismiss hthird => ?_,
    fun hstate hnot => ?_, fun hstate => ⟨?_, ?_⟩, ?_, ?_⟩
  · exact answered_mgmt hwithin.mgmt hwithin.alarm.settings
  · rw [settle_port, answer_port, hwithin.ports q nofun, portOff_port]
  · rw [settle_engine, answer_engine, hwithin.engines q nofun, portOff_engine]
  · have hmissing := missing_live (q := q) (i := t.record) (p := portOff q s.part) hstate
    rw [← hlive (hstate.imp_right .inl)] at hmissing
    obtain ⟨hcount, hfilter, hcompensation, _, hreached, hbelow⟩ := hmissing
    simp only [settle_record, settle_standingOf, answer_record, answer_alarm]
    refine ⟨hcount, hfilter, hcompensation, fun hlimit => ?_, hbelow⟩
    obtain ⟨hsilent, hseconds, hstanding⟩ := hreached hlimit
    refine ⟨hsilent, hseconds, hstanding, ?_⟩
    subst hcause
    refine exec_of_cause (test := fallsSilent t.record) rfl hplaced ?_
    obtain h | h := hstate <;> simp [fallsSilent, h, hsilent]
  · have hmissing := missing_silent (q := q) (i := t.record) (p := portOff q s.part) hstate
    rw [← hlive (.inr (.inr hstate))] at hmissing
    simp only [settle_record, answer_record]
    exact hmissing
  · have hended := hretiring hstate
    rw [if_pos ⟨hdismiss, hthird⟩] at hended
    have hrecord := endRetired_record .unacknowledged t.record (portOff q s.part)
    rw [← hended] at hrecord
    refine ⟨?_, ?_, fun hthreshold => ?_⟩
    · rw [settle_record, answer_record]
      exact hrecord
    · subst hcause
      refine exec_of_cause (test := endsUnacknowledged t.record _) rfl hplaced ?_
      have hsets : endsDismiss (.request [0x11#8, tag, 2#8, index, 1#8, 1#8, 0#8]) = true := rfl
      simp [endsUnacknowledged, hsets, hstate, hrecord]
    · have hreported := endRetired_reported .unacknowledged t.record (p := portOff q s.part) hthreshold
      rw [← hended] at hreported
      exact (reported_answer hreported).settle _
  · have hfew : ¬ (t.dismiss = true ∧ 3 ≤ (s.part.record t.record).dismissAttempts) := by
      rintro ⟨hdismiss, hthird⟩
      obtain h | h := hnot
      · simp [h] at hdismiss
      · omega
    rw [settle_record, answer_record, hretiring hstate, if_neg hfew]
    rfl
  · have hwithin' := off_within_live (q := q) (p := portOff q s.part) (s.part.engine q).t1 (s.part.engine q).t4 hstate
    rw [← hsome] at hwithin'
    exact answered_keepsOtherRecords (p := s.part) (hwithin'.keepsOtherRecords fun _ h => h)
  · have hwithin' := off_within_live (q := q) (p := portOff q s.part) (s.part.engine q).t1 (s.part.engine q).t4 hstate
    rw [← hsome] at hwithin'
    rw [settle_hub, answer_hub]
    exact hwithin'.hub nofun
  · intro j hj
    rw [settle_port, settle_engine, answer_port, answer_engine, hwithin.ports j nofun, hwithin.engines j nofun]
    exact portOff_keepsOtherPorts q s.part j hj
  · exact answered_keepsBase (p := s.part) (hwithin.keepsBase nofun)

/-- Settles O43: the wake pulse at each port state, and the SET with and without a record's slot in progress. -/
theorem portsAreWokenAndTurnedOffAndOn : Obligations.PortsAreWokenAndTurnedOffAndOn := by
  refine ⟨portsWoken, fun s tag index q hready hindex => ⟨fun hon hlost => ?_, ?_, fun hoff => ?_⟩⟩
  · have hoff : disablePort q s.part = portOff q s.part := by
      cases htarget : (s.part.engine q).target with
      | none => exact disablePort_none htarget
      | some t => rw [disablePort_some htarget, recordOutcome_lost (p := portOff q s.part) _ _ _ (hlost t htarget)]
    have hplaced := placeRequest_off (tag := tag) hready hindex hon
    rw [hoff] at hplaced
    exact completes_of_work hplaced
  · exact portTurnedOff s tag index q hready hindex
  · exact completes_set rfl hready (by simp) rfl (setPortRequest_on hindex hoff)

end Sys2Proof.Machine

/-! SUPPORT. The decision of an ENROL (R92, R102 to R106, R129). -/

namespace Sys2Proof.Machine

/-! ## The ENROL that is heard, and its decision -/

/-- The part with an accepted ENROL heard in the OPEN slot, before the decision. -/
def enrolHeard (q : PortIx) (p : Part) : Part :=
  setSlotError q .none (withEngine q (fun e => { e with activity := .idle }) p)

theorem enrolHeard_port (q : PortIx) (p : Part) : (enrolHeard q p).port q = { p.port q with lastError := .none } :=
  port_setPort_self _ q _

theorem enrolReceived_decided {q : PortIx} {characters : List LineChar} {x : Identity} {wish : Option Address} {p d : Part}
    {result : VerdictResult} (hheld : p.held = false) (hactivity : (p.engine q).activity = .response)
    (hslot : (p.engine q).slot = .openSlot) (haccepted : acceptedResponse true characters = some (.enrol x wish))
    (hdecided : decideEnrol q x wish (enrolHeard q p) = (d, result)) :
    enrolReceived q characters p = withEngine q (fun e => { e with verdict := some { identity := x, result := result } }) d := by
  have hdecided' : decideEnrol q x wish (setSlotError q .none (withEngine q (fun e => { e with activity := .idle }) p)) =
      (d, result) := hdecided
  simp only [enrolReceived, haccepted, enrolAccepted, unlessHeld_of_free hheld, if_pos (And.intro hactivity hslot),
    hdecided']

/-- Leave for an ENROL: the record, the port, the hub's record of the last refusal, and their entries. -/
def Access.enrolling (q : PortIx) (i : RecordIx) : Access :=
  { hub := False, step := False, slots := fun _ => False, records := fun j => j = i, ports := fun x => x = q
    engines := fun x => x = q, pairs := fun _ => False, owners := fun o => o = .record i
    marks := fun o _ => o = .record i }

theorem enrolHeard_within (q : PortIx) (i : RecordIx) (p : Part) : Within (.enrolling q i) p (enrolHeard q p) :=
  ((Within.refl (.enrolling q i) p).withEngine (x := q) rfl (fun e => { e with activity := .idle })).withPort (x := q) rfl
    (fun r => { r with lastError := .none })

theorem enrolRecord_within {q : PortIx} {i : RecordIx} {p r : Part} (h : Within (.enrolling q i) p r) (x : Identity) :
    Within (.enrolling q i) p (enrolRecord q x i r) :=
  (h.withRecord (i := i) rfl _).report ⟨rfl, nofun, fun _ => rfl⟩

theorem settle_keepsBase {p d : Part} (h : KeepsBase p d) (w : List Instr) : KeepsBase p (settle w d) := by
  obtain ⟨hosc, hclock, hporn, hwrst, htb⟩ := h
  exact ⟨(settle_osc _ _).trans hosc, (settle_lineClock _ _).trans hclock, (settle_porn _ _).trans hporn,
    (settle_wrst _ _).trans hwrst, by rw [settle_tb]; exact htb⟩

/-- The verdict waits at the port, and nothing else is touched by it. -/
theorem enrolling_verdict {q : PortIx} {i : RecordIx} {p d : Part} (h : Within (.enrolling q i) p d) (v : Verdict)
    (w : List Instr) :
    ((settle w (withEngine q (fun e => { e with verdict := some v }) d)).engine q).verdict = some v ∧
      KeepsOtherRecords i p (settle w (withEngine q (fun e => { e with verdict := some v }) d)) ∧
      KeepsOtherPorts q p (settle w (withEngine q (fun e => { e with verdict := some v }) d)) ∧
      KeepsBase p (settle w (withEngine q (fun e => { e with verdict := some v }) d)) := by
  have hwithin : Within (.enrolling q i) p (withEngine q (fun e => { e with verdict := some v }) d) :=
    h.withEngine (x := q) rfl _
  refine ⟨?_, fun j hj => ?_, fun j hj => ?_, settle_keepsBase (hwithin.keepsBase nofun) w⟩
  · rw [settle_engine, withEngine, engine_setEngine_self]
  · rw [settle_record]
    exact hwithin.records j hj
  · rw [settle_port, settle_engine]
    exact ⟨hwithin.ports j hj, hwithin.engines j hj⟩

theorem verdict_reported {q : PortIx} {d : Part} {o : Owner} {c : Condition} {shows : Entry → Prop} {v : Verdict}
    (h : d.Reported o c shows) (w : List Instr) :
    (settle w (withEngine q (fun e => { e with verdict := some v }) d)).Reported o c shows :=
  Part.Reported.settle (p := withEngine q _ d) h w

/-! ## The record that an ENROL is bound to (R102, R103) -/

theorem reservedOn_iff (r : ServiceRecord) (q : PortIx) : r.reservedOn q = true ↔ r.state = .reserved ∧ r.currentPort = q := by
  simp [ServiceRecord.reservedOn]

theorem counts_of_reservedOn {r : ServiceRecord} {q : PortIx} (h : r.reservedOn q = true) : r.counts q = true := by
  obtain ⟨hstate, hport⟩ := (reservedOn_iff r q).1 h
  exact (counts_iff r q).2 ⟨by simp [hstate], .inr hport⟩

/-- The clash is with the one record that the laws of R94 let hold the identity. -/
theorem clashing_of_laws {p : Part} {q : PortIx} {x : Identity} {i : RecordIx} (laws : RecordLaws p)
    (hstate : (p.record i).state ≠ .vacant) (hidentity : (p.record i).identity = some x)
    (helsewhere : (p.record i).reservedOn q = false) : p.clashing q x = some i := by
  refine find_finRange_unique (by simp [hstate, hidentity, helsewhere]) fun j hj => ?_
  obtain ⟨⟨hs, hx⟩, _⟩ : ((p.record j).state ≠ .vacant ∧ (p.record j).identity = some x) ∧
    (p.record j).reservedOn q = false := by simpa using hj
  exact laws.2 x j i hs hstate hx hidentity

theorem clashing_none {p : Part} {q : PortIx} {x : Identity}
    (h : ∀ j, (p.record j).state ≠ .vacant → (p.record j).identity = some x → (p.record j).reservedOn q = true) :
    p.clashing q x = none := by
  refine find_finRange_none fun j => ?_
  by_cases hs : (p.record j).state = .vacant
  · simp [hs]
  · by_cases hx : (p.record j).identity = some x
    · simp [h j hs hx]
    · simp [hx]

/-- The RESERVED record of the port that holds the identity comes first. -/
theorem reservedFor_holder {p : Part} {q : PortIx} {x : Identity} {wish : Option Address} {i : RecordIx}
    (laws : RecordLaws p) (hon : (p.record i).reservedOn q = true) (hidentity : (p.record i).identity = some x) :
    p.reservedFor q x wish = some i := by
  have live {j : RecordIx} (h : (p.record j).reservedOn q = true) : (p.record j).state ≠ .vacant := by
    simp [((reservedOn_iff _ _).1 h).1]
  have hfind : allRecords.find? (fun j => (p.record j).reservedOn q && (p.record j).identity == some x) = some i := by
    refine find_finRange_unique (by simp [hon, hidentity]) fun j hj => ?_
    obtain ⟨hj, hjx⟩ : (p.record j).reservedOn q = true ∧ (p.record j).identity = some x := by simpa using hj
    exact laws.2 x j i (live hj) (live hon) hjx hidentity
  simp only [Part.reservedFor, hfind]

/-- With no holder, the RESERVED record of the port without an identity, at the wished address or the lowest. -/
theorem reservedFor_fresh {p : Part} {q : PortIx} {x : Identity} {wish : Option Address} {i : RecordIx}
    (laws : RecordLaws p) (hon : (p.record i).reservedOn q = true) (hnone : (p.record i).identity = none)
    (hnobody : ∀ j, (p.record j).state ≠ .vacant → (p.record j).identity ≠ some x)
    (hwish : wish = some (p.record i).address ∨ (wish = none ∧ ∀ j, j < i → (p.record j).state = .reserved →
      (p.record j).currentPort = q → (p.record j).identity ≠ none)) : p.reservedFor q x wish = some i := by
  have hholder : allRecords.find? (fun j => (p.record j).reservedOn q && (p.record j).identity == some x) = none := by
    refine find_finRange_none fun j => ?_
    by_cases hj : (p.record j).reservedOn q = true
    · simp [hnobody j (by simp [((reservedOn_iff _ _).1 hj).1])]
    · simp [hj]
  obtain rfl | ⟨rfl, hlow⟩ := hwish
  · have hfind : allRecords.find? (fun j => (p.record j).reservedOn q && (p.record j).identity == none &&
        (p.record j).address == (p.record i).address) = some i := by
      refine find_finRange_unique (by simp [hon, hnone]) fun j hj => ?_
      obtain ⟨⟨hj, _⟩, ha⟩ : ((p.record j).reservedOn q = true ∧ (p.record j).identity = none) ∧
        (p.record j).address = (p.record i).address := by simpa using hj
      exact laws.1 q j i (counts_of_reservedOn hj) (counts_of_reservedOn hon) ha
    simp only [Part.reservedFor, hholder, hfind]
  · have hfind : allRecords.find? (fun j => (p.record j).reservedOn q && (p.record j).identity == none && true) =
        some i := by
      refine find_finRange (by simp [hon, hnone]) fun j hj => ?_
      by_cases hon : (p.record j).reservedOn q = true
      · obtain ⟨hstate, hport⟩ := (reservedOn_iff _ _).1 hon
        simp [Option.isSome_iff_ne_none, hlow j hj hstate hport]
      · simp [hon]
    simp only [Part.reservedFor, hholder, hfind]

/-- No RESERVED record of the port is the ENROL's. -/
theorem reservedFor_none {p : Part} {q : PortIx} {x : Identity} {wish : Option Address}
    (hnobody : ∀ j, (p.record j).state ≠ .vacant → (p.record j).identity ≠ some x)
    (hwish : ∀ j, (p.record j).state = .reserved → (p.record j).currentPort = q → (p.record j).identity = none →
      ∃ w, wish = some w ∧ (p.record j).address ≠ w) : p.reservedFor q x wish = none := by
  have hholder : allRecords.find? (fun j => (p.record j).reservedOn q && (p.record j).identity == some x) = none := by
    refine find_finRange_none fun j => ?_
    by_cases hj : (p.record j).reservedOn q = true
    · simp [hnobody j (by simp [((reservedOn_iff _ _).1 hj).1])]
    · simp [hj]
  rw [Part.reservedFor, hholder]
  refine find_finRange_none fun j => ?_
  by_cases hon : (p.record j).reservedOn q = true
  · by_cases hnone : (p.record j).identity = none
    · obtain ⟨hstate, hport⟩ := (reservedOn_iff _ _).1 hon
      obtain ⟨w, rfl, hne⟩ := hwish j hstate hport hnone
      simp [hne]
    · simp [hnone]
  · simp [hon]

/-! ## The address that an enrolment takes (R104) -/

theorem freeAddresses_head (p : Part) (q : PortIx) :
    (p.freeAddresses q).head? = allAddresses.find? (fun a => p.addressFree q a) := by
  rw [Part.freeAddresses, List.head?_filter]

theorem enrolAddress_wish {p : Part} {q : PortIx} {a : Address} (h : p.addressFree q a = true) :
    p.enrolAddress q (some a) = some a := if_pos h

theorem enrolAddress_lowest {p : Part} {q : PortIx} {wish : Option Address} {a : Address}
    (hwish : ∀ w, wish = some w → p.addressFree q w = false) (hfree : p.addressFree q a = true)
    (hlow : ∀ w, w < a → p.addressFree q w = false) : p.enrolAddress q wish = some a := by
  have hhead : (p.freeAddresses q).head? = some a := by
    rw [freeAddresses_head]
    exact find_finRange hfree hlow
  cases wish with
  | none => exact hhead
  | some w => exact (if_neg (by simp [hwish w rfl])).trans hhead

theorem enrolAddress_none {p : Part} {q : PortIx} {wish : Option Address} (h : ∀ a, p.addressFree q a = false) :
    p.enrolAddress q wish = none := by
  have hhead : (p.freeAddresses q).head? = none := by
    rw [freeAddresses_head]
    exact find_finRange_none h
  cases wish with
  | none => exact hhead
  | some w => exact (if_neg (by simp [h w])).trans hhead

theorem usableRecord_lowest {p : Part} {i : RecordIx} (hvacant : (p.record i).state = .vacant)
    (hfree : p.recordHeld i = false)
    (hlow : ∀ j, j < i → (p.record j).state ≠ .vacant ∨ p.recordHeld j = true) : p.usableRecord = some i :=
  find_finRange (by simp [hvacant, hfree]) fun j hj => by
    obtain h | h := hlow j hj <;> simp [h]

theorem usableRecord_none {p : Part} (h : ∀ i, (p.record i).state ≠ .vacant ∨ p.recordHeld i = true) :
    p.usableRecord = none :=
  find_finRange_none fun j => by
    obtain h | h := h j <;> simp [h]

/-! ## The reports -/

theorem enrolRecord_record (q : PortIx) (x : Identity) (i : RecordIx) (p : Part) :
    (enrolRecord q x i p).record i =
      { p.record i with
        state := .pending, identity := some x, silentCount := 0, silentSeconds := 0, dismissAttempts := 0
        resetRequest := false } := by
  rw [enrolRecord, report_record, record_withRecord, if_pos rfl]

/-- A raise of a record that carries an identity and a port shows both. -/
theorem reported_identity {p : Part} {q : PortIx} {x : Identity} {i : RecordIx} {c : Condition}
    (h : p.alarm.settings.recordThreshold = some .note) (hseverity : Severity.note.code ≤ c.severity.code) :
    (report { recordPortReport c true q i p with identity := some x } p).Reported (.record i) c
      (fun e => e.identity = some x ∧ e.ports = some (portMask q)) :=
  (reported_report (r := { recordPortReport c true q i p with identity := some x }) rfl rfl
    (atThreshold_of_note h rfl hseverity)).mono fun _ shown => ⟨shown.identity _ rfl, shown.ports _ rfl⟩

theorem enrolRecord_reported {p : Part} {q : PortIx} {x : Identity} {i : RecordIx}
    (h : p.alarm.settings.recordThreshold = some .note) :
    (enrolRecord q x i p).Reported (.record i) .enrolled (fun e => e.identity = some x ∧ e.ports = some (portMask q)) :=
  reported_identity (c := .enrolled) h (Nat.le_refl _)

theorem refuseEnrol_reported {p : Part} {q : PortIx} {x : Identity} {detail : Detail}
    (h : p.alarm.settings.hubThreshold = some .note) :
    (refuseEnrol q x detail p).Reported .hub .enrolRefused
      (fun e => e.identity = some x ∧ e.ports = some (portMask q) ∧ e.detail = some detail) := by
  refine (reported_report rfl rfl ?_).mono fun _ shown =>
    ⟨shown.identity _ rfl, shown.ports _ rfl, shown.detail _ rfl⟩
  have hthreshold : (withHub (fun r => { r with lastRefused := some x }) p).alarm.threshold .hub = some .note := h
  change (match (withHub (fun r => { r with lastRefused := some x }) p).alarm.threshold .hub with
    | none => false
    | some v => decide (v.code ≤ Condition.enrolRefused.severity.code)) = true
  rw [hthreshold]
  rfl

theorem refuseEnrol_keepsBase (q : PortIx) (x : Identity) (detail : Detail) (p : Part) (f : Engine → Engine) :
    KeepsBase p (withEngine q f (refuseEnrol q x detail (enrolHeard q p))) := ⟨rfl, rfl, rfl, rfl, rfl⟩

/-! ## The four ways an ENROL is decided -/

section Decided

variable {p : Part} {q : PortIx} {x : Identity} {wish : Option Address}

theorem decideEnrol_clash {i : RecordIx} (h : p.clashing q x = some i) :
    decideEnrol q x wish p =
      (report { recordPortReport .identityClash true q i p with identity := some x } p, .refuse .duplicate) := by
  simp only [decideEnrol, h]

theorem decideEnrol_bound {i : RecordIx} (hclash : p.clashing q x = none) (h : p.reservedFor q x wish = some i) :
    decideEnrol q x wish p = (enrolRecord q x i p, .admitted (p.record i).address) := by
  simp only [decideEnrol, hclash, h]

theorem decideEnrol_closed (hclash : p.clashing q x = none) (h : p.reservedFor q x wish = none)
    (hmode : (p.port q).mode = .closed) : decideEnrol q x wish p = (refuseEnrol q x .closed p, .refuse .closed) := by
  simp only [decideEnrol, hclash, h, hmode]

theorem decideEnrol_full (hclash : p.clashing q x = none) (h : p.reservedFor q x wish = none)
    (hmode : (p.port q).mode = .open) (hfull : p.enrolAddress q wish = none ∨ p.usableRecord = none) :
    decideEnrol q x wish p = (refuseEnrol q x .full p, .refuse .full) := by
  obtain hfull | hfull := hfull
  · simp only [decideEnrol, hclash, h, hmode, hfull]
  · simp only [decideEnrol, hclash, h, hmode, hfull]
    cases p.enrolAddress q wish <;> rfl

theorem decideEnrol_created {i : RecordIx} {a : Address} (hclash : p.clashing q x = none)
    (h : p.reservedFor q x wish = none) (hmode : (p.port q).mode = .open) (haddress : p.enrolAddress q wish = some a)
    (hrecord : p.usableRecord = some i) :
    decideEnrol q x wish p =
      (enrolRecord q x i
        (bindPort q (withRecord i (fun old => created old q a (some x) (p.port q).defaultBudget) p)), .admitted a) := by
  simp only [decideEnrol, hclash, h, hmode, haddress, hrecord]

end Decided

/-- Settles O32: the four decisions, each on the part with the ENROL heard. -/
theorem enrolIsDecidedAtOnce : Obligations.EnrolIsDecidedAtOnce := by
  intro s q characters x wish hheld hactivity hslot haccepted
  have hport := enrolHeard_port q s.part
  have decided {d : Part} {result : VerdictResult} (h : decideEnrol q x wish (enrolHeard q s.part) = (d, result)) :
      commandWork (.enrol q characters) s.part =
        withEngine q (fun e => { e with verdict := some { identity := x, result := result } }) d :=
    enrolReceived_decided hheld hactivity hslot haccepted h
  refine ⟨fun i laws hstate hidentity helsewhere => ?_, fun i laws hreserved hcurrent hbound => ?_,
    fun hnobody hwish => ⟨fun reason detail hrefused => ?_, fun i a hmode hvacant hfree hlow haddress => ?_⟩⟩
  · have hnot : (s.part.record i).reservedOn q = false := by
      obtain h | h := helsewhere <;> simp [ServiceRecord.reservedOn, h]
    have hclash : (enrolHeard q s.part).clashing q x = some i := clashing_of_laws (p := s.part) laws hstate hidentity hnot
    refine ⟨_, completes_of_work (decided (decideEnrol_clash hclash)), rfl, ?_, ?_, ?_, fun hthreshold => ?_⟩
    · rw [settle_records]
      rfl
    · rw [settle_hub]
      rfl
    · rw [settle_engine, withEngine, engine_setEngine_self]
    · exact verdict_reported (reported_identity (p := enrolHeard q s.part) (c := .identityClash) hthreshold
        (by simp [Severity.code, Condition.severity])) _
  · have hon : (s.part.record i).reservedOn q = true := (reservedOn_iff _ _).2 ⟨hreserved, hcurrent⟩
    have hlive : (s.part.record i).state ≠ .vacant := by simp [hreserved]
    have hclash : (enrolHeard q s.part).clashing q x = none := by
      refine clashing_none (p := s.part) fun j hs hx => ?_
      obtain hidentity | ⟨hnobody, _⟩ := hbound
      · exact laws.2 x j i hs hlive hx hidentity ▸ hon
      · exact absurd hx (hnobody j hs)
    have hreservedFor : (enrolHeard q s.part).reservedFor q x wish = some i := by
      obtain hidentity | ⟨hnobody, hnone, hat⟩ := hbound
      · exact reservedFor_holder (p := s.part) laws hon hidentity
      · exact reservedFor_fresh (p := s.part) laws hon hnone hnobody hat
    have hwithin := enrolRecord_within (enrolHeard_within q i s.part) x
    obtain ⟨hverdict, hrecords, hports, hbase⟩ :=
      enrolling_verdict hwithin { identity := x, result := .admitted (s.part.record i).address } s.pending
    refine ⟨_, completes_of_work (decided (decideEnrol_bound hclash hreservedFor)), rfl, ?_, hverdict, fun hthreshold => ?_,
      hrecords, hports, hbase⟩
    · rw [settle_record]
      exact enrolRecord_record q x i (enrolHeard q s.part)
    · exact verdict_reported (enrolRecord_reported (p := enrolHeard q s.part) hthreshold) _
  · have hclash : (enrolHeard q s.part).clashing q x = none :=
      clashing_none (p := s.part) fun j hs hx => absurd hx (hnobody j hs)
    have hreservedFor : (enrolHeard q s.part).reservedFor q x wish = none := reservedFor_none (p := s.part) hnobody hwish
    have hdecided : decideEnrol q x wish (enrolHeard q s.part) =
        (refuseEnrol q x detail (enrolHeard q s.part), .refuse reason) := by
      obtain ⟨hmode, rfl, rfl⟩ | ⟨hmode, rfl, rfl, hfull⟩ := hrefused
      · exact decideEnrol_closed hclash hreservedFor (by rw [hport]; exact hmode)
      · refine decideEnrol_full hclash hreservedFor (by rw [hport]; exact hmode) ?_
        obtain hfull | hfull := hfull
        · exact .inl (enrolAddress_none (p := s.part) hfull)
        · exact .inr (usableRecord_none (p := s.part) hfull)
    refine ⟨_, completes_of_work (decided hdecided), rfl, ?_, ?_, ?_, fun hthreshold => ?_, fun j hj => ?_, ?_⟩
    · rw [settle_records]
      rfl
    · rw [settle_hub]
      rfl
    · rw [settle_engine, withEngine, engine_setEngine_self]
    · exact verdict_reported (refuseEnrol_reported (p := enrolHeard q s.part) hthreshold) _
    · rw [settle_port, settle_engine]
      refine ⟨port_setPort_ne _ hj.symm _, ?_⟩
      rw [withEngine, engine_setEngine_ne _ hj.symm]
      exact engine_setEngine_ne _ hj.symm _
    · exact settle_keepsBase (refuseEnrol_keepsBase q x detail s.part _) _
  · have hclash : (enrolHeard q s.part).clashing q x = none :=
      clashing_none (p := s.part) fun j hs hx => absurd hx (hnobody j hs)
    have hreservedFor : (enrolHeard q s.part).reservedFor q x wish = none := reservedFor_none (p := s.part) hnobody hwish
    have hrecord : (enrolHeard q s.part).usableRecord = some i := usableRecord_lowest (p := s.part) hvacant hfree hlow
    have htaken : (enrolHeard q s.part).enrolAddress q wish = some a := by
      obtain ⟨rfl, hwished⟩ | ⟨hunwished, hlowest, hlower⟩ := haddress
      · exact enrolAddress_wish (p := s.part) hwished
      · exact enrolAddress_lowest (p := s.part) hunwished hlowest hlower
    have hmode' : ((enrolHeard q s.part).port q).mode = .open := by rw [hport]; exact hmode
    have hbudget : ((enrolHeard q s.part).port q).defaultBudget = (s.part.port q).defaultBudget := by rw [hport]
    have hcreated := decideEnrol_created hclash hreservedFor hmode' htaken hrecord
    rw [hbudget] at hcreated
    have hwithin := enrolRecord_within (x := x)
      (((enrolHeard_within q i s.part).withRecord (i := i) rfl
        (fun old => created old q a (some x) (s.part.port q).defaultBudget)).bindPort (x := q) rfl)
    obtain ⟨hverdict, hrecords, hports, hbase⟩ :=
      enrolling_verdict hwithin { identity := x, result := .admitted a } s.pending
    refine ⟨_, completes_of_work (decided hcreated), rfl, ?_, hverdict, fun hthreshold => ?_, hrecords, hports, hbase⟩
    · have hmade : (bindPort q (withRecord i (fun old => created old q a (some x) (s.part.port q).defaultBudget)
          (enrolHeard q s.part))).record i = created (s.part.record i) q a (some x) (s.part.port q).defaultBudget := by
        rw [bindPort, setPort_record, record_withRecord, if_pos rfl]
        rfl
      rw [settle_record, withEngine, setEngine_record, enrolRecord_record, hmade]
      rfl
    · exact verdict_reported (enrolRecord_reported
        (p := bindPort q (withRecord i (fun old => created old q a (some x) (s.part.port q).defaultBudget)
          (enrolHeard q s.part))) hthreshold) _

end Sys2Proof.Machine

/-! SUPPORT. What an accepted ECHO makes of its record (R107, R139 to R150). -/

namespace Sys2Proof.Machine

/-! ## The delay filter and the window (R142 to R150) -/

section Filter

variable (d : Int) (r : ServiceRecord)

/-- Only the filter and the outlier run change when a one-way delay is taken. -/
theorem filterDelay_leaves : ∃ f n, filterDelay d r = { r with filter := some f, outlierRun := n } := by
  unfold filterDelay filterAction
  cases hf : r.filter with
  | none => exact ⟨_, _, rfl⟩
  | some f =>
    by_cases hgate : magnitude (d - f) ≤ gateLimit
    · simp only [if_pos hgate, Option.map_some]
      exact ⟨_, _, rfl⟩
    · by_cases hfifth : 5 ≤ r.outlierRun + 1
      · simp only [if_neg hgate, if_pos hfifth]
        exact ⟨_, _, rfl⟩
      · simp only [if_neg hgate, if_neg hfifth]
        exact ⟨f, r.outlierRun + 1, by rw [← hf]⟩

theorem filterDelay_filter :
    (filterDelay d r).filter =
      some (match r.filter with
        | none => d
        | some f =>
          if magnitude (d - f) ≤ 13107200 then f + roundDiv (d - f) 8 else if 5 ≤ r.outlierRun + 1 then d else f) := by
  unfold filterDelay filterAction
  cases hf : r.filter with
  | none => rfl
  | some f =>
    by_cases hgate : magnitude (d - f) ≤ gateLimit
    · have hgate' : magnitude (d - f) ≤ 13107200 := hgate
      simp only [if_pos hgate, if_pos hgate', Option.map_some]
    · have hgate' : ¬ magnitude (d - f) ≤ 13107200 := hgate
      by_cases hfifth : 5 ≤ r.outlierRun + 1
      · simp only [if_neg hgate, if_neg hgate', if_pos hfifth]
      · simp only [if_neg hgate, if_neg hgate', if_neg hfifth]

theorem filterDelay_outlierRun :
    (filterDelay d r).outlierRun =
      (match r.filter with
        | none => 0
        | some f =>
          if magnitude (d - f) ≤ 13107200 then 0 else if 5 ≤ r.outlierRun + 1 then 0 else r.outlierRun + 1) := by
  unfold filterDelay filterAction
  cases hf : r.filter with
  | none => rfl
  | some f =>
    by_cases hgate : magnitude (d - f) ≤ gateLimit
    · have hgate' : magnitude (d - f) ≤ 13107200 := hgate
      simp only [if_pos hgate, if_pos hgate']
    · have hgate' : ¬ magnitude (d - f) ≤ 13107200 := hgate
      by_cases hfifth : 5 ≤ r.outlierRun + 1
      · simp only [if_neg hgate, if_neg hgate', if_pos hfifth]
      · simp only [if_neg hgate, if_neg hgate', if_neg hfifth]

/-- The fifth outlier of a run re-initialises the filter (R145). -/
theorem filterAction_fifth {f : Int} (hf : r.filter = some f) (hgate : 13107200 < magnitude (d - f))
    (hfifth : 5 ≤ r.outlierRun + 1) : filterAction r d = .reinitialised := by
  have hbeyond : ¬ magnitude (d - f) ≤ gateLimit := Int.not_le.2 hgate
  simp only [filterAction, hf, if_neg hbeyond, if_pos hfifth]

/-- No other one-way delay does. -/
theorem filterAction_plain (h : ∀ f, r.filter = some f → magnitude (d - f) ≤ 13107200 ∨ r.outlierRun + 1 < 5) :
    filterAction r d ≠ .reinitialised := by
  unfold filterAction
  cases hf : r.filter with
  | none => simp
  | some f =>
    obtain hgate | hfew := h f hf
    · simp [if_pos (c := magnitude (d - f) ≤ gateLimit) hgate]
    · have hnot : ¬ 5 ≤ r.outlierRun + 1 := by omega
      by_cases hgate : magnitude (d - f) ≤ gateLimit
      · simp [hgate]
      · simp [hgate, hnot]

end Filter

theorem countSlot_open {r : ServiceRecord} {c : SlotCount} (hon : r.statistics = true) (hroom : r.window.count + 1 < 64) :
    countSlot c r = { r with window := r.window.add c } := by
  have hcount : (r.window.add c).count = r.window.count + 1 := by cases c <;> rfl
  rw [countSlot, if_pos hon, if_neg (by omega)]

theorem countSlot_off {r : ServiceRecord} {c : SlotCount} (hoff : r.statistics = false) : countSlot c r = r :=
  if_neg (by simp [hoff])

/-! ## The record of an ECHO (R107, R139) -/

/-- A record with the round trip of an ECHO taken, and the slot counted (R140 to R149). -/
def timed (rtd : Option Int) (r : ServiceRecord) : ServiceRecord :=
  match rtd with
  | none => countSlot .unmeasured r
  | some v =>
    if rtdWrong v then stopStatistics r
    else countSlot (.measured v) (filterDelay (oneWayDelay v r.share) r).formCompensation

/-- A record with an ECHO accepted (R107). -/
def answeredBy (q : PortIx) (r : ServiceRecord) : ServiceRecord :=
  { r with
    lastPort := some q, silentCount := 0, silentSeconds := 0, state := stateAfterEcho r.state r.filter.isSome }

theorem takeDelay_record (v : Int) (q : PortIx) (i : RecordIx) (p : Part) :
    (takeDelay v q i p).record i =
      countSlot (.measured v) (filterDelay (oneWayDelay v (p.record i).share) (p.record i)).formCompensation := by
  unfold takeDelay
  dsimp only
  rw [record_withRecord, if_pos rfl]
  congr 1
  split
  · rw [raiseRecord, report_record, record_withRecord, if_pos rfl]
  all_goals rw [record_withRecord, if_pos rfl]

/-- The record and the reports of an ECHO up to its time error judgement. -/
def echoTimed (rtd : Option Int) (q : PortIx) (i : RecordIx) (p : Part) : Part :=
  match rtd with
  | none => withRecord i (countSlot .unmeasured) p
  | some v => if rtdWrong v then measurementCheck q i p else takeDelay v q i p

theorem measureEcho_eq (rtd : Option Int) (q : PortIx) (i : RecordIx) (p : Part) :
    measureEcho rtd q i p = judgeTe q i (echoTimed rtd q i p) := by
  cases rtd <;> rfl

theorem echoTimed_record (rtd : Option Int) (q : PortIx) (i : RecordIx) (p : Part) :
    (echoTimed rtd q i p).record i = timed rtd (p.record i) := by
  cases rtd with
  | none =>
    rw [echoTimed, record_withRecord, if_pos rfl]
    rfl
  | some v =>
    by_cases hwrong : rtdWrong v = true
    · simp only [echoTimed, timed, if_pos hwrong, measurementCheck]
      rw [record_withRecord, if_pos rfl, raiseRecord, report_record]
    · simp only [echoTimed, timed, if_neg hwrong]
      exact takeDelay_record v q i p

theorem echoTimed_within (rtd : Option Int) (q : PortIx) (i : RecordIx) (p : Part) :
    Within (.outcome i) p (echoTimed rtd q i p) := by
  have hi := Access.outcome_record i
  unfold echoTimed
  split
  · exact (Within.refl _ p).withRecord hi.record _
  · exact .ite (((Within.refl _ p).raiseRecord hi _ _).withRecord hi.record _) ((Within.refl _ p).takeDelay hi _ _)

/-- The record and the reports of an ECHO before it is offered to the return slots. -/
def echoHeard (rtd : Option Int) (q : PortIx) (i : RecordIx) (p : Part) : Part :=
  recordEcho q i (measureEcho rtd q i p)

theorem recordEcho_record (q : PortIx) (i : RecordIx) (p : Part) :
    (recordEcho q i p).record i = answeredBy q (p.record i) := by
  unfold recordEcho
  dsimp only
  split
  · rw [clearRecord, report_record, record_withRecord, if_pos rfl]
    rfl
  · rw [record_withRecord, if_pos rfl]
    rfl

theorem echoHeard_record (rtd : Option Int) (q : PortIx) (i : RecordIx) (p : Part) :
    (echoHeard rtd q i p).record i = answeredBy q (judged p.hub.bound (timed rtd (p.record i))) := by
  rw [echoHeard, recordEcho_record, measureEcho_eq, judgeTe_record, echoTimed_record,
    (echoTimed_within rtd q i p).hub nofun]

theorem echoHeard_within (rtd : Option Int) (q : PortIx) (i : RecordIx) (p : Part) :
    Within (.outcome i) p (echoHeard rtd q i p) :=
  ((Within.refl _ p).measureEcho (Access.outcome_record i) (.inl rfl) rtd q).recordEcho (Access.outcome_record i) q

/-- The return slots take the ECHO last (R31; log entry 41). -/
theorem takeEcho_eq (q : PortIx) (t : SlotTarget) (t1 t4 : Option Stamp) (fields : EchoFields) (p : Part) :
    takeEcho q t t1 t4 fields p =
      offerEcho 5 t.record t.generation fields t.filterHeld
        (offerEcho 4 t.record t.generation fields t.filterHeld
          (echoHeard (roundTrip t1 t4 fields.turnaround.toNat) q t.record p)) := rfl

/-- Leave for the two return slots and the choice. -/
def Access.returning : Access :=
  { Access.choosing with
    slots := fun k => k = 4 ∨ k = 5, owners := fun o => o = .hub ∨ o = .slot 4 ∨ o = .slot 5
    marks := fun o _ => o = .hub ∨ o = .slot 4 ∨ o = .slot 5 }

theorem Access.returning_returns : returning.Returns where
  choice := ⟨trivial, .inl rfl, fun _ _ => .inl rfl⟩
  slot4 := ⟨.inl rfl, .inr (.inl rfl), fun _ => .inr (.inl rfl)⟩
  slot5 := ⟨.inr rfl, .inr (.inr rfl), fun _ => .inr (.inr rfl)⟩

theorem offers_within (i : RecordIx) (g : Generation) (fields : EchoFields) (held : Bool) (p : Part) :
    Within .returning p (offerEcho 5 i g fields held (offerEcho 4 i g fields held p)) :=
  ((Within.refl _ p).offerEcho Access.returning_returns.choice Access.returning_returns.slot4 i g fields held).offerEcho
    Access.returning_returns.choice Access.returning_returns.slot5 i g fields held

theorem takeEcho_record (q : PortIx) (t : SlotTarget) (t1 t4 : Option Stamp) (fields : EchoFields) (p : Part) :
    (takeEcho q t t1 t4 fields p).record t.record =
      answeredBy q (judged p.hub.bound (timed (roundTrip t1 t4 fields.turnaround.toNat) (p.record t.record))) := by
  rw [takeEcho_eq, (offers_within _ _ _ _ _).records _ nofun, echoHeard_record]

theorem takeEcho_within (q : PortIx) (t : SlotTarget) (t1 t4 : Option Stamp) (fields : EchoFields) (p : Part) :
    Within (.ending t.record) p (takeEcho q t t1 t4 fields p) :=
  (Within.refl _ p).takeEcho (Access.ending_record _) (Access.ending_returns _) rfl q t1 t4 fields

/-- An accepted ECHO in the slot of a live record. -/
theorem echoReceived_live {q : PortIx} {t : SlotTarget} {characters : List LineChar} {fields : EchoFields} {p : Part}
    (hlive : p.LiveSlot q t) (hactivity : (p.engine q).activity = .response)
    (hecho : acceptedEcho characters = some fields) :
    echoReceived q characters p =
      takeEcho q t (p.engine q).t1 (p.engine q).t4 fields (slotDecided q .none p) := by
  obtain ⟨hheld, hslot, htarget, hgeneration, hstate⟩ := hlive
  simp only [echoReceived, hecho]
  rw [responseAccepted_target _ hheld hactivity hslot htarget,
    recordOutcome_live (p := slotDecided q .none p) _ _ _ hgeneration hstate, liveOutcome]

/-! ## What the fields of the record come to -/

theorem countSlot_state (c : SlotCount) (r : ServiceRecord) :
    (countSlot c r).state = r.state ∧ (countSlot c r).filter = r.filter ∧ (countSlot c r).outlierRun = r.outlierRun ∧
      (countSlot c r).compensation = r.compensation ∧ (countSlot c r).statistics = r.statistics ∧
      (countSlot c r).generation = r.generation := by
  obtain ⟨w, h, s, hcount⟩ := countSlot_leaves c r
  rw [hcount]
  exact ⟨rfl, rfl, rfl, rfl, rfl, rfl⟩

/-- What a round trip and the count of its slot can change in a record. -/
theorem timed_leaves (rtd : Option Int) (r : ServiceRecord) :
    ∃ w h st on f n c, timed rtd r =
      { r with
        window := w, halfSpread := h, stale := st, statistics := on, filter := f, outlierRun := n, compensation := c } := by
  unfold timed
  split
  · obtain ⟨w, h, st, hcount⟩ := countSlot_leaves .unmeasured r
    exact ⟨w, h, st, _, _, _, _, hcount⟩
  · next v =>
    split
    · exact ⟨_, _, _, _, _, _, _, rfl⟩
    · obtain ⟨w, h, st, hcount⟩ :=
        countSlot_leaves (.measured v) (filterDelay (oneWayDelay v r.share) r).formCompensation
      obtain ⟨f, n, hfilter⟩ := filterDelay_leaves (oneWayDelay v r.share) r
      rw [hcount, hfilter]
      exact ⟨w, h, st, _, _, _, _, rfl⟩

theorem timed_state (rtd : Option Int) (r : ServiceRecord) :
    (timed rtd r).state = r.state ∧ (timed rtd r).generation = r.generation := by
  obtain ⟨w, h, st, on, f, n, c, htimed⟩ := timed_leaves rtd r
  rw [htimed]
  exact ⟨rfl, rfl⟩

/-- The fields of a record that its judgement and the acceptance of the ECHO leave. -/
theorem answered_judged_leaves (q : PortIx) (u : Int) (r : ServiceRecord) :
    ∃ te v l, answeredBy q (judged u r) =
      { r with
        te := te, teState := v, prevLink := l, lastPort := some q, silentCount := 0, silentSeconds := 0
        state := stateAfterEcho r.state r.filter.isSome } := by
  obtain ⟨te, v, l, hjudged⟩ := judged_leaves u r
  exact ⟨te, v, l, by rw [answeredBy, hjudged]⟩

theorem stateAfterEcho_live {state : RecordState} {held : Bool}
    (h : state = .pending ∨ state = .active ∨ state = .silent) :
    stateAfterEcho state held = if state = .active ∨ held = true then .active else .pending := by
  obtain rfl | rfl | rfl := h <;> cases held <;> rfl

/-! ## News of the record under the rest of the ECHO -/

/-- News that only reports of other owners could change stays. -/
theorem Part.Carries.within {A : Access} {p q : Part} {o : Owner} {shows : Entry → Prop} (h : p.Carries o shows)
    (hwithin : Within A p q) (ho : ¬ A.owners o) : q.Carries o shows := by
  obtain ⟨e, hmem, howner, hshows⟩ | ⟨n, hbuffer, howner, hshows⟩ := h
  · have hown : e ∈ p.alarm.entriesOf o := List.mem_filter.2 ⟨hmem, by simp [howner]⟩
    rw [← hwithin.alarm.entries o ho] at hown
    exact .inl ⟨e, (List.mem_filter.1 hown).1, howner, hshows⟩
  · exact .inr ⟨n, hwithin.alarm.buffer.trans hbuffer, howner, hshows⟩

/-- What an entry shows stays under reports that carry the port given. -/
def StableAt (q : PortIx) (shows : Entry → Prop) : Prop :=
  ∀ r : Report, r.ports = some (portMask q) → ∀ e, shows e → shows (e.merge r)

/-- A raised condition with its port is such news. -/
theorem stableAt_raised (q : PortIx) (c : Condition) :
    StableAt q (fun e => hasCondition e.raised c = true ∧ e.ports = some (portMask q)) := by
  refine fun r hports e ⟨hraised, _⟩ => ⟨?_, newer_of_some _ hports⟩
  unfold Entry.merge
  dsimp only
  split
  · rw [hasCondition, BitVec.getLsbD_or]
    exact Bool.or_eq_true_iff.2 (.inl hraised)
  · exact hraised

section News

variable {p : Part} {i : RecordIx} {q : PortIx} {shows : Entry → Prop}

theorem Part.Carries.reportPorted (h : p.Carries (.record i) shows) (hstable : StableAt q shows) {r : Report}
    (hports : r.ports = some (portMask q)) : (Machine.report r p).Carries (.record i) shows :=
  h.report (fun _ => hstable r hports) nofun

theorem Part.Carries.reportPair (h : p.Carries (.record i) shows) (hstable : StableAt q shows) (clearFirst : Bool)
    {a b : Report} (ha : a.ports = some (portMask q)) (hb : b.ports = some (portMask q)) :
    (reportPair clearFirst a b p).Carries (.record i) shows := by
  unfold Machine.reportPair
  split
  · obtain ⟨e, hmem, hnews⟩ | hnotice := h.reportPorted hstable ha
    · exact .inl ⟨e, by rw [updateStanding_list]; exact hmem, hnews⟩
    · exact .inr (by rw [updateStanding_buffer]; exact hnotice)
  · split
    · exact (h.reportPorted hstable hb).reportPorted hstable ha
    · exact (h.reportPorted hstable ha).reportPorted hstable hb

theorem Part.Carries.reportVerdict (h : p.Carries (.record i) shows) (hstable : StableAt q shows) (a b : TeState) (te : Int)
    (x : Bool) : (reportVerdict a b te x q i p).Carries (.record i) shows := by
  unfold Machine.reportVerdict
  dsimp only
  split
  · exact h.reportPorted hstable rfl
  · exact h.reportPorted hstable rfl
  · exact h.reportPorted hstable rfl
  · exact h.reportPorted hstable rfl
  · exact h.reportPorted hstable rfl
  · exact h.reportPair hstable _ rfl rfl
  · exact h.reportPair hstable _ rfl rfl
  · exact h.reportPorted hstable rfl
  all_goals exact h

theorem Part.Carries.judgeTe (h : p.Carries (.record i) shows) (hstable : StableAt q shows) :
    (judgeTe q i p).Carries (.record i) shows := by
  unfold Machine.judgeTe
  dsimp only
  split
  · exact h
  · exact Part.Carries.reportVerdict (p := withRecord i _ p) h hstable _ _ _ _

theorem Part.Carries.recordEcho (h : p.Carries (.record i) shows) (hstable : StableAt q shows) :
    (recordEcho q i p).Carries (.record i) shows := by
  unfold Machine.recordEcho
  dsimp only
  split
  · exact Part.Carries.reportPorted (p := withRecord i _ p) h hstable rfl
  · exact h

end News

/-- News of the record that stands before its judgement stands after the ECHO. -/
theorem takeEcho_carries {q : PortIx} {t : SlotTarget} {t1 t4 : Option Stamp} {fields : EchoFields} {p : Part}
    {shows : Entry → Prop}
    (h : (echoTimed (roundTrip t1 t4 fields.turnaround.toNat) q t.record p).Carries (.record t.record) shows)
    (hstable : StableAt q shows) : (takeEcho q t t1 t4 fields p).Carries (.record t.record) shows := by
  rw [takeEcho_eq]
  refine Part.Carries.within ?_ (offers_within _ _ _ _ _) nofun
  rw [echoHeard, measureEcho_eq]
  exact (h.judgeTe hstable).recordEcho hstable

/-- An ECHO leaves its record without SILENT when it was SILENT. -/
theorem takeEcho_notSilent {q : PortIx} {t : SlotTarget} {t1 t4 : Option Stamp} {fields : EchoFields} {p : Part}
    (hsilent : (p.record t.record).state = .silent) :
    hasCondition ((takeEcho q t t1 t4 fields p).alarm.standingOf (.record t.record)) .silent = false := by
  have hstate : ((measureEcho (roundTrip t1 t4 fields.turnaround.toNat) q t.record p).record t.record).state = .silent := by
    obtain ⟨te, v, l, hjudged⟩ := judged_leaves p.hub.bound (timed (roundTrip t1 t4 fields.turnaround.toNat) (p.record t.record))
    rw [measureEcho_eq, judgeTe_record, echoTimed_record, (echoTimed_within _ q t.record p).hub nofun, hjudged]
    exact (timed_state _ _).1.trans hsilent
  have hcleared (m : Part) (hm : (m.record t.record).state = .silent) :
      hasCondition ((recordEcho q t.record m).alarm.standingOf (.record t.record)) .silent = false := by
    have hwas : ((m.record t.record).state == .silent) = true := by simp [hm]
    simp only [recordEcho, hwas, if_true]
    exact take_cleared (r := recordPortReport .silent false q t.record _) rfl rfl
  rw [takeEcho_eq, hasCondition, (offers_within _ _ _ _ _).alarm.marks (.record t.record) _ nofun]
  exact hcleared _ hstate

end Sys2Proof.Machine

/-! SUPPORT. The ECHO of a live record: the delay filter, the window and DELAY_STEP (R107, R140 to
R150). -/

namespace Sys2Proof.Machine

/-! ## The round trip (R127, R140, R141) -/

section RoundTrip

variable {t1 t4 : Stamp} {n : Nat}

theorem roundTrip_held (h : t1.inHold = true ∨ t4.inHold = true) : roundTrip (some t1) (some t4) n = none := by
  simp only [roundTrip]
  exact if_pos (by simpa using h)

theorem roundTrip_measured (h1 : t1.inHold = false) (h4 : t4.inHold = false) :
    roundTrip (some t1) (some t4) n = some (t4.time.toQ - t1.time.toQ - n * 65536) := by
  simp only [roundTrip, h1, h4, Bool.or_false]
  rfl

theorem rtdWrong_iff (v : Int) : rtdWrong v = true ↔ v ≤ 0 ∨ 65536000000 < v := decide_eq_true_iff

theorem rtdWrong_eq_false {v : Int} (hpos : 0 < v) (hlim : v ≤ 65536000000) : rtdWrong v = false :=
  decide_eq_false (by omega)

end RoundTrip

theorem timed_unmeasured (r : ServiceRecord) : timed none r = countSlot .unmeasured r := rfl

theorem timed_wrong {v : Int} (h : rtdWrong v = true) (r : ServiceRecord) : timed (some v) r = stopStatistics r := if_pos h

theorem timed_right {v : Int} (h : rtdWrong v = false) (r : ServiceRecord) :
    timed (some v) r = countSlot (.measured v) (filterDelay (oneWayDelay v r.share) r).formCompensation :=
  if_neg (by simp [h])

/-! ## The reports of an ECHO before the judgement (R141, R145) -/

/-- News of the record with the port of its slot. -/
theorem raiseRecord_reported {q : PortIx} {i : RecordIx} {c : Condition} {p : Part}
    (h : p.alarm.settings.recordThreshold = some .note) (hseverity : Severity.note.code ≤ c.severity.code) :
    (raiseRecord c q i p).Reported (.record i) c (fun e => e.ports = some (portMask q)) :=
  (reported_report (r := recordPortReport c true q i p) rfl rfl (atThreshold_of_note h rfl hseverity)).mono
    fun _ shown => shown.ports _ rfl

theorem measCheck_reported {q : PortIx} {i : RecordIx} {p : Part} {v : Int} (hwrong : rtdWrong v = true)
    (h : p.alarm.settings.recordThreshold = some .note) :
    (echoTimed (some v) q i p).Reported (.record i) .measCheck (fun e => e.ports = some (portMask q)) := by
  have htimed : echoTimed (some v) q i p = measurementCheck q i p := if_pos hwrong
  rw [htimed]
  exact raiseRecord_reported (c := .measCheck) h (by simp [Severity.code, Condition.severity])

theorem delayStep_reported {q : PortIx} {i : RecordIx} {p : Part} {v : Int} (hright : rtdWrong v = false)
    (hfifth : filterAction (p.record i) (oneWayDelay v (p.record i).share) = .reinitialised)
    (h : p.alarm.settings.recordThreshold = some .note) :
    (echoTimed (some v) q i p).Reported (.record i) .delayStep (fun e => e.ports = some (portMask q)) := by
  have htimed : echoTimed (some v) q i p = takeDelay v q i p := if_neg (by simp [hright])
  rw [htimed]
  simp only [takeDelay, hfifth]
  exact raiseRecord_reported (c := .delayStep)
    (p := withRecord i (fun r => (filterDelay (oneWayDelay v (p.record i).share) r).formCompensation) p) h
    (by simp [Severity.code, Condition.severity])

/-- News of the record that its ECHO makes stands when the command ends. -/
theorem takeEcho_reported {q : PortIx} {t : SlotTarget} {t1 t4 : Option Stamp} {fields : EchoFields} {p : Part}
    {c : Condition}
    (h : (echoTimed (roundTrip t1 t4 fields.turnaround.toNat) q t.record p).Reported (.record t.record) c
      (fun e => e.ports = some (portMask q))) (w : List Instr) :
    (settle w (takeEcho q t t1 t4 fields p)).Reported (.record t.record) c (fun e => e.ports = some (portMask q)) :=
  Part.Carries.settle (takeEcho_carries h (stableAt_raised q c)) w

/-! ## The record of an ECHO, by its round trip -/

/-- What the round trip and the judgement leave of a record that an ECHO has come of. -/
theorem takeEcho_fields (q : PortIx) (t : SlotTarget) (t1 t4 : Option Stamp) (fields : EchoFields) (p : Part) :
    ∃ te v l, (takeEcho q t t1 t4 fields p).record t.record =
      { timed (roundTrip t1 t4 fields.turnaround.toNat) (p.record t.record) with
        te := te, teState := v, prevLink := l, lastPort := some q, silentCount := 0, silentSeconds := 0
        state := stateAfterEcho (p.record t.record).state
          (timed (roundTrip t1 t4 fields.turnaround.toNat) (p.record t.record)).filter.isSome } := by
  obtain ⟨te, v, l, hfields⟩ :=
    answered_judged_leaves q p.hub.bound (timed (roundTrip t1 t4 fields.turnaround.toNat) (p.record t.record))
  refine ⟨te, v, l, ?_⟩
  rw [takeEcho_record, hfields, (timed_state _ _).1]

/-- C is formed of the filter, limited to its range (R146). -/
theorem formCompensation_of_filter {r : ServiceRecord} {f : Int} (h : r.filter = some f) :
    r.formCompensation.compensation = max 0 (min 131072000000 (f + r.staticOffset * 65536)) := by
  rw [ServiceRecord.formCompensation, h]
  rfl

/-- A round trip that passes the check (R142 to R149). -/
theorem timed_right_fields {v d : Int} {r : ServiceRecord} (hright : rtdWrong v = false)
    (hd : d = roundDiv (v * r.share) 65536) :
    (timed (some v) r).filter =
        some (match r.filter with
          | none => d
          | some f =>
            if magnitude (d - f) ≤ 13107200 then f + roundDiv (d - f) 8 else if 5 ≤ r.outlierRun + 1 then d else f) ∧
      (timed (some v) r).outlierRun =
        (match r.filter with
          | none => 0
          | some f =>
            if magnitude (d - f) ≤ 13107200 then 0 else if 5 ≤ r.outlierRun + 1 then 0 else r.outlierRun + 1) ∧
      (∀ f, (timed (some v) r).filter = some f →
        (timed (some v) r).compensation = max 0 (min 131072000000 (f + r.staticOffset * 65536))) ∧
      (r.statistics = true → r.window.count + 1 < 64 →
        (timed (some v) r).window =
          { count := r.window.count + 1, minRtd := some (min v (r.window.minRtd.getD v))
            maxRtd := some (max v (r.window.maxRtd.getD v)), good := r.window.good + 1
            missed := r.window.missed }) := by
  have hfilter := filterDelay_filter d r
  have houtlier := filterDelay_outlierRun d r
  obtain ⟨f, n, hleaves⟩ := filterDelay_leaves d r
  have hd' : oneWayDelay v r.share = d := hd.symm
  rw [timed_right hright, hd']
  obtain ⟨_, hcountFilter, hcountOutlier, hcountCompensation, _, _⟩ :=
    countSlot_state (.measured v) (filterDelay d r).formCompensation
  rw [hcountFilter, hcountOutlier, hcountCompensation]
  refine ⟨hfilter, houtlier, fun g hg => ?_, fun hon hroom => ?_⟩
  · have hstatic : (filterDelay d r).staticOffset = r.staticOffset := by rw [hleaves]
    have hg' : (filterDelay d r).filter = some g := hg
    rw [formCompensation_of_filter hg', hstatic]
  · have hwindow : (filterDelay d r).formCompensation.window = r.window := by rw [hleaves]; rfl
    have hstatistics : (filterDelay d r).formCompensation.statistics = true := by rw [hleaves]; exact hon
    rw [countSlot_open hstatistics (by rw [hwindow]; exact hroom), hwindow]
    rfl

/-- The command DELAY_STEP does the ECHO whole when the fifth outlier of a run re-initialises the filter. -/
theorem exec_delayStep {s : State} {q : PortIx} {characters : List LineChar} {fields : EchoFields} {t : SlotTarget}
    {t1 t4 : Stamp} {v : Int} {after : Part} (hwork : commandWork (.echo q characters) s.part = after)
    (htarget : (s.part.engine q).target = some t) (hecho : acceptedEcho characters = some fields)
    (h1 : (s.part.engine q).t1 = some t1) (h4 : (s.part.engine q).t4 = some t4)
    (htrip : roundTrip (some t1) (some t4) fields.turnaround.toNat = some v) (hright : rtdWrong v = false)
    (hfifth : filterAction (s.part.record t.record) (oneWayDelay v (s.part.record t.record).share) = .reinitialised)
    (hrun : 5 ≤ (s.part.record t.record).outlierRun + 1) (hafter : (after.record t.record).outlierRun = 0) :
    exec (.delayStep q characters) s = .next { s with part := settle s.pending after } := by
  have hreached : stepsDelay q characters s.part after = true := by
    have hrecord : s.part.targetOf q = some t.record := by rw [Part.targetOf, htarget]; rfl
    have hmeasured : s.part.measuredRoundTrip q characters = some v := by
      rw [Part.measuredRoundTrip, hecho, h1, h4]
      exact htrip
    have hone : decide (1 ≤ (s.part.record t.record).outlierRun) = true := decide_eq_true (by omega)
    simp only [stepsDelay, hrecord, hmeasured, hright, hfifth, hone, hafter]
    rfl
  have hwork' : echoReceived q characters s.part = after := hwork
  change commandDone (fun p =>
    whenReached (stepsDelay q characters p (echoReceived q characters p)) (echoReceived q characters) p) s = _
  rw [commandDone_next, whenReached, hwork', hreached, if_pos rfl]

theorem stateAfter_ite (state : RecordState) (filter : Option Int)
    (h : state = .pending ∨ state = .active ∨ state = .silent) :
    stateAfterEcho state filter.isSome = if state = .active ∨ filter ≠ none then .active else .pending := by
  rw [stateAfterEcho_live h]
  simp only [ne_eq, Option.isSome_iff_ne_none]

/-- Settles O33: the fields of the record by the three round trips, and the rest by the leave of an ECHO. -/
theorem echoMovesTheDelayFilter : Obligations.EchoMovesTheDelayFilter := by
  intro s q t characters fields t1 t4 rtd d r hlive hactivity hecho h1 h4 hrtd hr hd
  subst hr
  have hwork := echoReceived_live hlive hactivity hecho
  obtain ⟨hheld, hslot, htarget, hgeneration, hstate⟩ := hlive
  rw [h1, h4] at hwork
  have hwithin := takeEcho_within q t (some t1) (some t4) fields (slotDecided q .none s.part)
  obtain ⟨te, v, l, hrecord⟩ := takeEcho_fields q t (some t1) (some t4) fields (slotDecided q .none s.part)
  have hsilent := takeEcho_notSilent (q := q) (t := t) (t1 := some t1) (t4 := some t4) (fields := fields)
    (p := slotDecided q .none s.part)
  have hnews (c : Condition) := takeEcho_reported (q := q) (t := t) (t1 := some t1) (t4 := some t4) (fields := fields)
    (p := slotDecided q .none s.part) (c := c)
  change commandWork (.echo q characters) s.part = _ at hwork
  rw [slotDecided_record] at hrecord
  have hrecord' : (settle s.pending (takeEcho q t (some t1) (some t4) fields (slotDecided q .none s.part))).record t.record =
      _ := (settle_record _ _ _).trans hrecord
  refine ⟨_, completes_of_work hwork, rfl, ?_⟩
  dsimp only
  rw [hrecord']
  refine ⟨stateAfter_ite _ _ hstate, rfl, rfl, rfl, (timed_state _ _).2, fun h => ?_, ?_, ?_, ?_, ?_, ?_, ?_, ?_, ?_,
    fun hhold1 hhold4 hpos hlimit => ?_, fun hhold => ?_, fun hhold1 hhold4 hbad => ?_⟩
  · rw [settle_standingOf]
    exact hsilent h
  · rw [settle_port, hwithin.ports q nofun, slotDecided_port_self]
  · rw [settle_engine, hwithin.engines q nofun, slotDecided_engine_self]
  · rw [settle_engine, hwithin.engines q nofun, slotDecided_engine_self]
  · intro j hj
    rw [settle_record]
    exact hwithin.records j hj
  · intro j hj
    rw [settle_port, settle_engine, hwithin.ports j nofun, hwithin.engines j nofun]
    exact slotDecided_keepsOtherPorts q .none s.part j hj
  · exact settle_keepsBase (p := s.part) (hwithin.keepsBase nofun) _
  · rw [settle_pairs]
    exact hwithin.pairs_eq nofun
  · rw [settle_mgmt]
    exact hwithin.mgmt
  · have htrip : roundTrip (some t1) (some t4) fields.turnaround.toNat = some rtd :=
      (roundTrip_measured hhold1 hhold4).trans (congrArg some hrtd.symm)
    have hright := rtdWrong_eq_false hpos hlimit
    obtain ⟨hfilter, houtlier, hcompensation, hwindow⟩ := timed_right_fields hright hd
    rw [htrip]
    refine ⟨hfilter, houtlier, hcompensation, hwindow, fun f hf hgate hfifth => ⟨?_, fun hthreshold => ?_⟩⟩
    · have haction := filterAction_fifth d (s.part.record t.record) hf hgate hfifth
      rw [hd] at haction
      refine exec_delayStep hwork htarget hecho h1 h4 htrip hright haction hfifth ?_
      rw [hrecord, htrip]
      refine houtlier.trans ?_
      have hbeyond : ¬ magnitude (d - f) ≤ 13107200 := by omega
      simp only [hf, if_neg hbeyond, if_pos hfifth]
    · have haction := filterAction_fifth d (s.part.record t.record) hf hgate hfifth
      rw [hd] at haction
      refine hnews .delayStep ?_ s.pending
      rw [htrip]
      exact delayStep_reported (p := slotDecided q .none s.part) hright haction hthreshold
  · rw [roundTrip_held hhold, timed_unmeasured]
    obtain ⟨_, hfilter, houtlier, hcompensation, hstatistics, _⟩ := countSlot_state .unmeasured (s.part.record t.record)
    refine ⟨hfilter, houtlier, hcompensation, hstatistics, fun hon hroom => ?_, fun hoff => ?_⟩
    · rw [countSlot_open hon hroom]
      rfl
    · rw [countSlot_off hoff]
  · have htrip : roundTrip (some t1) (some t4) fields.turnaround.toNat = some rtd :=
      (roundTrip_measured hhold1 hhold4).trans (congrArg some hrtd.symm)
    have hwrong := (rtdWrong_iff rtd).2 hbad
    rw [htrip, timed_wrong hwrong]
    refine ⟨rfl, rfl, rfl, rfl, rfl, rfl, rfl, fun hthreshold => hnews .measCheck ?_ s.pending⟩
    rw [htrip]
    exact measCheck_reported (p := slotDecided q .none s.part) hwrong hthreshold

end Sys2Proof.Machine

/-! SUPPORT. The sample of a return slot that a long ECHO completes (R20, R22, R31 to R33). -/

namespace Sys2Proof.Machine

/-! ## The sample of a bound return slot (R31 to R33) -/

theorem offerEcho_taken {k : SlotIx} {i : RecordIx} {g : Generation} {fields : EchoFields} {x : ReturnFields} {held : Bool}
    {p : Part} (hx : fields.ret = some x) (hbound : (p.slot k).binding = some (i, g)) (hrunning : p.running k = true)
    (hcompleted : (p.input k).completed = false) :
    offerEcho k i g fields held p = completeReturn k x (p.record i).asymmetry held p := by
  simp only [offerEcho, hx]
  exact if_pos ⟨hbound, hrunning, by simp [hcompleted]⟩

theorem offerEcho_untaken {k : SlotIx} {i : RecordIx} {g : Generation} {fields : EchoFields} {held : Bool} {p : Part}
    (h : fields.ret = none ∨ ((p.slot k).binding = some (i, g) → p.running k = false ∨ (p.input k).completed = true)) :
    offerEcho k i g fields held p = p := by
  cases hx : fields.ret with
  | none => simp only [offerEcho, hx]
  | some x =>
    simp only [offerEcho, hx]
    refine if_neg ?_
    rintro ⟨hbound, hrunning, hcompleted⟩
    obtain h | h := h
    · simp [hx] at h
    · obtain h | h := h hbound
      · simp [h] at hrunning
      · exact hcompleted h

/-- A record's index and generation are bound to one slot at most (R54). -/
theorem binding_unique {p : Part} {i : RecordIx} {g : Generation} {j k : SlotIx} (h : BindingsAgree p)
    (hj : (p.slot j).binding = some (i, g)) (hk : (p.slot k).binding = some (i, g)) : j = k := by
  obtain ⟨hj', _⟩ := h.2.1 j i g hj
  obtain ⟨hk', _⟩ := h.2.1 k i g hk
  exact Option.some.inj (hj'.symm.trans hk')

/-- Of the two return slots the one that is bound to the record takes the ECHO. -/
theorem offers_taken {k : SlotIx} {i : RecordIx} {g : Generation} {fields : EchoFields} {x : ReturnFields} {held : Bool}
    {p : Part} (hk : k = 4 ∨ k = 5) (hx : fields.ret = some x) (hbound : (p.slot k).binding = some (i, g))
    (hone : ∀ j, j ≠ k → (p.slot j).binding ≠ some (i, g)) (hrunning : p.running k = true)
    (hcompleted : (p.input k).completed = false) :
    offerEcho 5 i g fields held (offerEcho 4 i g fields held p) = completeReturn k x (p.record i).asymmetry held p := by
  obtain rfl | rfl := hk
  · have hfour := offerEcho_taken (held := held) hx hbound hrunning hcompleted
    have hwithin : Within (.choosingSlot 4) p (offerEcho 4 i g fields held p) :=
      (Within.refl _ p).offerEcho (Access.choosingSlot_choice 4) (Access.choosingSlot_slot 4) i g fields held
    rw [offerEcho_untaken (k := 5) (.inr fun h => ?_), hfour]
    rw [hwithin.slots 5 (by simp [Access.choosingSlot])] at h
    exact absurd h (hone 5 (by simp))
  · rw [offerEcho_untaken (k := 4) (.inr fun h => absurd h (hone 4 (by simp))),
      offerEcho_taken hx hbound hrunning hcompleted]

/-- With no slot to take it an ECHO leaves the return slots alone. -/
theorem offers_untaken {i : RecordIx} {g : Generation} {fields : EchoFields} {held : Bool} {p : Part}
    (h : fields.ret = none ∨ ∀ k : SlotIx, (p.slot k).binding = some (i, g) →
      p.running k = false ∨ (p.input k).completed = true) :
    offerEcho 5 i g fields held (offerEcho 4 i g fields held p) = p := by
  have idle (k : SlotIx) : offerEcho k i g fields held p = p := offerEcho_untaken (h.imp_right fun h => h k)
  rw [idle 4, idle 5]

theorem jumpAfter_good {limit v : Int} {x : SlotInput} (h : jumpOutcome x.jumpReference limit v = .good) :
    (jumpAfter limit v x).jumpReference = some v := by
  simp only [jumpAfter, h]

theorem echoHeard_asymmetry (rtd : Option Int) (q : PortIx) (i : RecordIx) (p : Part) :
    ((echoHeard rtd q i p).record i).asymmetry = (p.record i).asymmetry := by
  obtain ⟨te, v, l, hanswered⟩ := answered_judged_leaves q p.hub.bound (timed rtd (p.record i))
  obtain ⟨w, h, st, on, f, n, c, htimed⟩ := timed_leaves rtd (p.record i)
  rw [echoHeard_record, hanswered, htimed]

theorem running_of_slot {p r : Part} {k : SlotIx} (h : r.slot k = p.slot k) : r.running k = p.running k := by
  rw [Part.running, h, Part.running]

/-- The sample that an ECHO completes at the return slot that takes it. -/
theorem completeReturn_input (k : SlotIx) (x : ReturnFields) (asymmetry : Int) (held : Bool) (p : Part) :
    (completeReturn k x asymmetry held p).input k =
      { (if !x.valid || !held then p.input k
          else jumpAfter (toQ (p.slot k).jumpLimit) (toQ x.offsetNs) (p.input k)) with
        last :=
          some
            { outcome :=
                if !x.valid || !held then .invalid
                else jumpOutcome (p.input k).jumpReference (toQ (p.slot k).jumpLimit) (toQ x.offsetNs)
              value := some (toQ x.offsetNs)
              accuracy := some ((x.accuracy.toNat : Int) + asymmetry + (p.slot k).allowance)
              scale := none, second := p.tb.second }
        completed := true } := by
  rw [completeReturn, completeRead_input]

/-- Settles O8: the sample stands at the one slot that is bound, and without it the return slots are as they were. -/
theorem longEchoCompletesAReturnSample : Obligations.LongEchoCompletesAReturnSample := by
  intro s q t characters fields hlive hactivity hecho
  have hwork : commandWork (.echo q characters) s.part = _ := echoReceived_live hlive hactivity hecho
  obtain ⟨hheld, hslot, htarget, hgeneration, hstate⟩ := hlive
  have hwithin := takeEcho_within q t (s.part.engine q).t1 (s.part.engine q).t4 fields (slotDecided q .none s.part)
  rw [takeEcho_eq] at hwork hwithin
  have heard := echoHeard_within (roundTrip (s.part.engine q).t1 (s.part.engine q).t4 fields.turnaround.toNat) q t.record
    (slotDecided q .none s.part)
  have hasymmetry := echoHeard_asymmetry
    (roundTrip (s.part.engine q).t1 (s.part.engine q).t4 fields.turnaround.toNat) q t.record (slotDecided q .none s.part)
  generalize echoHeard (roundTrip (s.part.engine q).t1 (s.part.engine q).t4 fields.turnaround.toNat) q t.record
    (slotDecided q .none s.part) = p at hwork hwithin heard hasymmetry
  have hslots (k : SlotIx) : p.slot k = s.part.slot k := heard.slots k nofun
  have hinputs (k : SlotIx) : p.input k = s.part.input k := heard.inputs k nofun
  have hsecond : p.tb.second = s.part.tb.second := by
    rw [heard.tb]
    rfl
  refine ⟨fun k x hagree hx hbound hrunning hcompleted => ?_, fun hnone => ?_⟩
  · have hk : k = 4 ∨ k = 5 := by
      refine returnSlot_cases fun hlow => ?_
      rw [hagree.1 k hlow] at hbound
      simp at hbound
    have hone (j : SlotIx) (hj : j ≠ k) : (p.slot j).binding ≠ some (t.record, t.generation) := by
      rw [hslots]
      exact fun h => hj (binding_unique hagree h hbound)
    have htaken := offers_taken (held := t.filterHeld) hk hx (by rw [hslots]; exact hbound) hone
      ((running_of_slot (hslots k)).trans hrunning) (by rw [hinputs]; exact hcompleted)
    rw [htaken] at hwork hwithin
    have hinput := completeReturn_input k x (p.record t.record).asymmetry t.filterHeld p
    rw [hslots, hinputs, hsecond] at hinput
    have hchosen : Within (.choosingSlot k) p (completeReturn k x (p.record t.record).asymmetry t.filterHeld p) :=
      (Within.refl _ p).completeRead (Access.choosingSlot_choice k) (Access.choosingSlot_slot k) _ _ _ _ _
    generalize completeReturn k x (p.record t.record).asymmetry t.filterHeld p = y at hwork hwithin hinput hchosen
    rw [hasymmetry, slotDecided_record] at hinput
    have hbad (h : x.validity ≠ 1 ∨ t.filterHeld = false) : (!x.valid || !t.filterHeld) = true := by
      obtain h | h := h
      · have hvalid : x.valid = false := beq_eq_false_iff_ne.2 h
        rw [hvalid]
        rfl
      · rw [h, Bool.not_false, Bool.or_true]
    have hright (hvalid : x.validity = 1) (h : t.filterHeld = true) : (!x.valid || !t.filterHeld) = false := by
      have hvalid : x.valid = true := beq_iff_eq.2 hvalid
      rw [hvalid, h]
      rfl
    refine ⟨_, if !x.valid || !t.filterHeld then .invalid
      else jumpOutcome (s.part.input k).jumpReference (toQ (s.part.slot k).jumpLimit) (toQ x.offsetNs),
      completes_of_work hwork, rfl, ?_, ?_, fun hinvalid => ⟨?_, ?_⟩, fun hvalid hheldFilter => ⟨?_, fun hgood => ?_⟩,
      ?_, ?_, ?_, ?_, ?_⟩
    · rw [settle_input, hinput]
      rfl
    · rw [settle_input, hinput]
    · rw [hbad hinvalid, if_pos rfl]
    · rw [settle_input, hinput, hbad hinvalid, if_pos rfl]
    · rw [hright hvalid hheldFilter, if_neg (by simp)]
      rfl
    · rw [hright hvalid hheldFilter, if_neg (by simp)] at hgood
      rw [settle_input, hinput, hright hvalid hheldFilter, if_neg (by simp)]
      exact jumpAfter_good hgood
    · intro j hj
      rw [settle_slot, settle_input, hchosen.slots j hj, hchosen.inputs j hj]
      exact ⟨hslots j, hinputs j⟩
    · intro j hj
      rw [settle_record]
      exact hwithin.records j hj
    · intro j hj
      rw [settle_port, settle_engine, hwithin.ports j nofun, hwithin.engines j nofun]
      exact slotDecided_keepsOtherPorts q .none s.part j hj
    · exact settle_keepsBase (p := s.part) (hwithin.keepsBase nofun) _
    · rw [settle_mgmt]
      exact hwithin.mgmt
  · have huntaken := offers_untaken (held := t.filterHeld) (p := p) (hnone.imp_right fun h k hk => by
      rw [hslots] at hk
      rw [running_of_slot (hslots k), hinputs]
      exact h k hk)
    rw [huntaken] at hwork
    refine ⟨_, completes_of_work hwork, ?_, ?_, ?_, ?_⟩
    · rw [settle_inputs]
      exact heard.inputs_eq nofun
    · rw [settle_slots]
      exact heard.slots_eq nofun
    · rw [settle_selected]
      exact heard.selected nofun
    · rw [settle_hub]
      exact heard.hub nofun

end Sys2Proof.Machine

/-! SUPPORT. The 64th slot of a statistics window: what closes it, and the judgement of that slot (R149, R151). -/

namespace Sys2Proof.Machine

/-! ## The close of a window (R149) -/

theorem countSlot_closes {r : ServiceRecord} {c : SlotCount} (hon : r.statistics = true) (h63 : r.window.count = 63) :
    countSlot c r = closeWindow (r.window.add c) r := by
  have hcount : (r.window.add c).count = r.window.count + 1 := by cases c <;> rfl
  rw [countSlot, if_pos hon, if_pos (by omega)]

/-- The record after the close keeps its filter and its asymmetry allowance, and its statistics stay on. -/
theorem closeWindow_fields (w : StatWindow) (r : ServiceRecord) :
    (closeWindow w r).halfSpread = (if 2 ≤ w.good then some w.spread else r.halfSpread) ∧
      (closeWindow w r).stale = (if 2 ≤ w.good then false else true) ∧ (closeWindow w r).window = {} ∧
      (closeWindow w r).filter = r.filter ∧ (closeWindow w r).asymmetry = r.asymmetry ∧
      (closeWindow w r).statistics = r.statistics := by
  unfold closeWindow
  split
  · exact ⟨rfl, rfl, rfl, rfl, rfl, rfl⟩
  · exact ⟨rfl, rfl, rfl, rfl, rfl, rfl⟩

/-- A record that a slot has closed the window of, and judged, up to what the outcome of the slot writes besides. -/
def ClosedBy (u : Int) (w : StatWindow) (r after : ServiceRecord) : Prop :=
  ∃ lastPort n seconds state, after =
    { judged u (closeWindow w r) with
      lastPort := lastPort, silentCount := n, silentSeconds := seconds, state := state }

theorem ClosedBy.window {u : Int} {w : StatWindow} {r after : ServiceRecord} (h : ClosedBy u w r after)
    (hon : r.statistics = true) : after.window = {} ∧ after.statistics = true := by
  obtain ⟨lastPort, n, seconds, state, rfl⟩ := h
  obtain ⟨te, v, l, hjudged⟩ := judged_leaves u (closeWindow w r)
  obtain ⟨_, _, hwindow, _, _, hstatistics⟩ := closeWindow_fields w r
  rw [hjudged]
  exact ⟨hwindow, hstatistics.trans hon⟩

/-- The judgement of that slot uses the half-spread that it latched (R151). -/
theorem ClosedBy.latched {u : Int} {w : StatWindow} {r before after : ServiceRecord} (h : ClosedBy u w r after)
    (hhalf : r.halfSpread = before.halfSpread) (hasymmetry : r.asymmetry = before.asymmetry) :
    WindowLatched w.good (w.minRtd.getD 0) (w.maxRtd.getD 0) u before after := by
  obtain ⟨lastPort, n, seconds, state, rfl⟩ := h
  obtain ⟨te, v, l, hjudged⟩ := judged_leaves u (closeWindow w r)
  obtain ⟨hspread, hstale, hwindow, hfilter, hallowance, _⟩ := closeWindow_fields w r
  have hlink : (closeWindow w r).linkTerm = before.asymmetry * 65536 + (closeWindow w r).halfSpread.getD 0 := by
    rw [ServiceRecord.linkTerm, hallowance, hasymmetry]
    rfl
  have hhalfSpread : (judged u (closeWindow w r)).halfSpread = (closeWindow w r).halfSpread := by rw [hjudged]
  refine ⟨?_, ?_, ?_, fun hheld => ?_⟩
  · rw [hjudged, ← hhalf]
    exact hspread
  · rw [hjudged]
    exact hstale
  · rw [hjudged]
    exact hwindow
  · have hsome : (closeWindow w r).filter.isSome = true := by
      refine Option.isSome_iff_ne_none.2 fun hnone => hheld ?_
      rw [hjudged]
      exact hnone
    dsimp only
    rw [hhalfSpread, ← hlink, judged, if_pos hsome]
    exact ⟨rfl, rfl⟩

/-! ## The command that names the close (R149; log entry 3) -/

theorem ServiceRecord.live_of {r : ServiceRecord} (h : r.state = .pending ∨ r.state = .active ∨ r.state = .silent) :
    r.live = true := by
  obtain h | h | h := h <;> simp [ServiceRecord.live, h]

theorem closesWindow_of {i : RecordIx} {q : PortIx} {e : LineEvent} {before after : Part}
    (hcounts : countsSlot i before (.line q e) = true)
    (hlive : (before.record i).state = .pending ∨ (before.record i).state = .active ∨ (before.record i).state = .silent)
    (hon : (before.record i).statistics = true) (h63 : (before.record i).window.count = 63)
    (hvacant : (after.record i).state ≠ .vacant) (hwindow : (after.record i).window = {})
    (hstill : (after.record i).statistics = true) : closesWindow i (.line q e) before after = true := by
  have hstate : ((after.record i).state != .vacant) = true := bne_iff_ne.2 hvacant
  simp only [closesWindow, hcounts, ServiceRecord.live_of hlive, hstate, hon, hstill, h63, hwindow]
  rfl

/-! ## A missing slot -/

/-- A missing outcome writes the silent count, its seconds and the state alone, and leaves no record VACANT. -/
theorem countMissing_leaves {q : PortIx} {i : RecordIx} {p : Part}
    (h : (p.record i).state = .pending ∨ (p.record i).state = .active ∨ (p.record i).state = .silent) :
    ∃ n seconds state, state ≠ .vacant ∧
      (countMissing q i p).record i = { p.record i with silentCount := n, silentSeconds := seconds, state := state } := by
  by_cases hsilent : (p.record i).state = .silent
  · rw [countMissing_of_silent hsilent]
    exact ⟨(p.record i).silentCount, (p.record i).silentSeconds, (p.record i).state, by rw [hsilent]; simp, rfl⟩
  · have hlive : (p.record i).state = .pending ∨ (p.record i).state = .active := by
      obtain h | h | h := h
      · exact .inl h
      · exact .inr h
      · exact absurd h hsilent
    rw [countMissing_of_live hlive]
    split
    · refine ⟨(p.record i).silentCount + 1, 0, .silent, by simp, ?_⟩
      rw [raiseRecord, report_record, record_withRecord, if_pos rfl]
    · refine ⟨(p.record i).silentCount + 1, (p.record i).silentSeconds, (p.record i).state, ?_, ?_⟩
      · obtain h | h := hlive <;> simp [h]
      · rw [record_withRecord, if_pos rfl]

/-- The 64th slot, when it ends as missing. -/
theorem missing_closes {q : PortIx} {i : RecordIx} {p : Part}
    (hlive : (p.record i).state = .pending ∨ (p.record i).state = .active ∨ (p.record i).state = .silent)
    (hon : (p.record i).statistics = true) (h63 : (p.record i).window.count = 63) :
    ClosedBy p.hub.bound ((p.record i).window.add .missed) (p.record i)
        ((countMissing q i (measureMissing q i p)).record i) ∧
      ((countMissing q i (measureMissing q i p)).record i).state ≠ .vacant := by
  have hmeasured := measureMissing_record q i p
  obtain ⟨w, h, s, te, v, l, hleaves⟩ := measureMissing_leaves q i p
  rw [countSlot_closes hon h63] at hmeasured
  obtain ⟨n, seconds, state, hvacant, hrecord⟩ :=
    countMissing_leaves (q := q) (i := i) (p := measureMissing q i p) (by rw [hleaves]; exact hlive)
  refine ⟨⟨(p.record i).lastPort, n, seconds, state, ?_⟩, ?_⟩
  · have hport : ((measureMissing q i p).record i).lastPort = (p.record i).lastPort := by rw [hleaves]
    rw [hrecord, ← hport, ← hmeasured]
  · rw [hrecord]
    exact hvacant

theorem countsSlot_missed {p : Part} {q : PortIx} {c : Instr} {cause : LineEvent} {error : SlotError} (i : RecordIx)
    (h : p.MissesSlot q c cause error) : countsSlot i p (.line q cause) = true := by
  obtain ⟨_, rfl, _⟩ | ⟨_, _, rfl, _⟩ | ⟨_, rfl, _⟩ | ⟨_, _, _, _, _, rfl, _⟩ := h <;> rfl

/-- The clause of O38 for a slot with a frame sent. -/
theorem missedSlotClosesTheWindow (s : State) (q : PortIx) (t : SlotTarget) (r : ServiceRecord) (c : Instr)
    (cause : LineEvent) (error : SlotError) (hlive : s.part.LiveSlot q t) (hmiss : s.part.MissesSlot q c cause error)
    (hr : r = s.part.record t.record) (hon : r.statistics = true) (h63 : r.window.count = 63) :
    ∃ u : State, exec (.statisticsWindowClose t.record (.line q cause)) s = .next u ∧ exec c s = .next u ∧
      u.pending = s.pending ∧
      WindowLatched r.window.good (r.window.minRtd.getD 0) (r.window.maxRtd.getD 0) s.part.hub.bound r
        (u.part.record t.record) ∧
      KeepsOtherRecords t.record s.part u.part ∧ KeepsOtherPorts q s.part u.part ∧ u.part.hub = s.part.hub := by
  subst hr
  obtain ⟨hheld, hslot, htarget, hgeneration, hstate⟩ := hlive
  obtain ⟨x, t1, t4, tidy, hx, hrest, _, hwork⟩ := missesSlot_work hheld hslot htarget hmiss
  have hrecord := hx.record t.record
  rw [recordOutcome_live _ _ _ (by rw [hrecord]; exact hgeneration) (by rw [hrecord]; exact hstate)] at hwork
  change commandWork c s.part = withEngine q tidy (countMissing q t.record (measureMissing q t.record x)) at hwork
  have hwithin := missing_within q t.record x
  obtain ⟨hclosed, hvacant⟩ := missing_closes (q := q) (i := t.record) (p := x) (by rw [hrecord]; exact hstate)
    (by rw [hrecord]; exact hon) (by rw [hrecord]; exact h63)
  rw [hrecord, hx.hub] at hclosed
  generalize countMissing q t.record (measureMissing q t.record x) = y at hwork hwithin hclosed hvacant
  obtain ⟨hwindow, hstill⟩ := hclosed.window hon
  refine ⟨_, ?_, completes_of_work hwork, rfl, ?_, ?_, ?_, ?_⟩
  · exact exec_of_cause (test := closesWindow t.record (.line q cause)) rfl ((runCause_of_misses hmiss).trans hwork)
      (closesWindow_of (countsSlot_missed _ hmiss) hstate hon h63 hvacant hwindow hstill)
  · rw [settle_record]
    exact hclosed.latched rfl rfl
  · intro j hj
    rw [settle_record]
    exact hx.keepsOtherRecords (i := t.record) hwithin (fun _ h => h) j hj
  · intro j hj
    obtain ⟨hport, hother⟩ := hx.keepsOtherPorts hwithin nofun nofun j hj
    rw [settle_port, settle_engine]
    exact ⟨hport, ((withEngine_keepsOtherPorts q tidy y) j hj).2.trans hother⟩
  · rw [settle_hub]
    exact (hwithin.hub nofun).trans hx.hub

/-- The clause of O38 for a slot without a frame (R124). -/
theorem darkSlotClosesTheWindow (s : State) (q : PortIx) (a : Address) (i : RecordIx) (r : ServiceRecord)
    (hheld : s.part.held = false) (hidle : (s.part.engine q).activity = .idle) (laws : RecordLaws s.part)
    (hr : r = s.part.record i) (hport : r.currentPort = q) (haddress : r.address = a)
    (hstate : r.state = .pending ∨ r.state = .active ∨ r.state = .silent)
    (hdark : (s.part.port q).line = .fault ∨ (s.part.port q).state = .disabled) (hon : r.statistics = true)
    (h63 : r.window.count = 63) :
    ∃ u : State, exec (.statisticsWindowClose i (.line q (.delaySlotStart a))) s = .next u ∧
      exec (.delaySlotStart q a) s = .next u ∧ u.pending = s.pending ∧
      WindowLatched r.window.good (r.window.minRtd.getD 0) (r.window.maxRtd.getD 0) s.part.hub.bound r
        (u.part.record i) ∧
      KeepsOtherRecords i s.part u.part ∧ KeepsOtherPorts q s.part u.part ∧ u.part.hub = s.part.hub := by
  subst hr
  have hwork : commandWork (.delaySlotStart q a) s.part = _ := missingAtOnce hheld hidle laws hport haddress hstate hdark
  have hothers := slotOpened_keepsOtherPorts q (.address a) (addressMs a) s.part
  have hwithin := missing_within q i (slotOpened q (.address a) (addressMs a) s.part)
  obtain ⟨hclosed, hvacant⟩ :=
    missing_closes (q := q) (i := i) (p := slotOpened q (.address a) (addressMs a) s.part) hstate hon h63
  obtain ⟨hwindow, hstill⟩ := hclosed.window hon
  refine ⟨_, ?_, completes_of_work hwork, rfl, ?_, ?_, ?_, ?_⟩
  · exact exec_of_cause (test := closesWindow i (.line q (.delaySlotStart a))) rfl hwork
      (closesWindow_of rfl hstate hon h63 hvacant hwindow hstill)
  · rw [settle_record]
    exact hclosed.latched rfl rfl
  · intro j hj
    rw [settle_record]
    exact hwithin.records j hj
  · intro j hj
    rw [settle_port, settle_engine, hwithin.ports j nofun, hwithin.engines j nofun]
    exact hothers j hj
  · rw [settle_hub]
    exact hwithin.hub nofun

/-! ## An accepted ECHO -/

/-- The slot of an ECHO that closes the window: what it counts for, and the record that it is counted in. -/
theorem takeEcho_closes {q : PortIx} {t : SlotTarget} {t1 t4 : Option Stamp} {fields : EchoFields} {p : Part}
    {r : ServiceRecord} {c : SlotCount}
    (htimed : timed (roundTrip t1 t4 fields.turnaround.toNat) (p.record t.record) = countSlot c r)
    (hon : r.statistics = true) (h63 : r.window.count = 63) :
    ClosedBy p.hub.bound (r.window.add c) r ((takeEcho q t t1 t4 fields p).record t.record) := by
  rw [takeEcho_record, htimed, countSlot_closes hon h63]
  exact ⟨_, _, _, _, rfl⟩

theorem takeEcho_notVacant {q : PortIx} {t : SlotTarget} {t1 t4 : Option Stamp} {fields : EchoFields} {p : Part}
    (h : (p.record t.record).state = .pending ∨ (p.record t.record).state = .active ∨
      (p.record t.record).state = .silent) : ((takeEcho q t t1 t4 fields p).record t.record).state ≠ .vacant := by
  obtain ⟨te, v, l, hrecord⟩ := takeEcho_fields q t t1 t4 fields p
  rw [hrecord]
  dsimp only
  rw [stateAfterEcho_live h]
  split <;> simp

/-- Settles O38: a missing slot with and without a frame, and an ECHO by its round trip. -/
theorem sixtyFourthSlotClosesTheWindow : Obligations.SixtyFourthSlotClosesTheWindow := by
  refine ⟨missedSlotClosesTheWindow, darkSlotClosesTheWindow, ?_⟩
  intro s q t characters fields t1 t4 rtd r hlive hactivity hecho h1 h4 hrtd hr hon h63 hkind
  subst hr
  have hwork : commandWork (.echo q characters) s.part = _ := echoReceived_live hlive hactivity hecho
  obtain ⟨hheld, hslot, htarget, hgeneration, hstate⟩ := hlive
  rw [h1, h4] at hwork
  have hwithin := takeEcho_within q t (some t1) (some t4) fields (slotDecided q .none s.part)
  have hvacant := takeEcho_notVacant (q := q) (t1 := some t1) (t4 := some t4) (fields := fields)
    (p := slotDecided q .none s.part) hstate
  have hheard (hhold : t1.inHold = true ∨ t4.inHold = true) :
      ClosedBy s.part.hub.bound ((s.part.record t.record).window.add .unmeasured) (s.part.record t.record)
        ((takeEcho q t (some t1) (some t4) fields (slotDecided q .none s.part)).record t.record) := by
    refine takeEcho_closes (p := slotDecided q .none s.part) ?_ hon h63
    rw [roundTrip_held hhold]
    rfl
  have hmeasured (hhold1 : t1.inHold = false) (hhold4 : t4.inHold = false) (hpos : 0 < rtd) (hlimit : rtd ≤ 65536000000) :
      ∃ r', r'.window = (s.part.record t.record).window ∧ r'.halfSpread = (s.part.record t.record).halfSpread ∧
        r'.asymmetry = (s.part.record t.record).asymmetry ∧ r'.statistics = true ∧
        ClosedBy s.part.hub.bound (r'.window.add (.measured rtd)) r'
          ((takeEcho q t (some t1) (some t4) fields (slotDecided q .none s.part)).record t.record) := by
    have htrip : roundTrip (some t1) (some t4) fields.turnaround.toNat = some rtd :=
      (roundTrip_measured hhold1 hhold4).trans (congrArg some hrtd.symm)
    obtain ⟨f, n, hfilter⟩ :=
      filterDelay_leaves (oneWayDelay rtd (s.part.record t.record).share) (s.part.record t.record)
    refine ⟨(filterDelay (oneWayDelay rtd (s.part.record t.record).share) (s.part.record t.record)).formCompensation,
      by rw [hfilter]; rfl, by rw [hfilter]; rfl, by rw [hfilter]; rfl, by rw [hfilter]; exact hon,
      takeEcho_closes (p := slotDecided q .none s.part) ?_ (by rw [hfilter]; exact hon) (by rw [hfilter]; exact h63)⟩
    rw [htrip, timed_right (rtdWrong_eq_false hpos hlimit)]
    rfl
  have hclosed : ∃ u w r', r'.statistics = true ∧
      ClosedBy u w r' ((takeEcho q t (some t1) (some t4) fields (slotDecided q .none s.part)).record t.record) := by
    by_cases hhold : t1.inHold = true ∨ t4.inHold = true
    · exact ⟨_, _, _, hon, hheard hhold⟩
    · obtain ⟨hhold1, hhold4⟩ : t1.inHold = false ∧ t4.inHold = false := by simpa using hhold
      obtain h | h | ⟨hpos, hlimit⟩ := hkind
      · exact absurd (.inl h) hhold
      · exact absurd (.inr h) hhold
      · obtain ⟨r', _, _, _, hstatistics, hc⟩ := hmeasured hhold1 hhold4 hpos hlimit
        exact ⟨_, _, _, hstatistics, hc⟩
  obtain ⟨u, w, r', hstatistics, hc⟩ := hclosed
  obtain ⟨hwindow, hstill⟩ := hc.window hstatistics
  refine ⟨_, ?_, completes_of_work hwork, rfl, fun hhold => ?_, fun hhold1 hhold4 => ?_, ?_, ?_⟩
  · exact exec_of_cause (test := closesWindow t.record (.line q (.echo characters))) rfl hwork
      (closesWindow_of rfl hstate hon h63 hvacant hwindow hstill)
  · rw [settle_record]
    exact (hheard hhold).latched rfl rfl
  · obtain h | h | ⟨hpos, hlimit⟩ := hkind
    · simp [hhold1] at h
    · simp [hhold4] at h
    · obtain ⟨r'', hsame, hhalf, hasymmetry, _, hlatched⟩ := hmeasured hhold1 hhold4 hpos hlimit
      have := hlatched.latched hhalf hasymmetry
      rw [hsame] at this
      rw [settle_record]
      exact this
  · intro j hj
    rw [settle_record]
    exact hwithin.records j hj
  · intro j hj
    rw [settle_port, settle_engine, hwithin.ports j nofun, hwithin.engines j nofun]
    exact slotDecided_keepsOtherPorts q .none s.part j hj

end Sys2Proof.Machine

/-! SUPPORT. The Alarm Unit under the reports of a selection and of a slot's samples: an entry of the list stays there, with
what the reports let it keep (R68, R173, R174, R176). -/

namespace Sys2Proof.Machine

/-! ## Reports in a row -/

/-- From one Alarm Unit to another by reports of the kind given, one after the other. -/
inductive AlarmUnit.ReachesBy (ok : Report → Prop) (a : AlarmUnit) : AlarmUnit → Prop
  | refl : ReachesBy ok a a
  | take {b : AlarmUnit} (h : ReachesBy ok a b) (r : Report) (hr : ok r) : ReachesBy ok a (b.take r)

/-- The list holds an entry of an owner that is as said. -/
def AlarmUnit.Lists (a : AlarmUnit) (o : Owner) (shows : Entry → Prop) : Prop := ∃ e ∈ a.list, e.owner = o ∧ shows e

theorem AlarmUnit.Lists.take {a : AlarmUnit} {o : Owner} {shows : Entry → Prop} {r : Report} (h : a.Lists o shows)
    (hmerge : r.owner = o → ∀ e, shows e → shows (e.merge r))
    (hcoalesce : r.ancillary = true → o = .hub → ∀ i e, shows e → shows (e.coalesce i r.cause)) :
    (a.take r).Lists o shows := by
  obtain ⟨e, hmem, rfl, hshows⟩ := h
  obtain hsame | ⟨howner, hmerged⟩ | ⟨howner, hancillary, i, hjoined⟩ := mem_take r hmem
  · exact ⟨e, hsame, rfl, hshows⟩
  · exact ⟨_, hmerged, rfl, hmerge howner.symm e hshows⟩
  · exact ⟨_, hjoined, rfl, hcoalesce hancillary howner i e hshows⟩

theorem AlarmUnit.Lists.reaches {ok : Report → Prop} {a b : AlarmUnit} {o : Owner} {shows : Entry → Prop}
    (h : a.Lists o shows) (hreach : a.ReachesBy ok b)
    (hmerge : ∀ r, ok r → r.owner = o → ∀ e, shows e → shows (e.merge r))
    (hcoalesce : ∀ r, ok r → r.ancillary = true → o = .hub → ∀ i e, shows e → shows (e.coalesce i r.cause)) :
    b.Lists o shows := by
  induction hreach with
  | refl => exact h
  | take _ r hr ih => exact ih.take (hmerge r hr) (hcoalesce r hr)

theorem AlarmUnit.Lists.carries {p : Part} {o : Owner} {shows : Entry → Prop} (h : p.alarm.Lists o shows) :
    p.Carries o shows := .inl h

/-- The Alarm Unit of one part comes of that of another by reports of the kind given. -/
def Part.Reaches (ok : Report → Prop) (p q : Part) : Prop := p.alarm.ReachesBy ok q.alarm

/-- The kind takes in the hub's reports, those of the slots, and those of a selection. -/
structure TakesIn (ok : Report → Prop) : Prop where
  hub       : ∀ p c b, ok (Part.hubReport p c b)
  slot      : ∀ c b k p, ok (slotReport c b k p)
  selection : ∀ (p : Part) (new : Option SlotIx) (cause : SelectionCause),
    ok { p.hubReport .selection true with slot := some new, detail := some (.selection cause) }

namespace Part.Reaches

variable {ok : Report → Prop} {p q : Part}

theorem refl (p : Part) : p.Reaches ok p := AlarmUnit.ReachesBy.refl

theorem report (h : p.Reaches ok q) {r : Report} (hr : ok r) : p.Reaches ok (report r q) := .take h r hr

section Hub

variable (h : p.Reaches ok q) (hok : ∀ p c b, ok (Part.hubReport p c b))
include h hok

theorem raiseHub (c : Condition) : p.Reaches ok (raiseHub c q) := h.report (hok _ _ _)

theorem clearHub (c : Condition) : p.Reaches ok (clearHub c q) := h.report (hok _ _ _)

theorem followLimit (b : Bool) : p.Reaches ok (followLimit b q) := by
  unfold Machine.followLimit
  split
  · split
    · exact h
    · exact h.raiseHub hok _
  · exact h.clearHub hok _

theorem predictCorrection : p.Reaches ok (predictCorrection q) := by
  unfold Machine.predictCorrection
  split
  · exact h
  · exact Part.Reaches.followLimit (q := handOver (withHub _ q)) h hok _

theorem enterFreeRun : p.Reaches ok (enterFreeRun q) :=
  Part.Reaches.raiseHub (q := correctionToF (withHub _ q)) h hok _

theorem compareBound (b : Bool) : p.Reaches ok (compareBound b q) := by
  unfold Machine.compareBound
  split
  · cases b
    · exact Part.Reaches.raiseHub (q := withHub _ q) h hok _
    · exact Part.Reaches.raiseHub (q := withHub _ (advanceCause q)) h hok _
  · exact h

theorem enterHoldover : p.Reaches ok (enterHoldover q) := by
  unfold Machine.enterHoldover
  by_cases hb : q.hub.state = .bridging
  · simp only [hb, decide_true, if_true]
    exact (((Part.Reaches.raiseHub (q := withHub _ q) h hok _).clearHub hok _).predictCorrection hok).compareBound hok _
  · simp only [hb, decide_false, Bool.false_eq_true, if_false]
    exact ((Part.Reaches.raiseHub (q := withHub _ (startPrediction q)) h hok _).predictCorrection hok).compareBound hok _

theorem leaveState : p.Reaches ok (leaveState q) := by
  unfold Machine.leaveState
  split
  · exact h.clearHub hok _
  · exact h
  · exact h
  · exact h
  · exact Part.Reaches.clearHub (q := withHub _ q) h hok _
  · exact Part.Reaches.clearHub (q := withHub _ q) h hok _
  · exact (Part.Reaches.clearHub (q := withHub _ q) h hok _).clearHub hok _

/-- A move of the hub state makes hub reports alone. -/
theorem moveOnReport (new : Option SlotIx) : p.Reaches ok (moveOnReport new q) := by
  have left : p.Reaches ok (Machine.leaveState q) := h.leaveState hok
  unfold Machine.moveOnReport
  split
  · exact h
  · exact left
  · exact left
  · exact left
  · exact left
  · exact left
  · exact left
  · exact h
  · exact left
  · exact left
  · exact left
  · exact left
  · exact left
  · exact left
  · exact h
  · split
    · exact h.enterHoldover hok
    · exact h.enterFreeRun hok
  · exact h.enterHoldover hok
  · exact h.enterHoldover hok
  · exact h.enterHoldover hok
  · exact h
  · exact h

end Hub

section Slots

variable (h : p.Reaches ok q) (hok : TakesIn ok)
include h hok

theorem choose (c : SelectionCause) : p.Reaches ok (choose c q) := by
  unfold Machine.choose
  split
  · exact h
  · exact Part.Reaches.moveOnReport
      (Part.Reaches.report (q := advanceCause (withHub _ { q with selected := q.choice })) h (hok.selection _ _ _)) hok.hub _

theorem raiseSlot (c : Condition) (k : SlotIx) : p.Reaches ok (raiseSlot c k q) := h.report (hok.slot _ _ _ _)

theorem clearSlot (c : Condition) (k : SlotIx) : p.Reaches ok (clearSlot c k q) := h.report (hok.slot _ _ _ _)

theorem enterQualified (k : SlotIx) : p.Reaches ok (enterQualified k q) :=
  Part.Reaches.raiseSlot (q := withSlot k _ q) h hok _ _

theorem enterFailed (k : SlotIx) : p.Reaches ok (enterFailed k q) :=
  Part.Reaches.raiseSlot (q := withSlot k _ q) h hok _ _

theorem candidateGood (k : SlotIx) : p.Reaches ok (candidateGood k q) := by
  unfold Machine.candidateGood
  dsimp only
  split
  · exact (Part.Reaches.enterQualified (q := withSlot k _ q) h hok k).choose hok _
  · exact h

theorem qualifiedSample (k : SlotIx) (o : SampleOutcome) : p.Reaches ok (qualifiedSample k o q) := by
  unfold Machine.qualifiedSample
  split
  · exact h
  all_goals
    split
    · exact (h.enterFailed hok k).choose hok _
    · exact h

theorem failedGood (k : SlotIx) : p.Reaches ok (failedGood k q) := by
  have candidate := Part.Reaches.clearSlot (q := withSlot k (fun r =>
    { r with state := .candidate, goodRun := 1, badRun := 0, outlierRun := 0 }) q) h hok .failed k
  unfold Machine.failedGood
  dsimp only
  split
  · exact (candidate.enterQualified hok k).choose hok _
  · exact candidate.choose hok _

theorem applySample (k : SlotIx) (o : SampleOutcome) : p.Reaches ok (applySample k o q) := by
  unfold Machine.applySample
  split
  · exact h
  · split
    · exact h
    · split
      · exact h.candidateGood hok k
      · exact h
    · exact h.qualifiedSample hok k o
    · split
      · exact h.failedGood hok k
      · exact h

theorem completeSample (k : SlotIx) (s : Sample) : p.Reaches ok (completeSample k s q) :=
  Part.Reaches.applySample (q := withInput k _ q) h hok k _

theorem completeRead (k : SlotIx) (b : Bool) (v : Int) (a s : Option Int) (n : Nat) :
    p.Reaches ok (completeRead k b v a s n q) := by
  unfold Machine.completeRead
  split
  · exact h.completeSample hok k _
  · exact Part.Reaches.completeSample (q := withInput k _ q) h hok k _

theorem offerEcho (k : SlotIx) (i : RecordIx) (g : Generation) (x : EchoFields) (f : Bool) :
    p.Reaches ok (offerEcho k i g x f q) := by
  unfold Machine.offerEcho
  split
  · exact h
  · split
    · exact h.completeRead hok k _ _ _ _ _
    · exact h

end Slots

end Part.Reaches

end Sys2Proof.Machine

/-! SUPPORT. A selection report: the hub record as the table of R68 moves it, and the entry of SELECTION (R68, R76, R87,
R88). -/

namespace Sys2Proof.Machine

/-! ## The move of the hub state (R68, R76) -/

/-- HOLDOVER is entered with the prediction of BRIDGING or with a new one, and is HOLDOVER_EXPIRED at once where U exceeds
H (R76, R77). -/
theorem enterHoldover_hub (p : Part) :
    ∃ prediction t correction,
      (p.hub.state = .bridging → prediction = p.hub.prediction ∧ t = p.hub.t) ∧
      (enterHoldover p).hub =
        { p.hub with
          state := if p.hub.settings.holdoverLimit * 65536 < p.hub.bound then .holdoverExpired else .holdover
          grade := if p.hub.settings.holdoverLimit * 65536 < p.hub.bound then .d else .c
          lineCount := none, prediction := prediction, t := t, correction := correction } := by
  have compared (q : Part) (prediction : Option Prediction) (t : Nat) (correction : Int)
      (hq : q.hub =
        { p.hub with
          state := .holdover, grade := .c, lineCount := none, prediction := prediction, t := t, correction := correction }) :
      (compareBound false q).hub =
        { p.hub with
          state := if p.hub.settings.holdoverLimit * 65536 < p.hub.bound then .holdoverExpired else .holdover
          grade := if p.hub.settings.holdoverLimit * 65536 < p.hub.bound then .d else .c
          lineCount := none, prediction := prediction, t := t, correction := correction } := by
    have hlimit : toQ q.hub.settings.holdoverLimit < q.hub.bound ↔
        p.hub.settings.holdoverLimit * 65536 < p.hub.bound := by rw [hq]; rfl
    obtain ⟨_, hover, hhub⟩ | ⟨hnot, hsame⟩ := compareBound_cases q false
    · rw [hhub, hq, if_pos (hlimit.1 hover), if_pos (hlimit.1 hover)]
      rfl
    · have hunder : ¬ p.hub.settings.holdoverLimit * 65536 < p.hub.bound := fun h =>
        hnot ⟨by rw [hq], hlimit.2 h⟩
      rw [hsame, hq, if_neg hunder, if_neg hunder]
  by_cases hbridging : p.hub.state = .bridging
  · let m := clearHub .bridging
      (raiseHub .holdover (withHub (fun h => { h with state := .holdover, grade := .c, lineCount := none }) p))
    have hm : m.hub = { p.hub with state := .holdover, grade := .c, lineCount := none } := rfl
    have hentered : enterHoldover p = compareBound false (predictCorrection m) := by
      simp only [enterHoldover, hbridging, decide_true, if_true]
      rfl
    have hpredicted := predictCorrection_hub m
    rw [hm] at hpredicted
    rw [hentered]
    exact ⟨_, _, _, fun _ => ⟨rfl, rfl⟩, compared _ _ _ _ hpredicted⟩
  · let m := raiseHub .holdover
      (withHub (fun h => { h with state := .holdover, grade := .c, lineCount := none }) (startPrediction p))
    have hm : m.hub =
        { p.hub with
          state := .holdover, grade := .c, lineCount := none, prediction := some p.newPrediction, t := 0 } := rfl
    have hentered : enterHoldover p = compareBound false (predictCorrection m) := by
      simp only [enterHoldover, hbridging, decide_false, Bool.false_eq_true, if_false]
      rfl
    have hpredicted := predictCorrection_hub m
    rw [hm] at hpredicted
    rw [hentered]
    exact ⟨_, _, _, fun h => absurd h hbridging, compared _ _ _ _ hpredicted⟩

section Moves

variable {p : Part}

theorem newKind_phase {k : SlotIx} (h : k ≠ lineSlot) : newKind (some k) = .phase := if_neg h

theorem newKind_frequency : newKind (some lineSlot) = .frequency := rfl

theorem moveOnReport_phase {k : SlotIx} (h : k ≠ lineSlot) :
    (moveOnReport (some k) p).hub =
      { (leaveState p).hub with
        state := .acquire, inWindow := 0, lineCount := none
        grade := match p.hub.state with
          | .freeRun => .e
          | .acquire => p.hub.grade
          | _ => .c } := by
  have hkind := newKind_phase h
  cases hs : p.hub.state
  all_goals simp only [moveOnReport, hkind, hs, enterAcquire_hub]
  case acquire => simp only [leaveState, hs]

theorem moveOnReport_frequency (h : p.hub.state ≠ .lockedFreq) :
    (moveOnReport (some lineSlot) p).hub = (enterLockedFreq (leaveState p)).hub := by
  cases hs : p.hub.state
  case lockedFreq => exact absurd hs h
  all_goals simp only [moveOnReport, newKind_frequency, hs]

theorem moveOnReport_frequency_same (h : p.hub.state = .lockedFreq) : moveOnReport (some lineSlot) p = p := by
  simp only [moveOnReport, newKind_frequency, h]

/-- With no slot selected the unit goes by the prediction from any state in which it has steered. -/
theorem moveOnReport_holdover
    (h : p.hub.state = .locked ∨ p.hub.state = .lockedFreq ∨ p.hub.state = .bridging ∨
      (p.hub.state = .acquire ∧ p.hub.wasLocked = true)) : moveOnReport none p = enterHoldover p := by
  obtain hs | hs | hs | ⟨hs, hwas⟩ := h
  · simp only [moveOnReport, newKind, hs]
  · simp only [moveOnReport, newKind, hs]
  · simp only [moveOnReport, newKind, hs]
  · simp only [moveOnReport, newKind, hs, hwas, if_true]

theorem moveOnReport_freeRun (hs : p.hub.state = .acquire) (hwas : p.hub.wasLocked = false) :
    moveOnReport none p = enterFreeRun p := by
  simp only [moveOnReport, newKind, hs, hwas, Bool.false_eq_true, if_false]

theorem moveOnReport_stays
    (h : p.hub.state = .freeRun ∨ p.hub.state = .holdover ∨ p.hub.state = .holdoverExpired) : moveOnReport none p = p := by
  obtain hs | hs | hs := h <;> simp only [moveOnReport, newKind, hs]

/-- What no move of the hub state touches. -/
def SameSelection (p q : Part) : Prop :=
  q.hub.selected = p.hub.selected ∧ q.hub.causeNumber = p.hub.causeNumber ∧ q.hub.settings = p.hub.settings ∧
    q.hub.average = p.hub.average

theorem moveOnReport_sameSelection (new : Option SlotIx) : SameSelection p (moveOnReport new p) := by
  have holdover : SameSelection p (enterHoldover p) := by
    obtain ⟨_, _, _, _, hhub⟩ := enterHoldover_hub p
    rw [SameSelection, hhub]
    exact ⟨rfl, rfl, rfl, rfl⟩
  cases new with
  | none =>
    by_cases hheld : p.hub.state = .locked ∨ p.hub.state = .lockedFreq ∨ p.hub.state = .bridging ∨
        (p.hub.state = .acquire ∧ p.hub.wasLocked = true)
    · rw [moveOnReport_holdover hheld]
      exact holdover
    · cases hs : p.hub.state
      case acquire =>
        have hwas : p.hub.wasLocked = false := by simpa [hs] using hheld
        rw [moveOnReport_freeRun hs hwas]
        exact ⟨rfl, rfl, rfl, rfl⟩
      case locked => simp [hs] at hheld
      case lockedFreq => simp [hs] at hheld
      case bridging => simp [hs] at hheld
      all_goals
        rw [moveOnReport_stays (by simp [hs])]
        exact ⟨rfl, rfl, rfl, rfl⟩
  | some k =>
    by_cases hk : k = lineSlot
    · subst hk
      by_cases hs : p.hub.state = .lockedFreq
      · rw [moveOnReport_frequency_same hs]
        exact ⟨rfl, rfl, rfl, rfl⟩
      · rw [SameSelection, moveOnReport_frequency hs, enterLockedFreq_hub, leaveState_hub]
        exact ⟨rfl, rfl, rfl, rfl⟩
    · rw [SameSelection, moveOnReport_phase hk, leaveState_hub]
      exact ⟨rfl, rfl, rfl, rfl⟩

end Moves

/-! ## The entry of SELECTION (R68, R174) -/

/-- With every report of the hub let in, one of a NOTE or above is at its threshold (R171). -/
theorem atThreshold_hub_of_note {a : AlarmUnit} {r : Report} (h : a.settings.hubThreshold = some .note)
    (howner : r.owner = .hub) (hseverity : Severity.note.code ≤ r.condition.severity.code) : a.atThreshold r = true := by
  simp [AlarmUnit.atThreshold, AlarmUnit.threshold, howner, h, hseverity]

/-- A raise at its threshold that is not ancillary stands in the list, with the fields that it carries. -/
theorem lists_raised {a : AlarmUnit} {r : Report} (hraise : r.isRaise = true) (hown : r.ancillary = false)
    (hthreshold : a.atThreshold r = true) :
    (a.take r).Lists r.owner (fun e => hasCondition e.raised r.condition = true ∧ Entry.Shows r e) := by
  have hpass : a.passesOn r = true := by simp [AlarmUnit.passesOn, hraise]
  have htake := take_list_of_uncoalesced hpass hthreshold (coalescedRecord_of_not_ancillary a hown)
  obtain ⟨e, hmem, he⟩ := exists_mem_putEntry (a.updateStanding r) r.owner (fun e => e.merge r) (Entry.fresh r)
  rw [← htake] at hmem
  obtain rfl | ⟨old, howner, rfl⟩ := he
  · exact ⟨_, hmem, rfl, by simp [Entry.fresh, hraise], Entry.fresh_shows r⟩
  · exact ⟨_, hmem, howner, by simp [Entry.merge, hraise], Entry.merge_shows old r⟩

/-- A raised condition stays raised in an entry under a merge. -/
theorem raised_merge {e : Entry} {c : Condition} (r : Report) (h : hasCondition e.raised c = true) :
    hasCondition (e.merge r).raised c = true := by
  unfold Entry.merge
  dsimp only
  split
  · rw [hasCondition, BitVec.getLsbD_or]
    exact Bool.or_eq_true_iff.2 (.inl h)
  · exact h

/-- The part with SELECTION raised, before the hub state moves. -/
def selectionRaised (new : Option SlotIx) (cause : SelectionCause) (p : Part) : Part :=
  let q := advanceCause (withHub (fun h => { h with selected := new }) p)
  report { q.hubReport .selection true with slot := some new, detail := some (.selection cause) } q

theorem selectionReport_lists {new : Option SlotIx} {cause : SelectionCause} {p : Part}
    (h : p.alarm.settings.hubThreshold = some .note) :
    (selectionReport new cause p).alarm.Lists .hub (fun e =>
      hasCondition e.raised .selection = true ∧ e.slot = some new ∧ e.detail = some (.selection cause)) := by
  let q := advanceCause (withHub (fun h => { h with selected := new }) p)
  let r : Report := { q.hubReport .selection true with slot := some new, detail := some (.selection cause) }
  have raised : (selectionRaised new cause p).alarm.Lists .hub (fun e =>
      hasCondition e.raised .selection = true ∧ e.slot = some new ∧ e.detail = some (.selection cause)) := by
    obtain ⟨e, hmem, howner, hraised, hshows⟩ :=
      lists_raised (a := q.alarm) (r := r) rfl rfl (atThreshold_hub_of_note (r := r) h rfl (Nat.le_refl _))
    exact ⟨e, hmem, howner, hraised, hshows.slot _ rfl, hshows.detail _ rfl⟩
  have reached : (selectionRaised new cause p).Reaches (fun r => r.slot = none ∧ r.detail = none ∧ r.ancillary = false)
      (moveOnReport new (selectionRaised new cause p)) :=
    (Part.Reaches.refl _).moveOnReport (fun _ _ _ => ⟨rfl, rfl, rfl⟩) new
  refine raised.reaches reached ?_ fun r hr hancillary => absurd hancillary (by simp [hr.2.2])
  intro r hr _ e hshows
  obtain ⟨hslot, hdetail, _⟩ := hr
  obtain ⟨hraised, hnew, hcause⟩ := hshows
  refine ⟨raised_merge r hraised, ?_, ?_⟩
  · rw [Entry.merge, hslot]
    exact hnew
  · rw [Entry.merge, hdetail]
    exact hcause

/-- Settles O22: the hub record by the state that it moves from, the entry, and the leave of a choice. -/
theorem selectionReportMovesTheHubState : Obligations.SelectionReportMovesTheHubState := by
  intro p new cause
  let q := selectionRaised new cause p
  have hq : q.hub = { p.hub with selected := new, causeNumber := nextCause p.hub.causeNumber } := rfl
  have hslot : q.slot lineSlot = p.slot lineSlot := rfl
  have hmoved : selectionReport new cause p = moveOnReport new q := rfl
  have hlist := selectionReport_lists (new := new) (cause := cause) (p := p)
  have hwithin : Within .choosing p (selectionReport new cause p) :=
    (Within.refl _ p).selectionReport Access.choosing_choice new cause
  have hunselected : (selectionReport new cause p).selected = p.selected := ((Steers.refl q).moveOnReport new).selected
  obtain ⟨hselected, hcause, hsettings, haverage⟩ := moveOnReport_sameSelection (p := q) new
  rw [hq] at hselected hcause hsettings haverage
  refine ⟨_, rfl, ?_⟩
  rw [hmoved] at hlist hwithin hunselected ⊢
  refine ⟨hselected, hcause, hsettings, haverage, fun k hk hne => ?_, fun hline hfreq => ?_, fun hnone hacquire hwas => ?_,
    fun hnone hbridging => ?_, fun hnone hsteered => ?_, fun hthreshold => ?_, hwithin.keepsTables nofun nofun nofun nofun,
    hwithin.keepsBase nofun, hunselected, hwithin.slots_eq nofun, hwithin.inputs_eq nofun, hwithin.mgmt⟩
  · subst hk
    rw [moveOnReport_phase hne, leaveState_hub, hq]
    refine ⟨rfl, rfl, rfl, rfl, rfl, fun hheld => ?_⟩
    dsimp only
    rw [if_pos hheld, if_pos (.inr hheld)]
    exact ⟨rfl, rfl⟩
  · subst hline
    have hstate : q.hub.state ≠ .lockedFreq := hfreq
    rw [moveOnReport_frequency hstate, enterLockedFreq_hub, leaveState_hub]
    refine ⟨rfl, rfl, rfl, rfl, ?_⟩
    have hsame : (leaveState q).slot lineSlot = p.slot lineSlot :=
      (((Within.refl Access.choosing q).leaveState Access.choosing_choice).slots lineSlot nofun).trans hslot
    rw [hsame, hq]
  · subst hnone
    rw [moveOnReport_freeRun (p := q) hacquire hwas, enterFreeRun_hub, hq]
    exact ⟨rfl, rfl, rfl, rfl⟩
  · subst hnone
    obtain ⟨prediction, t, correction, hkept, hhub⟩ := enterHoldover_hub q
    obtain ⟨hprediction, ht⟩ := hkept hbridging
    rw [moveOnReport_holdover (p := q) (.inr (.inr (.inl hbridging))), hhub]
    exact ⟨hprediction, ht, rfl⟩
  · subst hnone
    obtain ⟨prediction, t, correction, _, hhub⟩ := enterHoldover_hub q
    rw [moveOnReport_holdover (p := q) hsteered, hhub]
    exact ⟨rfl, rfl⟩
  · exact hlist hthreshold

end Sys2Proof.Machine

/-! SUPPORT. The reports of a time error judgement: the conditions that it moves and what the notices show of them (R152,
R153, R170, R172 to R176). -/

namespace Sys2Proof.Machine

/-! ## A report in the list of its record's owner (R173 to R176) -/

/-- What the list holds of a record before its first report of a command, and after one that was not ancillary. -/
def AlarmUnit.Awaits (a : AlarmUnit) (i : RecordIx) (generation : Option Generation) (first : Bool) : Prop :=
  if first then ∀ e ∈ a.list, e.owner ≠ .record i
  else a.Lists (.record i) (fun e => e.ancillary = false ∧ e.generation = generation)

theorem AlarmUnit.Lists.hasEntry {a : AlarmUnit} {o : Owner} {shows : Entry → Prop} (h : a.Lists o shows) :
    a.hasEntry o = true := by
  obtain ⟨e, hmem, howner, _⟩ := h
  exact hasEntry_of_mem hmem howner

theorem AlarmUnit.Lists.mono {a : AlarmUnit} {o : Owner} {shows weaker : Entry → Prop} (h : a.Lists o shows)
    (himp : ∀ e, shows e → weaker e) : a.Lists o weaker := by
  obtain ⟨e, hmem, howner, hshows⟩ := h
  exact ⟨e, hmem, howner, himp e hshows⟩

theorem lists_fresh {a : AlarmUnit} {r : Report} (hpass : a.passesOn r = true) (hthreshold : a.atThreshold r = true)
    (halone : a.coalescedRecord r = none) (hnone : ∀ e ∈ a.list, e.owner ≠ r.owner) :
    (a.take r).Lists r.owner (fun e => e = Entry.fresh r) := by
  refine ⟨Entry.fresh r, ?_, rfl, rfl⟩
  rw [take_list_of_uncoalesced hpass hthreshold halone, putEntry_tail (by rwa [updateStanding_list])]
  exact List.mem_append_right _ (List.mem_singleton.2 rfl)

theorem lists_merged {a : AlarmUnit} {r : Report} {shows : Entry → Prop} (hpass : a.passesOn r = true)
    (hthreshold : a.atThreshold r = true) (h : a.Lists r.owner shows) :
    (a.take r).Lists r.owner (fun e => ∃ old, shows old ∧ e = old.merge r) := by
  have halone := coalescedRecord_none (r := r) (.inl h.hasEntry)
  obtain ⟨e, hmem, howner, hshows⟩ := h
  have hput := mem_putEntry r.owner (fun e => e.merge r) (Entry.fresh r) (a := a.updateStanding r) (e := e)
    (by rwa [updateStanding_list])
  rw [if_pos howner, ← take_list_of_uncoalesced hpass hthreshold halone] at hput
  exact ⟨_, hput, howner, e, hshows, rfl⟩

/-- What a raise that is not coalesced leaves in its record's entry. -/
theorem raise_shown {a : AlarmUnit} {r : Report} {i : RecordIx} {first : Bool} (hawaits : a.Awaits i r.generation first)
    (howner : r.owner = .record i) (hraise : r.isRaise = true) (hthreshold : a.atThreshold r = true)
    (halone : a.coalescedRecord r = none) :
    (a.take r).Lists (.record i) (fun e =>
      hasCondition e.raised r.condition = true ∧ Entry.Shows r e ∧ e.cause = r.cause ∧ e.generation = r.generation ∧
        e.ancillary = (r.ancillary && first)) := by
  have hpass : a.passesOn r = true := by simp [AlarmUnit.passesOn, hraise]
  rw [← howner]
  cases first with
  | true =>
    have hnone : ∀ e ∈ a.list, e.owner ≠ r.owner := by rw [howner]; exact hawaits
    refine (lists_fresh hpass hthreshold halone hnone).mono ?_
    rintro e rfl
    refine ⟨by simp [Entry.fresh, hraise], Entry.fresh_shows r, rfl, rfl, ?_⟩
    rw [Entry.fresh, hraise, Bool.true_and, Bool.and_true]
  | false =>
    have hlisted : a.Lists r.owner (fun e => e.ancillary = false ∧ e.generation = r.generation) := by
      rw [howner]
      exact hawaits
    refine (lists_merged hpass hthreshold hlisted).mono ?_
    rintro e ⟨old, ⟨hancillary, hgeneration⟩, rfl⟩
    refine ⟨by simp [Entry.merge, hraise], Entry.merge_shows old r, rfl, hgeneration, ?_⟩
    rw [Entry.merge, hraise, if_pos rfl, hancillary, Bool.false_and, Bool.and_false]
    rfl

/-- What a clear of a standing condition leaves in its owner's entry. -/
theorem clear_shown {a : AlarmUnit} {r : Report} (hclear : r.isRaise = false) (hown : r.ancillary = false)
    (hpass : a.passesOn r = true) (hthreshold : a.atThreshold r = true) :
    (a.take r).Lists r.owner (fun e => hasCondition e.cleared r.condition = true ∧ Entry.Shows r e) := by
  have htake := take_list_of_uncoalesced hpass hthreshold (coalescedRecord_of_not_ancillary a hown)
  obtain ⟨e, hmem, he⟩ := exists_mem_putEntry (a.updateStanding r) r.owner (fun e => e.merge r) (Entry.fresh r)
  rw [← htake] at hmem
  obtain rfl | ⟨old, howner, rfl⟩ := he
  · exact ⟨_, hmem, rfl, by simp [Entry.fresh, hclear], Entry.fresh_shows r⟩
  · exact ⟨_, hmem, howner, by simp [Entry.merge, hclear], Entry.merge_shows old r⟩

/-- A report of a record that is not ancillary leaves an entry that is not. -/
theorem awaits_after {a : AlarmUnit} {r : Report} {i : RecordIx} {first : Bool} (hawaits : a.Awaits i r.generation first)
    (howner : r.owner = .record i) (hown : r.ancillary = false) (hpass : a.passesOn r = true)
    (hthreshold : a.atThreshold r = true) : (a.take r).Awaits i r.generation false := by
  change (a.take r).Lists (.record i) _
  rw [← howner]
  cases first with
  | true =>
    have hnone : ∀ e ∈ a.list, e.owner ≠ r.owner := by rw [howner]; exact hawaits
    refine (lists_fresh hpass hthreshold (coalescedRecord_of_not_ancillary a hown) hnone).mono ?_
    rintro e rfl
    exact ⟨by rw [Entry.fresh, hown, Bool.and_false], rfl⟩
  | false =>
    have hlisted : a.Lists r.owner (fun e => e.ancillary = false ∧ e.generation = r.generation) := by
      rw [howner]
      exact hawaits
    refine (lists_merged hpass hthreshold hlisted).mono ?_
    rintro e ⟨old, ⟨hancillary, hgeneration⟩, rfl⟩
    refine ⟨?_, hgeneration⟩
    unfold Entry.merge
    dsimp only
    rw [hancillary, Bool.false_and, ite_self]

/-- A coalesced raise adds its record to the hub's entry, and leaves the entries of its owner (R176). -/
theorem coalesced_shown {a : AlarmUnit} {r : Report} {i : RecordIx} (hpass : a.passesOn r = true)
    (hthreshold : a.atThreshold r = true) (hco : a.coalescedRecord r = some i)
    (hnone : ∀ e ∈ a.list, e.owner ≠ .record i) :
    (a.take r).Lists .hub (fun e => (e.affected.getD 0).getLsbD i.val = true) ∧
      ∀ e ∈ (a.take r).list, e.owner ≠ .record i := by
  have htake := take_list_of_coalesced hpass hthreshold hco
  have hmask : (recordMask i).getLsbD i.val = true := by
    simp [recordMask]
  refine ⟨?_, fun e he => ?_⟩
  · obtain ⟨e, hmem, he⟩ :=
      exists_mem_putEntry (a.updateStanding r) .hub (fun e => e.coalesce i r.cause) (Entry.coalesced i r.cause)
    rw [← htake] at hmem
    obtain rfl | ⟨old, howner, rfl⟩ := he
    · exact ⟨_, hmem, rfl, hmask⟩
    · refine ⟨_, hmem, howner, ?_⟩
      change ((old.affected.getD 0) ||| recordMask i).getLsbD i.val = true
      rw [BitVec.getLsbD_or, hmask, Bool.or_true]
  · rw [htake] at he
    have hown : ((a.updateStanding r).putEntry .hub (fun e => e.coalesce i r.cause)
        (Entry.coalesced i r.cause)).entriesOf (.record i) = a.entriesOf (.record i) := by
      have hne : Owner.hub ≠ .record i := by simp
      refine (entriesOf_putEntry_ne (a := a.updateStanding r) (o := .hub) (x := .record i)
        (f := fun e => e.coalesce i r.cause) (e := Entry.coalesced i r.cause) hne (fun _ => rfl) rfl).trans ?_
      rw [AlarmUnit.entriesOf, updateStanding_list]
      rfl
    intro howner
    have hmem : e ∈ a.entriesOf (.record i) := by
      rw [← hown]
      exact List.mem_filter.2 ⟨he, by simp [howner]⟩
    exact hnone e (List.mem_filter.1 hmem).1 howner

/-! ## The reports of a judgement (R152) -/

/-- The condition of a TE state that has one. -/
def teCondition : TeState → Option Condition
  | .marginal => some .teMarginal
  | .exceeded => some .teExceeded
  | .unmeasured => none
  | .within => none

/-- The conditions of the TE states stand, and are reported at MINOR or above. -/
theorem teCondition_standing {v : TeState} {c : Condition} (h : teCondition v = some c) :
    c.standing = true ∧ Severity.note.code ≤ c.severity.code := by
  cases v <;> simp only [teCondition, reduceCtorEq, Option.some.injEq] at h <;> subst h <;>
    exact ⟨rfl, Nat.le_add_left 1 _⟩

theorem teCondition_some {v : TeState} {c : Condition} (h : teCondition v = some c) :
    (v = .marginal ∧ c = .teMarginal) ∨ (v = .exceeded ∧ c = .teExceeded) := by
  cases v <;> simp_all [teCondition]

theorem teCondition_bit {v w : TeState} {b c : Condition} (hv : teCondition v = some b) (hw : teCondition w = some c)
    (hne : v ≠ w) : b.bit ≠ c.bit := by
  obtain ⟨rfl, rfl⟩ | ⟨rfl, rfl⟩ := teCondition_some hv <;> obtain ⟨rfl, rfl⟩ | ⟨rfl, rfl⟩ := teCondition_some hw
  · exact absurd rfl hne
  · decide
  · decide
  · exact absurd rfl hne

section Verdict

variable (q : PortIx) (i : RecordIx) (p : Part) (te : Int) (ancillary : Bool)

/-- The raise and the clear that a judgement makes. -/
def teRaise (c : Condition) : Report := { recordPortReport c true q i p with te := some te, ancillary := ancillary }
def teClear (c : Condition) : Report := { recordPortReport c false q i p with te := some te }

variable {before verdict : TeState} {b c : Condition}

theorem reportVerdict_same (v : TeState) : reportVerdict v v te ancillary q i p = p := by
  cases v <;> rfl

theorem reportVerdict_quiet (hbefore : teCondition before = none) (hverdict : teCondition verdict = none) :
    reportVerdict before verdict te ancillary q i p = p := by
  cases before <;> cases verdict <;> simp only [teCondition, reduceCtorEq] at hbefore hverdict <;> rfl

theorem reportVerdict_enters (hbefore : teCondition before = none) (hverdict : teCondition verdict = some c) :
    reportVerdict before verdict te ancillary q i p = report (teRaise q i p te ancillary c) p := by
  cases before <;> cases verdict <;>
    simp only [teCondition, reduceCtorEq, Option.some.injEq] at hbefore hverdict <;> subst hverdict <;> rfl

theorem reportVerdict_leaves (hbefore : teCondition before = some b) :
    reportVerdict before .within te ancillary q i p = report (teClear q i p te b) p := by
  cases before <;> simp only [teCondition, reduceCtorEq, Option.some.injEq] at hbefore <;> subst hbefore <;> rfl

theorem reportVerdict_moves (hbefore : teCondition before = some b) (hverdict : teCondition verdict = some c)
    (hne : before ≠ verdict) :
    reportVerdict before verdict te ancillary q i p =
      reportPair (before == .exceeded) (teRaise q i p te ancillary c) (teClear q i p te b) p := by
  obtain ⟨rfl, rfl⟩ | ⟨rfl, rfl⟩ := teCondition_some hbefore <;> obtain ⟨rfl, rfl⟩ | ⟨rfl, rfl⟩ := teCondition_some hverdict
  · exact absurd rfl hne
  · rfl
  · rfl
  · exact absurd rfl hne

/-! ## The standing conditions (R152, R170) -/

theorem standing_raised {a : AlarmUnit} {r : Report} {o : Owner} (howner : r.owner = o) (hraise : r.isRaise = true)
    (hstanding : r.condition.standing = true) (d : Condition) :
    hasCondition ((a.take r).standingOf o) d =
      (decide (r.condition.bit = d.bit) || hasCondition (a.standingOf o) d) := by
  subst howner
  by_cases hbit : r.condition.bit = d.bit
  · have hraised := take_raised (a := a) hraise hstanding
    rw [hasCondition, ← hbit]
    simpa [hasCondition, hbit] using hraised
  · rw [take_other fun _ h => hbit h.2]
    simp [hbit]

theorem standing_cleared {a : AlarmUnit} {r : Report} {o : Owner} (howner : r.owner = o) (hclear : r.isRaise = false)
    (hstanding : r.condition.standing = true) (d : Condition) :
    hasCondition ((a.take r).standingOf o) d =
      (!decide (r.condition.bit = d.bit) && hasCondition (a.standingOf o) d) := by
  subst howner
  by_cases hbit : r.condition.bit = d.bit
  · have hcleared := take_cleared (a := a) hclear hstanding
    rw [hasCondition, ← hbit]
    simpa [hasCondition, hbit] using hcleared
  · rw [take_other fun _ h => hbit h.2]
    simp [hbit]

/-- The clear that goes with a coalesced raise moves the standing set as a clear of its own does. -/
theorem updateStanding_cleared {a : AlarmUnit} {r : Report} (hclear : r.isRaise = false)
    (hstanding : r.condition.standing = true) (o : Owner) :
    (a.updateStanding r).standingOf o = (a.take r).standingOf o := by
  rw [take_standing]
  by_cases howner : r.owner = o
  · subst howner
    rw [if_pos (c := _ ∧ _) ⟨hstanding, rfl⟩, hclear, if_neg (by simp), AlarmUnit.updateStanding,
      if_pos hstanding, hclear, if_neg (by simp), standingOf_setStanding, if_pos rfl]
  · rw [if_neg (c := _ ∧ _) fun h => howner h.2, AlarmUnit.updateStanding, if_pos hstanding, hclear, if_neg (by simp),
      standingOf_setStanding, if_neg howner]

theorem reportPair_standing {clearFirst : Bool} {raised cleared : Report} {o : Owner} (hro : raised.owner = o)
    (hco : cleared.owner = o) (hraise : raised.isRaise = true) (hclear : cleared.isRaise = false)
    (hrs : raised.condition.standing = true) (hcs : cleared.condition.standing = true)
    (hbits : raised.condition.bit ≠ cleared.condition.bit) (d : Condition) :
    hasCondition ((reportPair clearFirst raised cleared p).alarm.standingOf o) d =
      (decide (raised.condition.bit = d.bit) ||
        (!decide (cleared.condition.bit = d.bit) && hasCondition (p.alarm.standingOf o) d)) := by
  have hsplit (x : Bool) :
      (!decide (cleared.condition.bit = d.bit) && (decide (raised.condition.bit = d.bit) || x)) =
        (decide (raised.condition.bit = d.bit) || (!decide (cleared.condition.bit = d.bit) && x)) := by
    by_cases hd : raised.condition.bit = d.bit
    · have hne : cleared.condition.bit ≠ d.bit := fun h => hbits (hd.trans h.symm)
      simp [hd, hne]
    · simp [hd]
  unfold reportPair
  split
  · change hasCondition (((p.alarm.take raised).updateStanding cleared).standingOf o) d = _
    rw [updateStanding_cleared hclear hcs, standing_cleared hco hclear hcs, standing_raised hro hraise hrs, hsplit]
  · split
    · rw [report_alarm, standing_raised hro hraise hrs, report_alarm, standing_cleared hco hclear hcs]
    · rw [report_alarm, standing_cleared hco hclear hcs, report_alarm, standing_raised hro hraise hrs, hsplit]

/-- What a judgement makes of the condition of a TE state. -/
theorem reportVerdict_standing {v : TeState} {d : Condition} (hd : teCondition v = some d)
    (hmeasured : verdict ≠ .unmeasured) :
    hasCondition ((reportVerdict before verdict te ancillary q i p).alarm.standingOf (.record i)) d =
      if verdict = before then hasCondition (p.alarm.standingOf (.record i)) d
      else if verdict = v then true
      else if before = v then false
      else hasCondition (p.alarm.standingOf (.record i)) d := by
  by_cases hsame : verdict = before
  · rw [if_pos hsame, hsame, reportVerdict_same]
  rw [if_neg hsame]
  have bit_iff {w : TeState} {x : Condition} (hx : teCondition w = some x) : x.bit = d.bit ↔ w = v := by
    refine ⟨fun hbit => ?_, fun hw => ?_⟩
    · by_contra hne
      exact teCondition_bit hx hd hne hbit
    · subst hw
      rw [Option.some.inj (hx.symm.trans hd)]
  have ne_of_none {w : TeState} (hw : teCondition w = none) : w ≠ v := by
    rintro rfl
    rw [hd] at hw
    simp at hw
  cases hbefore : teCondition before with
  | none =>
    rw [if_neg (ne_of_none hbefore)]
    cases hverdict : teCondition verdict with
    | none => rw [reportVerdict_quiet q i p te ancillary hbefore hverdict, if_neg (ne_of_none hverdict)]
    | some c =>
      rw [reportVerdict_enters q i p te ancillary hbefore hverdict, report_alarm,
        standing_raised (r := teRaise q i p te ancillary c) (o := .record i) rfl rfl (teCondition_standing hverdict).1]
      change (decide (c.bit = d.bit) || _) = _
      by_cases hv : verdict = v <;> simp [bit_iff hverdict, hv]
  | some b =>
    cases hverdict : teCondition verdict with
    | none =>
      have hwithin : verdict = .within := by
        cases verdict <;> simp [teCondition] at hverdict hmeasured ⊢
      rw [if_neg (ne_of_none hverdict), hwithin, reportVerdict_leaves q i p te ancillary hbefore, report_alarm,
        standing_cleared (r := teClear q i p te b) (o := .record i) rfl rfl (teCondition_standing hbefore).1]
      change (!decide (b.bit = d.bit) && _) = _
      by_cases hv : before = v <;> simp [bit_iff hbefore, hv]
    | some c =>
      have hne : before ≠ verdict := fun h => hsame h.symm
      rw [reportVerdict_moves q i p te ancillary hbefore hverdict hne,
        reportPair_standing (raised := teRaise q i p te ancillary c) (cleared := teClear q i p te b) (o := .record i) p rfl rfl
          rfl rfl
          (teCondition_standing hverdict).1 (teCondition_standing hbefore).1 (teCondition_bit hverdict hbefore hne.symm)]
      change (decide (c.bit = d.bit) || (!decide (b.bit = d.bit) && _)) = _
      by_cases hv : verdict = v
      · simp [bit_iff hverdict, hv]
      · by_cases hb : before = v <;> simp [bit_iff hverdict, bit_iff hbefore, hv, hb]

end Verdict

end Sys2Proof.Machine

/-! SUPPORT. The notices of a time error judgement, uncoalesced and coalesced (R152, R153, R173 to R176). -/

namespace Sys2Proof.Machine

/-! ## What an entry tells of a judgement -/

/-- The entry has a condition raised by a judgement on a port, with its TE, its cause number and its ancillary mark. -/
def Entry.Raises (x : PortIx) (c : Condition) (te : Int) (cause : Nat) (g : Option Generation) (ancillary : Bool)
    (e : Entry) : Prop :=
  hasCondition e.raised c = true ∧ e.te = some te ∧ e.ports = some (portMask x) ∧ e.cause = cause ∧ e.generation = g ∧
    e.ancillary = ancillary

/-- The entry has a condition cleared by a judgement on a port, with its TE. -/
def Entry.Clears (x : PortIx) (c : Condition) (te : Int) (e : Entry) : Prop :=
  hasCondition e.cleared c = true ∧ e.te = some te ∧ e.ports = some (portMask x)

/-- A report of the same slot that carries no other TE. -/
def Report.OfSlot (x : PortIx) (te : Int) (r : Report) : Prop :=
  r.ports = some (portMask x) ∧ (r.te = none ∨ r.te = some te)

theorem Report.OfSlot.newer_te {x : PortIx} {te : Int} {r : Report} (h : r.OfSlot x te) {kept : Option Int}
    (hkept : kept = some te) : newer r.te kept = some te := by
  obtain ⟨_, hte | hte⟩ := h <;> rw [hte]
  · exact hkept
  · rfl

theorem Entry.Raises.merge {x : PortIx} {c : Condition} {te : Int} {cause : Nat} {g : Option Generation} {ancillary : Bool}
    {e : Entry} {r : Report} (h : e.Raises x c te cause g ancillary) (hr : r.OfSlot x te) (hclear : r.isRaise = false)
    (hcause : r.cause = cause) : (e.merge r).Raises x c te cause g ancillary := by
  obtain ⟨hraised, hte, _, _, hgeneration, hancillary⟩ := h
  refine ⟨?_, hr.newer_te hte, newer_of_some _ hr.1, hcause, hgeneration, ?_⟩
  · simpa [Entry.merge, hclear] using hraised
  · simpa [Entry.merge, hclear] using hancillary

theorem Entry.Clears.merge {x : PortIx} {c : Condition} {te : Int} {e : Entry} {r : Report} (h : e.Clears x c te)
    (hr : r.OfSlot x te) : (e.merge r).Clears x c te := by
  obtain ⟨hcleared, hte, _⟩ := h
  refine ⟨?_, hr.newer_te hte, newer_of_some _ hr.1⟩
  unfold Entry.merge
  dsimp only
  split
  · exact hcleared
  · rw [hasCondition, BitVec.getLsbD_or]
    exact Bool.or_eq_true_iff.2 (.inl hcleared)

/-! ## The reports of a judgement that is not coalesced -/

theorem take_of_not_passing {a : AlarmUnit} {r : Report} (h : a.passesOn r = false) : a.take r = a := by
  rw [AlarmUnit.take, if_neg (by simp [h])]

theorem coalescedRecord_of_awaits {a : AlarmUnit} {r : Report} {i : RecordIx} {g : Option Generation} {first : Bool}
    (hawaits : a.Awaits i g first) (howner : r.owner = .record i)
    (h : a.settings.coalescing = false ∨ r.ancillary = false ∨ first = false) : a.coalescedRecord r = none := by
  refine coalescedRecord_none ?_
  obtain h | h | rfl := h
  · exact .inr (.inl h)
  · exact .inr (.inr h)
  · rw [howner]
    exact .inl (AlarmUnit.Lists.hasEntry hawaits)

section Uncoalesced

variable {q : PortIx} {i : RecordIx} {p : Part} {te : Int} {ancillary first : Bool} {before verdict : TeState}
  {b c : Condition}

theorem teRaise_ofSlot (q : PortIx) (i : RecordIx) (p : Part) (te : Int) (ancillary : Bool) (c : Condition) :
    (teRaise q i p te ancillary c).OfSlot q te := ⟨rfl, .inr rfl⟩

theorem teClear_ofSlot (q : PortIx) (i : RecordIx) (p : Part) (te : Int) (b : Condition) :
    (teClear q i p te b).OfSlot q te := ⟨rfl, .inr rfl⟩

theorem teCondition_threshold {v : TeState} {r : Report} {a : AlarmUnit} (hv : teCondition v = some r.condition)
    (h : a.settings.recordThreshold = some .note) (howner : r.owner = .record i) : a.atThreshold r = true := by
  have hseverity := (teCondition_standing hv).2
  unfold AlarmUnit.atThreshold
  rw [howner]
  simpa [AlarmUnit.threshold, h] using hseverity

/-- The raise of a judgement, in the entry of its record. -/
theorem raises_after {a : AlarmUnit} (hawaits : a.Awaits i (some (p.record i).generation) first)
    (hthreshold : a.settings.recordThreshold = some .note)
    (hun : a.settings.coalescing = false ∨ ancillary = false ∨ first = false) (hc : teCondition verdict = some c) :
    (a.take (teRaise q i p te ancillary c)).Lists (.record i)
      (Entry.Raises q c te p.hub.causeNumber (some (p.record i).generation) (ancillary && first)) := by
  have hshown := raise_shown (r := teRaise q i p te ancillary c) hawaits rfl rfl
    (teCondition_threshold (i := i) hc hthreshold rfl) (coalescedRecord_of_awaits hawaits rfl hun)
  exact hshown.mono fun e ⟨hraised, hshows, hcause, hgeneration, hancillary⟩ =>
    ⟨hraised, hshows.te _ rfl, hshows.ports _ rfl, hcause, hgeneration, hancillary⟩

/-- The clear of a judgement, in the entry of its record. -/
theorem clears_after {a : AlarmUnit} (hthreshold : a.settings.recordThreshold = some .note)
    (hb : teCondition before = some b) (hstands : hasCondition (a.standingOf (.record i)) b = true) :
    (a.take (teClear q i p te b)).Lists (.record i) (Entry.Clears q b te) := by
  have hshown := clear_shown (a := a) (r := teClear q i p te b) rfl rfl
    (by rw [AlarmUnit.passesOn]; exact hstands) (teCondition_threshold (i := i) hb hthreshold rfl)
  exact hshown.mono fun e ⟨hcleared, hshows⟩ => ⟨hcleared, hshows.te _ rfl, hshows.ports _ rfl⟩

/-- The reports of a judgement that moves from one condition to another, when its raise is not coalesced. -/
theorem reportVerdict_alarm (hb : teCondition before = some b) (hc : teCondition verdict = some c) (hne : before ≠ verdict)
    (halone : p.alarm.coalescedRecord (teRaise q i p te ancillary c) = none) :
    (reportVerdict before verdict te ancillary q i p).alarm =
      if before = .exceeded then (p.alarm.take (teClear q i p te b)).take (teRaise q i p te ancillary c)
      else (p.alarm.take (teRaise q i p te ancillary c)).take (teClear q i p te b) := by
  rw [reportVerdict_moves q i p te ancillary hb hc hne, reportPair, if_neg (by simp [halone])]
  by_cases hexceeded : before = .exceeded
  · simp only [hexceeded, beq_self_eq_true, if_true, report_alarm]
  · simp only [beq_iff_eq, if_neg hexceeded, report_alarm]

/-- The raise that an uncoalesced judgement leaves in the list. -/
theorem reportVerdict_raises (hawaits : p.alarm.Awaits i (some (p.record i).generation) first)
    (hthreshold : p.alarm.settings.recordThreshold = some .note)
    (hun : p.alarm.settings.coalescing = false ∨ ancillary = false ∨ first = false) (hc : teCondition verdict = some c)
    (hne : before ≠ verdict) :
    (reportVerdict before verdict te ancillary q i p).alarm.Lists (.record i)
      (Entry.Raises q c te p.hub.causeNumber (some (p.record i).generation)
        (ancillary && first &&
          !(before == .exceeded && hasCondition (p.alarm.standingOf (.record i)) .teExceeded))) := by
  cases hb : teCondition before with
  | none =>
    have hbefore : (before == TeState.exceeded) = false := by
      cases before <;> simp [teCondition] at hb ⊢
    rw [reportVerdict_enters q i p te ancillary hb hc, report_alarm, hbefore, Bool.false_and, Bool.not_false, Bool.and_true]
    exact raises_after hawaits hthreshold hun hc
  | some b =>
    rw [reportVerdict_alarm hb hc hne (coalescedRecord_of_awaits hawaits rfl hun)]
    split
    · next hexceeded =>
      subst hexceeded
      obtain rfl := Option.some.inj hb
      rw [beq_self_eq_true, Bool.true_and]
      cases hstands : hasCondition (p.alarm.standingOf (.record i)) .teExceeded with
      | true =>
        rw [Bool.not_true, Bool.and_false, ← Bool.and_false ancillary]
        refine raises_after ?_ (by rwa [take_settings]) (.inr (.inr rfl)) hc
        exact awaits_after (r := teClear q i p te .teExceeded) hawaits rfl rfl hstands
          (teCondition_threshold (v := .exceeded) (i := i) rfl hthreshold rfl)
      | false =>
        rw [take_of_not_passing (r := teClear q i p te .teExceeded) hstands, Bool.not_false, Bool.and_true]
        exact raises_after hawaits hthreshold hun hc
    · next hexceeded =>
      rw [beq_eq_false_iff_ne.2 hexceeded, Bool.false_and, Bool.not_false, Bool.and_true]
      exact (raises_after hawaits hthreshold hun hc).take
        (fun _ _ h => h.merge (teClear_ofSlot q i p te b) rfl rfl) nofun

/-- The clear that an uncoalesced judgement leaves in the list. -/
theorem reportVerdict_clears (hawaits : p.alarm.Awaits i (some (p.record i).generation) first)
    (hthreshold : p.alarm.settings.recordThreshold = some .note)
    (hun : p.alarm.settings.coalescing = false ∨ ancillary = false ∨ first = false) (hb : teCondition before = some b)
    (hmeasured : verdict ≠ .unmeasured) (hne : before ≠ verdict)
    (hstands : hasCondition (p.alarm.standingOf (.record i)) b = true) :
    (reportVerdict before verdict te ancillary q i p).alarm.Lists (.record i) (Entry.Clears q b te) := by
  cases hc : teCondition verdict with
  | none =>
    have hwithin : verdict = .within := by
      cases verdict <;> simp [teCondition] at hc hmeasured ⊢
    rw [hwithin, reportVerdict_leaves q i p te ancillary hb, report_alarm]
    exact clears_after hthreshold hb hstands
  | some c =>
    rw [reportVerdict_alarm hb hc hne (coalescedRecord_of_awaits hawaits rfl hun)]
    split
    · exact (clears_after hthreshold hb hstands).take
        (fun _ _ h => h.merge (teRaise_ofSlot q i p te ancillary c)) nofun
    · refine clears_after (by rwa [take_settings]) hb ?_
      rw [standing_raised (r := teRaise q i p te ancillary c) (o := .record i) rfl rfl (teCondition_standing hc).1, hstands,
        Bool.or_true]

end Uncoalesced

/-! ## The reports of a judgement that is coalesced (R176) -/

/-- The list of a coalesced judgement: the record is in the hub's entry, and has none of its own. -/
theorem reportVerdict_coalesced {q : PortIx} {i : RecordIx} {p : Part} {te : Int} {before verdict : TeState} {c : Condition}
    (hnone : ∀ e ∈ p.alarm.list, e.owner ≠ .record i) (hthreshold : p.alarm.settings.recordThreshold = some .note)
    (hcoalescing : p.alarm.settings.coalescing = true) (hc : teCondition verdict = some c) (hne : before ≠ verdict) :
    (reportVerdict before verdict te true q i p).alarm.Lists .hub
        (fun e => (e.affected.getD 0).getLsbD i.val = true) ∧
      ∀ e ∈ (reportVerdict before verdict te true q i p).alarm.list, e.owner ≠ .record i := by
  have hsome := coalescedRecord_some (r := teRaise q i p te true c) rfl hnone hcoalescing rfl rfl
  have hat : p.alarm.atThreshold (teRaise q i p te true c) = true := teCondition_threshold (i := i) hc hthreshold rfl
  have hlist : (reportVerdict before verdict te true q i p).alarm.list = (p.alarm.take (teRaise q i p te true c)).list := by
    cases hb : teCondition before with
    | none => rw [reportVerdict_enters q i p te true hb hc, report_alarm]
    | some b =>
      rw [reportVerdict_moves q i p te true hb hc hne, reportPair, if_pos (by rw [hsome, hat]; rfl)]
      exact updateStanding_list _ _
  unfold AlarmUnit.Lists
  rw [hlist]
  exact coalesced_shown rfl hat hsome hnone

end Sys2Proof.Machine

/-! SUPPORT. The time error judgement of a DELAY slot, missing or an ECHO, as it stands when the command ends (R139, R151 to
R153, R175, R176). -/

namespace Sys2Proof.Machine

/-! ## The judgement in a part (R151, R152) -/

/-- The part `m` is the part `p` brought to the judgement of a record with a filter: what the judgement reads is as it
was. -/
structure Part.ToJudge (p m : Part) (i : RecordIx) : Prop where
  filter     : (m.record i).filter.isSome = true
  link       : (m.record i).linkTerm = (p.record i).linkTerm
  budget     : (m.record i).budget = (p.record i).budget
  prevLink   : (m.record i).prevLink = (p.record i).prevLink
  teState    : (m.record i).teState = (p.record i).teState
  generation : (m.record i).generation = (p.record i).generation
  hub        : m.hub = p.hub
  settings   : m.alarm.settings = p.alarm.settings
  standing   : ∀ v c, teCondition v = some c →
    hasCondition (m.alarm.standingOf (.record i)) c = hasCondition (p.alarm.standingOf (.record i)) c

/-- What the rest of a command leaves of a judgement: its record fields, its standing conditions and its notices. -/
structure Part.Outlasts (y u : Part) (q : PortIx) (i : RecordIx) (te : Int) (cause : Nat) (alone : Bool) : Prop where
  value    : (u.record i).te = (y.record i).te
  verdict  : (u.record i).teState = (y.record i).teState
  link     : (u.record i).prevLink = (y.record i).prevLink
  standing : ∀ v c, teCondition v = some c →
    hasCondition (u.alarm.standingOf (.record i)) c = hasCondition (y.alarm.standingOf (.record i)) c
  news     : ∀ shows : Entry → Prop,
    (∀ r : Report, r.OfSlot q te → r.isRaise = false → r.cause = cause → ∀ e, shows e → shows (e.merge r)) →
      y.alarm.Lists (.record i) shows → u.Carries (.record i) shows
  hub      : y.alarm.Lists .hub (fun e => (e.affected.getD 0).getLsbD i.val = true) →
    u.Carries .hub (fun e => (e.affected.getD 0).getLsbD i.val = true)
  alone    : alone = true → (∀ e ∈ y.alarm.list, e.owner ≠ .record i) → ∀ e ∈ u.alarm.list, e.owner ≠ .record i

/-- A verdict is one of the three measured states. -/
theorem verdictOf_measured (te budget : Int) : verdictOf te budget ≠ .unmeasured := by
  unfold verdictOf
  split
  · simp
  · split <;> simp

section Judgement

variable {p m u : Part} {q : PortIx} {i : RecordIx} {first alone : Bool} {l te : Int} {verdict : TeState} {ancillary : Bool}

/-- The reports of a judgement are those of the verdict. -/
theorem judgeTe_alarm (h : p.ToJudge m i) (hl : l = (p.record i).linkTerm) (hte : te = p.hub.bound + l)
    (hverdict : verdict = verdictOf te (p.record i).budget)
    (hancillary : ancillary = ancillaryRaise (p.record i).prevLink l p.hub.causeNumber) :
    (judgeTe q i m).alarm =
      (reportVerdict (p.record i).teState verdict te ancillary q i (withRecord i (judged m.hub.bound) m)).alarm := by
  rw [judgeTe_of_filter h.filter, h.link, h.budget, h.prevLink, h.teState, hancillary, hverdict, hte, hl, h.hub]

/-- What a judgement leaves, when the command ends (R151, R152). -/
theorem teJudged_of (h : p.ToJudge m i) (hu : (judgeTe q i m).Outlasts u q i te p.hub.causeNumber alone)
    (hl : l = (p.record i).linkTerm) (hte : te = p.hub.bound + l) (hverdict : verdict = verdictOf te (p.record i).budget)
    (hancillary : ancillary = ancillaryRaise (p.record i).prevLink l p.hub.causeNumber) :
    TeJudged i (p.record i).teState l te verdict p u := by
  have hrecord : (judgeTe q i m).record i =
      { m.record i with te := some te, teState := verdict, prevLink := some l } := by
    have hlM : l = (m.record i).linkTerm := hl.trans h.link.symm
    have hteM : te = m.hub.bound + l := by rw [h.hub]; exact hte
    have hverdictM : verdict = verdictOf te (m.record i).budget := by rw [h.budget]; exact hverdict
    rw [judgeTe_record, judged, if_pos h.filter, ← hlM, ← hteM, ← hverdictM]
  have hmeasured : verdict ≠ .unmeasured := hverdict ▸ verdictOf_measured _ _
  have hstanding {v : TeState} {c : Condition} (hc : teCondition v = some c) :
      hasCondition (u.alarm.standingOf (.record i)) c =
        if verdict = (p.record i).teState then hasCondition (p.alarm.standingOf (.record i)) c
        else if verdict = v then true
        else if (p.record i).teState = v then false
        else hasCondition (p.alarm.standingOf (.record i)) c := by
    rw [hu.standing v c hc, judgeTe_alarm h hl hte hverdict hancillary,
      reportVerdict_standing q i (withRecord i (judged m.hub.bound) m) te ancillary hc hmeasured, ← h.standing v c hc]
    rfl
  refine ⟨?_, ?_, ?_, hstanding (v := .marginal) rfl, hstanding (v := .exceeded) rfl⟩
  · rw [hu.value, hrecord]
  · rw [hu.verdict, hrecord]
  · rw [hu.link, hrecord]

/-- How the reports of a judgement stand when the command ends (R152, R153, R175, R176). -/
theorem teReported_of (h : p.ToJudge m i) (hu : (judgeTe q i m).Outlasts u q i te p.hub.causeNumber alone)
    (hl : l = (p.record i).linkTerm) (hte : te = p.hub.bound + l) (hverdict : verdict = verdictOf te (p.record i).budget)
    (hancillary : ancillary = ancillaryRaise (p.record i).prevLink l p.hub.causeNumber)
    (hawaits : p.alarm.settings.recordThreshold = some .note → (∀ e ∈ p.alarm.list, e.owner ≠ .record i) →
      m.alarm.Awaits i (some (p.record i).generation) first) :
    TeReported q i (p.record i) te verdict ancillary first alone p u := by
  intro hthreshold hnone
  have hawaiting := hawaits hthreshold hnone
  have hm : (withRecord i (judged m.hub.bound) m).alarm = m.alarm := rfl
  have hthresholdM : m.alarm.settings.recordThreshold = some .note := by rw [h.settings]; exact hthreshold
  have hmeasured : verdict ≠ .unmeasured := hverdict ▸ verdictOf_measured _ _
  have hgeneration : ((withRecord i (judged m.hub.bound) m).record i).generation = (p.record i).generation := by
    obtain ⟨te', v, l', hj⟩ := judged_leaves m.hub.bound (m.record i)
    rw [record_withRecord, if_pos rfl, hj]
    exact h.generation
  have hcause : (withRecord i (judged m.hub.bound) m).hub.causeNumber = p.hub.causeNumber := by
    rw [← h.hub]
    rfl
  have halarm := judgeTe_alarm (q := q) h hl hte hverdict hancillary
  refine ⟨fun hun => ?_, fun hcoalescing hanc hfirst hne hwithin => ?_⟩
  · have hunM : m.alarm.settings.coalescing = false ∨ ancillary = false ∨ first = false := by rwa [h.settings]
    have raised {c : Condition} (hc : teCondition verdict = some c) (hne : verdict ≠ (p.record i).teState) :
        u.Carries (.record i) (Entry.Raises q c te p.hub.causeNumber (some (p.record i).generation)
          (ancillary && first && !((p.record i).teState == .exceeded &&
            hasCondition (p.alarm.standingOf (.record i)) .teExceeded))) := by
      refine hu.news _ (fun r hr hclear hrcause e he => he.merge hr hclear hrcause) ?_
      have hlists := reportVerdict_raises (q := q) (p := withRecord i (judged m.hub.bound) m) (te := te)
        (ancillary := ancillary) (first := first) (by rw [hgeneration]; exact hawaiting) hthresholdM hunM hc hne.symm
      rwa [hgeneration, hcause, hm, h.standing .exceeded .teExceeded rfl, ← halarm] at hlists
    have cleared {b : Condition} (hb : teCondition (p.record i).teState = some b) (hne : verdict ≠ (p.record i).teState)
        (hstands : hasCondition (p.alarm.standingOf (.record i)) b = true) :
        u.Carries (.record i) (Entry.Clears q b te) := by
      refine hu.news _ (fun r hr _ _ e he => he.merge hr) ?_
      have hlists := reportVerdict_clears (q := q) (p := withRecord i (judged m.hub.bound) m) (te := te)
        (ancillary := ancillary) (first := first) (by rw [hgeneration]; exact hawaiting) hthresholdM hunM hb hmeasured
        hne.symm (by rw [hm, h.standing _ b hb]; exact hstands)
      rwa [← halarm] at hlists
    refine ⟨fun hne hv => ?_, fun hne hv => ?_, fun hb hv hstands => ?_, fun hb hv hstands => ?_⟩
    · exact raised (c := .teMarginal) (by rw [hv]; rfl) hne
    · have hbefore : ((p.record i).teState == TeState.exceeded) = false := beq_eq_false_iff_ne.2 fun hb => hne (hv.trans hb.symm)
      have hraised := raised (c := .teExceeded) (by rw [hv]; rfl) hne
      rwa [hbefore, Bool.false_and, Bool.not_false, Bool.and_true] at hraised
    · exact cleared (b := .teMarginal) (by rw [hb]; rfl) (by rw [hb]; exact hv) hstands
    · exact cleared (b := .teExceeded) (by rw [hb]; rfl) (by rw [hb]; exact hv) hstands
  · subst hfirst
    obtain ⟨c, hc⟩ : ∃ c, teCondition verdict = some c := by
      generalize verdict = v at hmeasured hwithin
      cases v <;> simp [teCondition] at hmeasured hwithin ⊢
    have hlists := reportVerdict_coalesced (q := q) (p := withRecord i (judged m.hub.bound) m) (te := te) hawaiting
      hthresholdM (by rw [hm, h.settings]; exact hcoalescing) hc hne.symm
    rw [hanc] at halarm
    rw [← halarm] at hlists
    exact ⟨hu.hub hlists.1, fun halone => hu.alone halone hlists.2⟩

end Judgement

/-! ## Records that come to a judgement -/

/-- The slot of a record that closes no window changes its window alone. -/
theorem countSlot_stays {r : ServiceRecord} {c : SlotCount} (h : r.statistics = false ∨ r.window.count + 1 < 64) :
    ∃ w, countSlot c r = { r with window := w } := by
  by_cases hon : r.statistics = true
  · obtain h | h := h
    · simp [hon] at h
    · exact ⟨_, countSlot_open hon h⟩
  · exact ⟨r.window, countSlot_off (by simpa using hon)⟩

/-- What a round trip that closes no window leaves for the judgement. -/
theorem timed_stays (rtd : Option Int) {r : ServiceRecord} (h : r.statistics = false ∨ r.window.count + 1 < 64) :
    ∃ w st on f n c, timed rtd r =
      { r with window := w, stale := st, statistics := on, filter := f, outlierRun := n, compensation := c } := by
  unfold timed
  split
  · obtain ⟨w, hcount⟩ := countSlot_stays (c := .unmeasured) h
    exact ⟨w, _, _, _, _, _, hcount⟩
  · next v =>
    split
    · exact ⟨_, _, _, _, _, _, rfl⟩
    · obtain ⟨f, n, hfilter⟩ := filterDelay_leaves (oneWayDelay v r.share) r
      obtain ⟨w, hcount⟩ := countSlot_stays (c := .measured v)
        (r := (filterDelay (oneWayDelay v r.share) r).formCompensation) (by rw [hfilter]; exact h)
      refine ⟨w, r.stale, r.statistics, f, n, (filterDelay (oneWayDelay v r.share) r).formCompensation.compensation, ?_⟩
      rw [hcount, hfilter]
      rfl

/-- The record of the slot holds a filter at the judgement. -/
theorem timed_filter_isSome {rtd : Option Int} {r : ServiceRecord}
    (h : r.filter ≠ none ∨ ∃ v, rtd = some v ∧ rtdWrong v = false) : (timed rtd r).filter.isSome = true := by
  cases rtd with
  | none =>
    obtain h | ⟨v, hv, _⟩ := h
    · rw [timed_unmeasured, (countSlot_state _ _).2.1]
      exact Option.isSome_iff_ne_none.2 h
    · simp at hv
  | some v =>
    cases hwrong : rtdWrong v with
    | true =>
      obtain h | ⟨w, hw, hright⟩ := h
      · rw [timed_wrong hwrong]
        exact Option.isSome_iff_ne_none.2 h
      · rw [← Option.some.inj hw, hwrong] at hright
        simp at hright
    | false =>
      rw [(timed_right_fields hwrong rfl).1]
      rfl

end Sys2Proof.Machine

/-! SUPPORT. The obligation on the time error judgement of a DELAY slot (R139, R151 to R153, R175, R176). -/

namespace Sys2Proof.Machine

/-! ## The rest of a missing slot and of an ECHO -/

theorem teCondition_bit_lt {v : TeState} {c : Condition} (h : teCondition v = some c) : c.bit < 2 := by
  cases v <;> simp only [teCondition, reduceCtorEq, Option.some.injEq] at h <;> subst h <;> decide

/-- The list of a loading holds no entry that was not there. -/
theorem mem_settle_list {w : List Instr} {p : Part} {e : Entry} (h : e ∈ (settle w p).alarm.list) : e ∈ p.alarm.list := by
  unfold settle at h
  split at h
  · exact h
  · unfold loadIfDue at h
    split at h
    · exact h
    · obtain ⟨_, first, rest, hlist, hload⟩ | ⟨_, hload⟩ := load_cases p.alarm
      · rw [hlist]
        rw [congrArg AlarmUnit.list hload] at h
        exact List.mem_cons_of_mem _ h
      · rwa [hload] at h

/-- A missing outcome that raises no SILENT writes the silent count at most. -/
theorem countMissing_quiet {q : PortIx} {i : RecordIx} {y : Part}
    (h : (y.record i).state = .silent ∨ (y.record i).silentCount + 1 < (y.record i).silentLimit) :
    ∃ n, countMissing q i y = withRecord i (fun r => { r with silentCount := n }) y := by
  have same : y = withRecord i (fun r => { r with silentCount := (y.record i).silentCount }) y := by
    change y = { y with records := y.records.set i.val (y.records[i.val]) }
    rw [Vector.set_getElem_self]
  by_cases hlive : (y.record i).state = .pending ∨ (y.record i).state = .active
  · have hbelow : ¬ (y.record i).silentLimit ≤ (y.record i).silentCount + 1 := by
      obtain h | h := h
      · obtain hl | hl := hlive <;> simp [hl] at h
      · omega
    exact ⟨_, by rw [countMissing_of_live hlive, if_neg hbelow]; rfl⟩
  · exact ⟨_, by rw [countMissing, if_neg hlive]; exact same⟩

theorem missing_outlasts {q : PortIx} {i : RecordIx} {y : Part} (tidy : Engine → Engine) (w : List Instr) (te : Int)
    (cause : Nat) (h : (y.record i).state = .silent ∨ (y.record i).silentCount + 1 < (y.record i).silentLimit) :
    y.Outlasts (settle w (withEngine q tidy (countMissing q i y))) q i te cause true := by
  obtain ⟨n, hcount⟩ := countMissing_quiet (q := q) h
  rw [hcount]
  have hrecord : (settle w (withEngine q tidy (withRecord i (fun r => { r with silentCount := n }) y))).record i =
      { y.record i with silentCount := n } := by
    rw [settle_record]
    exact record_setRecord_self _ i _
  have hz : (withEngine q tidy (withRecord i (fun r => { r with silentCount := n }) y)).alarm = y.alarm := rfl
  generalize withEngine q tidy (withRecord i (fun r => { r with silentCount := n }) y) = z at hrecord hz
  constructor
  · rw [hrecord]
  · rw [hrecord]
  · rw [hrecord]
  · intro v c _
    rw [settle_standingOf, hz]
  · exact fun shows _ hlists => Part.Carries.settle (AlarmUnit.Lists.carries (by rw [hz]; exact hlists)) w
  · exact fun hlists => Part.Carries.settle (AlarmUnit.Lists.carries (by rw [hz]; exact hlists)) w
  · exact fun _ hnone e he => hnone e (by rw [← hz]; exact mem_settle_list he)

theorem echo_outlasts {q : PortIx} {i : RecordIx} {y : Part} (g : Generation) (fields : EchoFields) (held : Bool)
    (w : List Instr) (te : Int) :
    y.Outlasts (settle w (offerEcho 5 i g fields held (offerEcho 4 i g fields held (recordEcho q i y)))) q i te
      y.hub.causeNumber ((y.record i).state != .silent) := by
  have hoffers := offers_within i g fields held (recordEcho q i y)
  have hreaches : (recordEcho q i y).Reaches (fun _ => True)
      (offerEcho 5 i g fields held (offerEcho 4 i g fields held (recordEcho q i y))) := by
    have all : TakesIn (fun _ => True) := ⟨fun _ _ _ => trivial, fun _ _ _ _ => trivial, fun _ _ _ => trivial⟩
    exact ((Part.Reaches.refl _).offerEcho all 4 i g fields held).offerEcho all 5 i g fields held
  have halarm : (recordEcho q i y).alarm = y.alarm ∨ ∃ r : Report, r.OfSlot q te ∧ r.isRaise = false ∧
      r.cause = y.hub.causeNumber ∧ r.condition = .silent ∧ r.owner = .record i ∧ r.ancillary = false ∧
      (recordEcho q i y).alarm = y.alarm.take r := by
    unfold recordEcho
    dsimp only
    split
    · refine .inr ⟨recordPortReport .silent false q i (withRecord i (fun r =>
        { r with lastPort := some q, silentCount := 0, silentSeconds := 0,
                 state := stateAfterEcho r.state r.filter.isSome }) y), ⟨rfl, .inl rfl⟩, rfl, rfl, rfl, rfl, rfl, rfl⟩
    · exact .inl rfl
  have hquiet : ((y.record i).state != .silent) = true → (recordEcho q i y).alarm = y.alarm := by
    intro hlive
    have hnot : ¬ ((y.record i).state == .silent) = true := by simpa [bne] using hlive
    simp only [recordEcho, if_neg hnot]
    rfl
  have hrecord : (settle w (offerEcho 5 i g fields held (offerEcho 4 i g fields held (recordEcho q i y)))).record i =
      answeredBy q (y.record i) := by
    rw [settle_record, hoffers.records _ nofun, recordEcho_record]
  constructor
  · rw [hrecord]
    rfl
  · rw [hrecord]
    rfl
  · rw [hrecord]
    rfl
  · intro v c hc
    rw [settle_standingOf, hasCondition, hoffers.alarm.marks (.record i) _ nofun]
    obtain hsame | ⟨r, _, _, _, hsilent, _, _, htake⟩ := halarm
    · rw [hsame]
      rfl
    · rw [htake]
      refine take_other (c := c) fun _ hbit => ?_
      have hlt := teCondition_bit_lt hc
      rw [← hbit.2, hsilent] at hlt
      exact absurd hlt (by decide)
  · intro shows hmerge hlists
    refine Part.Carries.settle (Part.Carries.within (o := .record i) ?_ hoffers nofun) w
    obtain hsame | ⟨r, hr, hclear, hcause, _, _, hown, htake⟩ := halarm
    · exact AlarmUnit.Lists.carries (by rw [hsame]; exact hlists)
    · exact AlarmUnit.Lists.carries (by rw [htake]; exact hlists.take (fun _ => hmerge r hr hclear hcause) nofun)
  · intro hlists
    refine Part.Carries.settle (AlarmUnit.Lists.carries (AlarmUnit.Lists.reaches ?_ hreaches ?_ ?_)) w
    · obtain hsame | ⟨r, _, _, _, _, _, hown, htake⟩ := halarm
      · rw [hsame]
        exact hlists
      · rw [htake]
        exact hlists.take (fun _ _ h => h) (fun h => by rw [hown] at h; simp at h)
    · exact fun r _ _ e he => he
    · intro r _ _ _ j e he
      change ((e.affected.getD 0) ||| recordMask j).getLsbD i.val = true
      rw [BitVec.getLsbD_or, he, Bool.true_or]
  · intro hlive hnone e he howner
    have hmem := mem_settle_list he
    have hown : e ∈ (offerEcho 5 i g fields held (offerEcho 4 i g fields held (recordEcho q i y))).alarm.entriesOf
        (.record i) := List.mem_filter.2 ⟨hmem, by simp [howner]⟩
    rw [hoffers.alarm.entries (.record i) nofun, AlarmUnit.entriesOf, hquiet hlive] at hown
    exact hnone e (List.mem_filter.1 hown).1 howner

/-! ## A missing slot -/

theorem ancillaryRaise_eq (prevLink : Option Int) (l : Int) (cause : Nat) :
    ancillaryRaise prevLink l cause =
      (match prevLink with
        | none => false
        | some before => decide (l ≤ before) && decide (cause ≠ 0)) := by
  have hcause : (cause != 0) = decide (cause ≠ 0) := by
    by_cases h : cause = 0 <;> simp [h]
  unfold ancillaryRaise
  rw [hcause] <;> cases prevLink <;> rfl

/-- A part whose slot is decided, with a record that comes to its judgement. -/
theorem toJudge_of_decided {p x : Part} {q : PortIx} {error : SlotError} {i : RecordIx} (hx : p.Decided q error x)
    (hroom : (p.record i).statistics = false ∨ (p.record i).window.count + 1 < 64)
    (hfilter : (p.record i).filter ≠ none) : p.ToJudge (withRecord i (countSlot .missed) x) i := by
  obtain ⟨w, hcount⟩ := countSlot_stays (c := .missed) hroom
  have hrecord : (withRecord i (countSlot .missed) x).record i = { p.record i with window := w } := by
    rw [record_withRecord, if_pos rfl, hx.record, hcount]
  constructor
  · rw [hrecord]
    exact Option.isSome_iff_ne_none.2 hfilter
  · rw [hrecord]
    rfl
  · rw [hrecord]
  · rw [hrecord]
  · rw [hrecord]
  · rw [hrecord]
  · exact hx.hub
  · exact congrArg AlarmUnit.settings hx.alarm
  · intro v c _
    exact congrArg (fun a => hasCondition (AlarmUnit.standingOf a (.record i)) c) hx.alarm

/-! ## An ECHO -/

/-- The round trip of an ECHO raises MEAS_CHECK or DELAY_STEP before the judgement (R141, R145). -/
def TripReports (rtd : Option Int) (r : ServiceRecord) : Prop :=
  ∃ v, rtd = some v ∧ (rtdWrong v = true ∨ filterAction r (oneWayDelay v r.share) = .reinitialised)

theorem echoTimed_quiet {rtd : Option Int} {q : PortIx} {i : RecordIx} {p : Part} (h : ¬ TripReports rtd (p.record i)) :
    (echoTimed rtd q i p).alarm = p.alarm := by
  cases rtd with
  | none => rfl
  | some v =>
    have hright : ¬ rtdWrong v = true := fun hwrong => h ⟨v, rfl, .inl hwrong⟩
    have hplain : filterAction (p.record i) (oneWayDelay v (p.record i).share) ≠ .reinitialised :=
      fun hstep => h ⟨v, rfl, .inr hstep⟩
    simp only [echoTimed, if_neg hright, takeDelay]
    split
    · exact absurd ‹_› hplain
    all_goals rfl

theorem echoTimed_reports {rtd : Option Int} {q : PortIx} {i : RecordIx} {p : Part} (h : TripReports rtd (p.record i)) :
    ∃ r : Report, (echoTimed rtd q i p).alarm = p.alarm.take r ∧ r.owner = .record i ∧ r.isRaise = true ∧
      r.ancillary = false ∧ r.generation = some (p.record i).generation ∧ r.condition.standing = false ∧
      Severity.note.code ≤ r.condition.severity.code := by
  obtain ⟨v, rfl, hreason⟩ := h
  by_cases hwrong : rtdWrong v = true
  · refine ⟨recordPortReport .measCheck true q i p, ?_, rfl, rfl, rfl, rfl, rfl, Nat.le_add_left 1 1⟩
    simp only [echoTimed, if_pos hwrong, measurementCheck]
    rfl
  · have hstep : filterAction (p.record i) (oneWayDelay v (p.record i).share) = .reinitialised :=
      hreason.resolve_left hwrong
    have hgeneration : ((withRecord i (fun r => (filterDelay (oneWayDelay v (p.record i).share) r).formCompensation)
        p).record i).generation = (p.record i).generation := by
      obtain ⟨f, n, hfilter⟩ := filterDelay_leaves (oneWayDelay v (p.record i).share) (p.record i)
      rw [record_withRecord, if_pos rfl, hfilter]
      rfl
    refine ⟨recordPortReport .delayStep true q i
      (withRecord i (fun r => (filterDelay (oneWayDelay v (p.record i).share) r).formCompensation) p), ?_, rfl, rfl, rfl,
      congrArg some hgeneration, rfl, Nat.le_refl _⟩
    simp only [echoTimed, if_neg hwrong, takeDelay, hstep]
    rfl

/-- What the list holds of the record when an ECHO is judged. -/
theorem echoTimed_awaits {rtd : Option Int} {q : PortIx} {i : RecordIx} {p : Part}
    (hthreshold : p.alarm.settings.recordThreshold = some .note) (hnone : ∀ e ∈ p.alarm.list, e.owner ≠ .record i) :
    (¬ TripReports rtd (p.record i) →
        (echoTimed rtd q i p).alarm.Awaits i (some (p.record i).generation) true) ∧
      (TripReports rtd (p.record i) →
        (echoTimed rtd q i p).alarm.Awaits i (some (p.record i).generation) false) := by
  refine ⟨fun h => ?_, fun h => ?_⟩
  · rw [echoTimed_quiet h]
    exact hnone
  · obtain ⟨r, halarm, howner, hraise, hown, hgeneration, _, hseverity⟩ := echoTimed_reports (q := q) h
    have hat : p.alarm.atThreshold r = true := by
      unfold AlarmUnit.atThreshold
      rw [howner]
      simpa [AlarmUnit.threshold, hthreshold] using hseverity
    have hawaits : p.alarm.Awaits i r.generation true := hnone
    rw [halarm, ← hgeneration]
    exact awaits_after hawaits howner hown (by simp [AlarmUnit.passesOn, hraise]) hat

theorem toJudge_of_echo {p x : Part} {q : PortIx} {i : RecordIx} (rtd : Option Int) (hrecords : x.records = p.records)
    (hhub : x.hub = p.hub) (halarm : x.alarm = p.alarm)
    (hroom : (p.record i).statistics = false ∨ (p.record i).window.count + 1 < 64)
    (hfilter : (p.record i).filter ≠ none ∨ ∃ v, rtd = some v ∧ rtdWrong v = false) :
    p.ToJudge (echoTimed rtd q i x) i := by
  have hx : x.record i = p.record i := by rw [Part.record, hrecords, Part.record]
  have hsome := timed_filter_isSome hfilter
  obtain ⟨w, st, on, f, n, c, htimed⟩ := timed_stays rtd hroom
  have hrecord := echoTimed_record rtd q i x
  rw [hx] at hrecord
  constructor
  · rw [hrecord]
    exact hsome
  · rw [hrecord, htimed]
    rfl
  · rw [hrecord, htimed]
  · rw [hrecord, htimed]
  · rw [hrecord, htimed]
  · rw [hrecord, htimed]
  · exact ((echoTimed_within rtd q i x).hub nofun).trans hhub
  · rw [(echoTimed_within rtd q i x).alarm.settings, halarm]
  · intro v d _
    by_cases h : TripReports rtd (x.record i)
    · obtain ⟨r, htake, _, _, _, _, hmomentary, _⟩ := echoTimed_reports (q := q) h
      rw [htake, halarm]
      exact take_other fun hstanding => by rw [hmomentary] at hstanding; simp at hstanding
    · rw [echoTimed_quiet h, halarm]

/-- The clause of O13 for a missing slot. -/
theorem missingSlotIsJudged (s : State) (q : PortIx) (t : SlotTarget) (r : ServiceRecord) (l te : Int) (verdict : TeState)
    (ancillary : Bool) (hlive : s.part.LiveSlot q t) (hr : r = s.part.record t.record)
    (hroom : r.statistics = false ∨ r.window.count + 1 < 64) (hl : l = r.linkTerm) (hte : te = s.part.hub.bound + l)
    (hverdict : verdict = verdictOf te r.budget)
    (hancillary : ancillary = ancillaryRaise r.prevLink l s.part.hub.causeNumber) (c : Instr) (cause : LineEvent)
    (error : SlotError) (hmiss : s.part.MissesSlot q c cause error) (hfilter : r.filter ≠ none)
    (hquiet : r.state = .silent ∨ r.silentCount + 1 < r.silentLimit) :
    ∃ u : State, exec c s = .next u ∧ u.pending = s.pending ∧
      TeJudged t.record r.teState l te verdict s.part u.part ∧
      TeReported q t.record r te verdict ancillary true true s.part u.part ∧
      (verdict = r.teState →
        u.part.alarm.standingOf (.record t.record) = s.part.alarm.standingOf (.record t.record)) ∧
      KeepsOtherRecords t.record s.part u.part ∧ KeepsOtherPorts q s.part u.part ∧ u.part.hub = s.part.hub := by
  subst hr
  obtain ⟨hheld, hslot, htarget, hgeneration, hstate⟩ := hlive
  obtain ⟨x, t1, t4, tidy, hx, hrest, _, hwork⟩ := missesSlot_work hheld hslot htarget hmiss
  have hrecord := hx.record t.record
  rw [recordOutcome_live _ _ _ (by rw [hrecord]; exact hgeneration) (by rw [hrecord]; exact hstate)] at hwork
  change commandWork c s.part =
    withEngine q tidy (countMissing q t.record (judgeTe q t.record (withRecord t.record (countSlot .missed) x))) at hwork
  have hjudge := toJudge_of_decided hx hroom hfilter
  obtain ⟨w, h, st, te', v, l', hmeasured⟩ := measureMissing_leaves q t.record x
  have hyRecord : ((judgeTe q t.record (withRecord t.record (countSlot .missed) x)).record t.record).state = .silent ∨
      ((judgeTe q t.record (withRecord t.record (countSlot .missed) x)).record t.record).silentCount + 1 <
        ((judgeTe q t.record (withRecord t.record (countSlot .missed) x)).record t.record).silentLimit := by
    change ((measureMissing q t.record x).record t.record).state = .silent ∨
      ((measureMissing q t.record x).record t.record).silentCount + 1 <
        ((measureMissing q t.record x).record t.record).silentLimit
    rw [hmeasured, hrecord]
    exact hquiet
  have hlasts := missing_outlasts (q := q) tidy s.pending te s.part.hub.causeNumber hyRecord
  have hwithin := missing_within q t.record x
  have hsame (hv : verdict = (s.part.record t.record).teState) :
      (countMissing q t.record (judgeTe q t.record (withRecord t.record (countSlot .missed) x))).alarm = s.part.alarm := by
    obtain ⟨n, hcount⟩ := countMissing_quiet (q := q) hyRecord
    rw [hcount]
    change (judgeTe q t.record (withRecord t.record (countSlot .missed) x)).alarm = s.part.alarm
    rw [judgeTe_alarm hjudge hl hte hverdict hancillary, hv, reportVerdict_same]
    exact hx.alarm
  have hteJudged := teJudged_of hjudge hlasts hl hte hverdict hancillary
  have hteReported := teReported_of (first := true) hjudge hlasts hl hte hverdict hancillary fun _ hnone e he =>
    hnone e (by rw [← hx.alarm]; exact he)
  change Within _ x (countMissing q t.record (judgeTe q t.record (withRecord t.record (countSlot .missed) x))) at hwithin
  generalize countMissing q t.record (judgeTe q t.record (withRecord t.record (countSlot .missed) x)) = y at hwork hwithin hsame hteJudged hteReported
  refine ⟨_, completes_of_work hwork, rfl, hteJudged, hteReported, fun hv => ?_, ?_, ?_, ?_⟩
  · rw [settle_standingOf]
    exact congrArg (fun a => AlarmUnit.standingOf a (.record t.record)) (hsame hv)
  · intro j hj
    rw [settle_record]
    exact hx.keepsOtherRecords (i := t.record) hwithin (fun _ h => h) j hj
  · intro j hj
    obtain ⟨hport, hother⟩ := hx.keepsOtherPorts hwithin nofun nofun j hj
    rw [settle_port, settle_engine]
    exact ⟨hport, ((withEngine_keepsOtherPorts q tidy y) j hj).2.trans hother⟩
  · rw [settle_hub]
    exact (hwithin.hub nofun).trans hx.hub

/-- The round trip of an ECHO, by the marks and the limits that the obligation names. -/
theorem roundTrip_of {t1 t4 : Stamp} {n : Nat} {rtd : Int} {measured within : Bool}
    (hrtd : rtd = t4.time.toQ - t1.time.toQ - n * 65536) (hmeasured : measured = (!t1.inHold && !t4.inHold))
    (hwithin : within = (decide (0 < rtd) && decide (rtd ≤ 65536000000))) :
    roundTrip (some t1) (some t4) n = (if measured then some rtd else none) ∧ rtdWrong rtd = !within := by
  refine ⟨?_, ?_⟩
  · cases hm : measured with
    | true =>
      obtain ⟨h1, h4⟩ : t1.inHold = false ∧ t4.inHold = false := by
        rw [hm] at hmeasured
        simpa using hmeasured.symm
      rw [roundTrip_measured h1 h4, ← hrtd, if_pos rfl]
    | false =>
      refine roundTrip_held ?_
      rw [hm] at hmeasured
      cases h1 : t1.inHold
      · simpa [h1] using hmeasured.symm
      · exact .inl rfl
  · rw [hwithin, rtdWrong, ← Bool.decide_and, ← decide_not]
    exact decide_eq_decide.2 (by omega)

/-- Settles O13: the record comes to its judgement, and the rest of the command leaves what the judgement says. -/
theorem timeErrorsAreJudgedAndReported : Obligations.TimeErrorsAreJudgedAndReported := by
  intro s q t r l te verdict ancillary hlive hr hroom hl hte hverdict hancillary
  replace hancillary : ancillary = ancillaryRaise r.prevLink l s.part.hub.causeNumber :=
    hancillary.trans (ancillaryRaise_eq _ _ _).symm
  refine ⟨missingSlotIsJudged s q t r l te verdict ancillary hlive hr hroom hl hte hverdict hancillary, ?_⟩
  intro characters fields t1 t4 rtd d measured within hactivity hecho h1 h4 hrtd hd hmeasured hwithinLimits hfilter
  subst hr
  have hwork : commandWork (.echo q characters) s.part = _ := echoReceived_live hlive hactivity hecho
  obtain ⟨hheld, hslot, htarget, hgeneration, hstate⟩ := hlive
  rw [h1, h4] at hwork
  obtain ⟨htrip, hwrong⟩ := roundTrip_of hrtd hmeasured hwithinLimits
  have hjudge : s.part.ToJudge (echoTimed (roundTrip (some t1) (some t4) fields.turnaround.toNat) q t.record
      (slotDecided q .none s.part)) t.record := by
    refine toJudge_of_echo _ rfl rfl rfl hroom (hfilter.imp_right fun ⟨hm, hin⟩ => ⟨rtd, ?_, ?_⟩)
    · rw [htrip, if_pos hm]
    · rw [hwrong, hin]
      rfl
  have hlasts := echo_outlasts (q := q) (i := t.record)
    (y := judgeTe q t.record (echoTimed (roundTrip (some t1) (some t4) fields.turnaround.toNat) q t.record
      (slotDecided q .none s.part))) t.generation fields t.filterHeld s.pending te
  have hafter : ((judgeTe q t.record (echoTimed (roundTrip (some t1) (some t4) fields.turnaround.toNat) q t.record
        (slotDecided q .none s.part))).record t.record).state = (s.part.record t.record).state ∧
      (judgeTe q t.record (echoTimed (roundTrip (some t1) (some t4) fields.turnaround.toNat) q t.record
        (slotDecided q .none s.part))).hub = s.part.hub := by
    rw [judgeTe_record, echoTimed_record, ← measureEcho_eq]
    refine ⟨?_, ((Within.refl _ _).measureEcho (Access.outcome_record t.record) (.inl rfl) _ q).hub nofun⟩
    obtain ⟨te', v, l', hjudged⟩ := judged_leaves (echoTimed (roundTrip (some t1) (some t4) fields.turnaround.toNat) q
      t.record (slotDecided q .none s.part)).hub.bound (timed (roundTrip (some t1) (some t4) fields.turnaround.toNat)
      ((slotDecided q .none s.part).record t.record))
    rw [hjudged]
    exact (timed_state _ _).1
  rw [hafter.1, hafter.2] at hlasts
  have hawaits := echoTimed_awaits (rtd := roundTrip (some t1) (some t4) fields.turnaround.toNat) (q := q)
    (i := t.record) (p := slotDecided q .none s.part)
  have hreported (first : Bool) (hfirst : if first then
      ¬ TripReports (roundTrip (some t1) (some t4) fields.turnaround.toNat) (s.part.record t.record)
      else TripReports (roundTrip (some t1) (some t4) fields.turnaround.toNat) (s.part.record t.record)) :=
    teReported_of (first := first) hjudge hlasts hl hte hverdict hancillary fun hthreshold hnone => by
      cases first with
      | true => exact (hawaits hthreshold hnone).1 hfirst
      | false => exact (hawaits hthreshold hnone).2 hfirst
  have hteJudged := teJudged_of hjudge hlasts hl hte hverdict hancillary
  have hwithin := takeEcho_within q t (some t1) (some t4) fields (slotDecided q .none s.part)
  refine ⟨_, completes_of_work hwork, rfl, hteJudged, fun hplain => hreported true ?_, fun hm htold => ?_, ?_, ?_⟩
  · rintro ⟨v, hv, hreason⟩
    rw [htrip] at hv
    obtain hm | ⟨hin, hgate⟩ := hplain
    · rw [hm] at hv
      simp at hv
    · split at hv
      · obtain rfl := Option.some.inj hv
        rw [hwrong, hin] at hreason
        refine filterAction_plain d _ hgate ?_
        rw [hd]
        exact hreason.resolve_left (by simp)
      · simp at hv
  · have htells : TripReports (roundTrip (some t1) (some t4) fields.turnaround.toNat) (s.part.record t.record) := by
      refine ⟨rtd, by rw [htrip, if_pos hm], ?_⟩
      obtain hout | ⟨f, hf, hgate, hfifth⟩ := htold
      · exact .inl (by rw [hwrong, hout]; rfl)
      · refine .inr ?_
        have hstep := filterAction_fifth d _ hf hgate hfifth
        rw [hd] at hstep
        exact hstep
    intro hthreshold hnone
    obtain ⟨hraised, _⟩ := hreported false htells hthreshold hnone
    exact ⟨hraised, fun _ _ hfirst => by simp at hfirst⟩
  · intro j hj
    rw [settle_record]
    exact hwithin.records j hj
  · intro j hj
    rw [settle_port, settle_engine, hwithin.ports j nofun, hwithin.engines j nofun]
    exact slotDecided_keepsOtherPorts q .none s.part j hj

end Sys2Proof.Machine

/-! SUPPORT. What the work of the blocks at a boundary keeps: the steps of the pairs and of the ports, one after another, and
the place of each block's work (R8, R109, R122, R131, R136, R157 to R167; log entry 4). -/

namespace Sys2Proof.Machine

/-! ## The steps of the pairs -/

/-- The pairs whose records and returns, and the ports whose marks, a run of pair steps may touch. -/
structure PairLeave where
  pairs   : PairIx → Prop
  moves   : PairIx → Prop
  returns : PairIx → Prop
  marks   : PortIx → Prop
  clears  : PortIx → Prop

/-- Leave for everything. -/
def PairLeave.all : PairLeave :=
  { pairs := fun _ => True, moves := fun _ => True, returns := fun _ => True, marks := fun _ => True
    clears := fun _ => True }

/-- Leave for all that one pair does. -/
structure PairLeave.Pair (L : PairLeave) (k : PairIx) : Prop where
  pairs   : L.pairs k
  moves   : L.moves k
  returns : L.returns k

theorem PairLeave.all_pair (k : PairIx) : PairLeave.all.Pair k := ⟨trivial, trivial, trivial⟩

/-- A property that each step of the pairs keeps. -/
structure PairSteps (L : PairLeave) (R : Part → Prop) : Prop where
  pair    : ∀ k, L.pairs k → ∀ f q, R q → R (withPair k f q)
  move    : ∀ k, L.moves k → ∀ i q, (q.record i).candidate k = true → q.movable k i = true → R q → R (moveRecord k i q)
  block   : ∀ k, L.moves k → ∀ i q, (q.record i).candidate k = true → R q →
    R (withRecord i (fun r => { r with blocked := true }) q)
  returns : ∀ k, L.returns k → ∀ i q, (q.record i).switched k = true → R q → R (returnRecord k i q)
  unblock : ∀ k, L.moves k → ∀ i q, pairOf (q.record i).homePort = k → R q →
    R (withRecord i (fun r => { r with blocked := false }) q)
  mark    : ∀ x, L.marks x → ∀ i q, (q.record i).on x = true → R q → R (raiseRecord .lineFault x i q)
  clear   : ∀ x, L.clears x → ∀ i q, (q.record i).on x = true → R q → R (clearRecord .lineFault x i q)

namespace PairSteps

variable {L : PairLeave} {R : Part → Prop} (steps : PairSteps L R) {q : Part}
include steps

theorem considerRecord {k : PairIx} (hk : L.moves k) (i : RecordIx) (h : R q) : R (considerRecord k i q) := by
  unfold Machine.considerRecord
  split
  · split
    · exact steps.move k hk i q ‹_› ‹_› h
    · exact steps.block k hk i q ‹_› h
  · exact h

theorem switchPass {k : PairIx} (hk : L.moves k) (h : R q) : R (switchPass k q) :=
  forEach_induct (R := R) _ (fun i _ h => steps.considerRecord hk i h) _ _ h

theorem clearBlocked {k : PairIx} (hk : L.moves k) (h : R q) : R (clearBlocked k q) :=
  forEach_induct (R := R) _ (fun i r h => by
    split
    · next hhome => exact steps.unblock k hk i r hhome h
    · exact h) _ _ h

theorem clearStale {k : PairIx} (hk : L.moves k) (h : R q) : R (clearStale k q) :=
  forEach_induct (R := R) _ (fun i r h => by
    dsimp only
    split
    · next hstale =>
      simp only [Bool.and_eq_true, decide_eq_true_eq] at hstale
      exact steps.unblock k hk i r hstale.1.1.1 h
    · exact h) _ _ h

theorem returnRecords {k : PairIx} (hk : L.returns k) (h : R q) : R (forEach allRecords (returnRecord k) q) :=
  forEach_induct (R := R) _ (fun i r h => by
    by_cases hs : (r.record i).switched k = true
    · exact steps.returns k hk i r hs h
    · rw [returnRecord, if_neg hs]
      exact h) _ _ h

theorem returnPair {k : PairIx} (hk : L.Pair k) (h : R q) : R (returnPair k q) :=
  steps.clearBlocked hk.moves (steps.pair k hk.pairs _ _ (steps.returnRecords hk.returns h))

theorem enterWait {k : PairIx} (hk : L.Pair k) (h : R q) : R (enterWait k q) := by
  have waiting := steps.clearBlocked hk.moves (steps.pair k hk.pairs (fun r => { r with state := .restoreWait, waitCount := 0 }) q h)
  unfold Machine.enterWait
  dsimp only
  split
  · exact steps.returnPair hk waiting
  · exact waiting

theorem markFaulted {x : PortIx} (hx : L.marks x) (h : R q) : R (markFaulted x q) :=
  forEach_induct (R := R) _ (fun i r h => by
    split
    · next hon => exact steps.mark x hx i r (Bool.and_eq_true_iff.1 hon).1 h
    · exact h) _ _ h

theorem clearFaulted {x : PortIx} (hx : L.clears x) (h : R q) : R (clearFaulted x q) :=
  forEach_induct (R := R) _ (fun i r h => by
    split
    · next hon => exact steps.clear x hx i r hon h
    · exact h) _ _ h

theorem workingFault {k : PairIx} (hk : L.Pair k) (h : R q) : R (workingFault k q) := by
  have passed := steps.switchPass hk.moves h
  unfold Machine.workingFault
  split
  · exact steps.pair k hk.pairs _ _ passed
  · exact passed
  · exact passed
  · exact steps.pair k hk.pairs _ _ passed

theorem protectFault {k : PairIx} (hk : L.Pair k) (h : R q) : R (protectFault k q) := by
  unfold Machine.protectFault
  split
  · exact h
  all_goals
    split
    · exact h
    · exact steps.returnPair hk h

theorem workingClean {k : PairIx} (hk : L.Pair k) (h : R q) : R (workingClean k q) := by
  unfold Machine.workingClean
  split
  · split
    · exact steps.returnPair hk h
    · split
      · exact steps.enterWait hk h
      · exact h
  all_goals exact h

theorem portEntersFault {x : PortIx} (hk : L.Pair (pairOf x)) (hx : L.marks x) (h : R q) : R (portEntersFault x q) := by
  refine steps.markFaulted hx ?_
  split
  · exact steps.workingFault hk h
  · exact steps.protectFault hk h

theorem portLeavesFault {x : PortIx} (hk : L.Pair (pairOf x)) (hx : L.clears x) (h : R q) : R (portLeavesFault x q) := by
  unfold Machine.portLeavesFault
  dsimp only
  split
  · exact steps.workingClean hk (steps.clearFaulted hx h)
  · exact steps.clearFaulted hx h

theorem pairWaitStep {k : PairIx} (hk : L.Pair k) (h : R q) : R (pairWaitStep k q) := by
  unfold Machine.pairWaitStep
  dsimp only
  split
  · split
    · exact steps.returnPair hk (steps.pair k hk.pairs _ _ h)
    · exact steps.pair k hk.pairs _ _ h
  · exact h

theorem pairWaits {l : List PairIx} (hl : ∀ k ∈ l, L.Pair k) (h : R q) : R (pairWaits l q) := by
  induction l generalizing q with
  | nil => exact h
  | cons k rest ih =>
    exact ih (fun j hj => hl j (List.mem_cons_of_mem _ hj)) (steps.pairWaitStep (hl k List.mem_cons_self) h)

theorem sweepPair {k : PairIx} (hk : L.moves k) (h : R q) : R (sweepPair k q) := by
  unfold Machine.sweepPair
  split
  · exact steps.switchPass hk (steps.clearStale hk h)
  · exact steps.switchPass hk (steps.clearStale hk h)
  · exact h
  · exact h

/-- The marks that end the sweeps. -/
theorem sweepMarks (hmarks : ∀ x q, R q → q.faulted x = true → L.marks x) (h : R q) :
    R (forEach allPorts (fun x p => if p.faulted x then Machine.markFaulted x p else p) q) :=
  forEach_induct (R := R) _ (fun x r h => by
    split
    · next hfault => exact steps.markFaulted (hmarks x r h hfault) h
    · exact h) _ _ h

theorem sweepBoundary (hk : ∀ k, L.moves k) (hmarks : ∀ x q, R q → q.faulted x = true → L.marks x) (h : R q) :
    R (sweepBoundary q) :=
  steps.sweepMarks hmarks (forEach_induct (R := R) _ (fun k _ h => steps.sweepPair (hk k) h) _ _ h)

end PairSteps

/-! ## The steps of one port -/

/-- A property that each step of one port at a boundary keeps, the changes of the pairs apart. -/
structure PortSteps (x : PortIx) (R : Part → Prop) : Prop where
  ends   : ∀ q, R q → R (endSlot x q)
  judges : ∀ q, R q → R (withPort x (fun r => r.judged (judgementOf r (q.engine x))) q)
  told   : ∀ q, R q → R (reportPortFault q)
  counts : ∀ l q, R q → R (countPort l x q)
  begins : ∀ q, R q → R (beginPortSecond x q)

namespace PortSteps

variable {x : PortIx} {R : Part → Prop} (steps : PortSteps x R) {q : Part}
include steps

theorem judgePort (enters : ∀ q, R q → R (portEntersFault x q)) (leaves : ∀ q, R q → R (portLeavesFault x q)) (h : R q) :
    R (judgePort x q) := by
  unfold Machine.judgePort
  dsimp only
  split
  · exact enters _ (steps.told _ (steps.judges q h))
  · exact leaves _ (steps.told _ (steps.judges q h))
  · exact steps.judges q h
  · exact steps.judges q h

theorem portBoundary (enters : ∀ q, R q → R (portEntersFault x q)) (leaves : ∀ q, R q → R (portLeavesFault x q))
    (l : List PortIx) (h : R q) : R (portBoundary l x q) :=
  steps.begins _ (steps.counts l _ (steps.judgePort enters leaves (steps.ends q h)))

end PortSteps

/-- The ports' work at a boundary keeps what each of their steps keeps. -/
theorem PairSteps.portsBoundary {L : PairLeave} {R : Part → Prop} (steps : PairSteps L R) (hports : ∀ x, PortSteps x R)
    (hpairs : ∀ k, L.Pair k) (hmarks : ∀ x, L.marks x) (hclears : ∀ x, L.clears x) (l m : List PortIx) {q : Part} (h : R q) :
    R (portsBoundary l m q) :=
  forEach_induct (R := R) _ (fun x _ h => (hports x).portBoundary
    (fun _ h => steps.portEntersFault (hpairs _) (hmarks x) h) (fun _ h => steps.portLeavesFault (hpairs _) (hclears x) h) l h)
    _ _ h

/-! ## The place of a block's work (log entry 4) -/

/-- The part as the blocks take the boundary event: the Time Base has acted, and the line clock's edges have come. -/
def atBoundary (b : BoundaryArgs) (p : Part) : Part := countEdges b.line { p with tb := p.tb.boundary }

theorem hubBoundary_of_free (b : BoundaryArgs) {p : Part} (h : p.held = false) :
    hubBoundary b p = forEach (worksOf b) (boundaryWork p.boundaryContext b) (atBoundary b p) := by
  have hporn : ¬ p.porn = true := by simp [porn_of_free h]
  rw [hubBoundary, if_neg hporn]
  exact unlessHeld_of_free (p := { p with tb := p.tb.boundary }) h

theorem worksOf_legal (b : BoundaryArgs) : legalOrder (worksOf b) = true := by
  unfold worksOf
  split
  · assumption
  · rfl

theorem mem_defaultOrder (w : BoundaryWork) : w ∈ defaultOrder := by cases w <;> simp [defaultOrder]

/-- Each block works once. -/
theorem worksOf_perm (b : BoundaryArgs) : (worksOf b).Perm defaultOrder := by
  have hlegal := worksOf_legal b
  simp only [legalOrder, Bool.and_eq_true, beq_iff_eq, List.all_eq_true, decide_eq_true_eq] at hlegal
  obtain ⟨⟨⟨⟨hlength, hall⟩, _⟩, _⟩, _⟩ := hlegal
  refine (List.Subperm.perm_of_length_le ?_ (by rw [hlength]; rfl)).symm
  exact List.subperm_of_subset (by decide) hall

theorem worksOf_nodup (b : BoundaryArgs) : (worksOf b).Nodup :=
  (worksOf_perm b).nodup_iff.2 (by decide)

theorem mem_worksOf (b : BoundaryArgs) (w : BoundaryWork) : w ∈ worksOf b :=
  (worksOf_perm b).mem_iff.2 (mem_defaultOrder w)

theorem worksOf_order (b : BoundaryArgs) :
    standsBefore (worksOf b) .inputs .discipline = true ∧ standsBefore (worksOf b) .records .ports = true ∧
      standsBefore (worksOf b) .records .sweep = true := by
  have hlegal := worksOf_legal b
  simp only [legalOrder, Bool.and_eq_true] at hlegal
  exact ⟨hlegal.1.1.2, hlegal.1.2, hlegal.2⟩

theorem takeWhile_split {l : List BoundaryWork} {w : BoundaryWork} (h : w ∈ l) :
    ∃ post, l = l.takeWhile (fun v => v != w) ++ w :: post := by
  induction l with
  | nil => simp at h
  | cons a rest ih =>
    by_cases ha : a = w
    · exact ⟨rest, by simp [ha]⟩
    · obtain ⟨post, hpost⟩ := ih ((List.mem_cons.1 h).resolve_left (Ne.symm ha))
      refine ⟨post, ?_⟩
      rw [List.takeWhile_cons_of_pos (by simpa using ha), List.cons_append, ← hpost]

/-- The order of the blocks, split at one of them. -/
theorem worksOf_split (b : BoundaryArgs) (w : BoundaryWork) :
    ∃ post, worksOf b = (worksOf b).takeWhile (fun v => v != w) ++ w :: post ∧
      (∀ v ∈ (worksOf b).takeWhile (fun v => v != w), v ≠ w) ∧ (∀ v ∈ post, v ≠ w) ∧
      (∀ v, standsBefore (worksOf b) v w = true → v ∉ post) ∧
      ∀ v, standsBefore (worksOf b) w v = true → v ∉ (worksOf b).takeWhile (fun v => v != w) := by
  obtain ⟨post, hsplit⟩ := takeWhile_split (mem_worksOf b w)
  have hbefore : ∀ v ∈ (worksOf b).takeWhile (fun v => v != w), v ≠ w := fun v hv => by
    simpa using List.mem_takeWhile_imp hv
  have hnodup := worksOf_nodup b
  generalize (worksOf b).takeWhile (fun v => v != w) = pre at hsplit hbefore
  rw [hsplit, List.nodup_append, List.nodup_cons] at hnodup
  obtain ⟨_, ⟨hw, _⟩, hdisjoint⟩ := hnodup
  have hplace : (worksOf b).idxOf w = pre.length := by
    rw [hsplit, List.idxOf_append_of_notMem fun h => hbefore w h rfl, List.idxOf_cons_self, Nat.add_zero]
  refine ⟨post, hsplit, hbefore, fun v hv h => hw (h ▸ hv), fun v hv hpost => ?_, fun v hv hpre => ?_⟩
  · rw [standsBefore, decide_eq_true_eq, hplace, hsplit,
      List.idxOf_append_of_notMem fun h => hdisjoint v h v (List.mem_cons_of_mem w hpost) rfl] at hv
    omega
  · rw [standsBefore, decide_eq_true_eq, hplace, hsplit, List.idxOf_append_of_mem hpre] at hv
    exact absurd (List.idxOf_lt_length_of_mem hpre) (by omega)

/-- What the works of a list keep, they keep one after another. -/
theorem forEach_induct_mem {α : Type} {R : Part → Prop} {step : α → Part → Part} {l : List α} {p : Part}
    (keep : ∀ i ∈ l, ∀ q, R q → R (step i q)) (h : R p) : R (forEach l step p) := by
  induction l generalizing p with
  | nil => exact h
  | cons i rest ih =>
    exact ih (fun j hj => keep j (List.mem_cons_of_mem _ hj)) (keep i List.mem_cons_self _ h)

/-- A boundary, split at one block's work: what the others keep before and after it. -/
theorem hubBoundary_at (b : BoundaryArgs) (w : BoundaryWork) {p : Part} (h : p.held = false) {R S : Part → Prop}
    (start : R (atBoundary b p))
    (before : ∀ v, v ≠ w → standsBefore (worksOf b) w v = false → ∀ q, R q → R (boundaryWork p.boundaryContext b v q))
    (work : ∀ q, R q → S (boundaryWork p.boundaryContext b w q))
    (after : ∀ v, v ≠ w → standsBefore (worksOf b) v w = false → ∀ q, S q → S (boundaryWork p.boundaryContext b v q)) :
    R (beforeWork b w p) ∧ S (boundaryWork p.boundaryContext b w (beforeWork b w p)) ∧ S (hubBoundary b p) := by
  obtain ⟨post, hsplit, hpre, hpost, hlate, hearly⟩ := worksOf_split b w
  have hbefore : R (beforeWork b w p) := forEach_induct_mem (fun v hv => before v (hpre v hv) (by
    by_contra hstands
    exact hearly v (by simpa using hstands) hv)) start
  have hwork := work _ hbefore
  refine ⟨hbefore, hwork, ?_⟩
  rw [hubBoundary_of_free b h, hsplit, forEach_append, forEach_cons]
  exact forEach_induct_mem (fun v hv => after v (hpost v hv) (by
    by_contra hstands
    exact hlate v (by simpa using hstands) hv)) hwork

/-- A command that names what a block's work at a boundary brings about is that boundary. -/
theorem exec_of_work {d : Instr} {b : BoundaryArgs} {w : BoundaryWork} {test : Part → Part → Bool} {s : State}
    (hexec : exec d s = commandDone (fun p => whenReached (workReaches b w test p) (hubBoundary b) p) s)
    (hfree : s.part.held = false)
    (htest : test (beforeWork b w s.part) (boundaryWork s.part.boundaryContext b w (beforeWork b w s.part)) = true) :
    exec d s = .next { s with part := settle s.pending (hubBoundary b s.part) } := by
  rw [hexec, commandDone_next, whenReached, workReaches, hfree, htest, Bool.not_false, Bool.and_true,
    if_pos rfl]

end Sys2Proof.Machine

/-! SUPPORT. The records at a boundary: staged changes, auto-retirement, and the changes that the pairs make (R101, R109,
R112, R157, R158, R165). -/

namespace Sys2Proof.Machine

/-! ## The Inputs and the Discipline Unit at a boundary -/

/-- Leave for the samples and the hub second event: the slots, the choice, the hub record and a step request. -/
def Access.steering : Access :=
  { hub := True, step := True, slots := fun _ => True, records := fun _ => False, ports := fun _ => False
    engines := fun _ => False, pairs := fun _ => False, owners := fun o => o = .hub ∨ ∃ k, o = .slot k
    marks := fun o n => (o = .hub ∧ n ≤ 4) ∨ ∃ k, o = .slot k }

theorem Access.steering_choice : steering.Choice := ⟨trivial, .inl rfl, fun _ hn => .inl ⟨rfl, hn⟩⟩

theorem Access.steering_slot (k : SlotIx) : steering.Slot k := ⟨trivial, .inr ⟨k, rfl⟩, fun _ => .inr ⟨k, rfl⟩⟩

theorem inputsBoundary_within (n : Nat) (q : Part) : Within .steering q (inputsBoundary n q) :=
  (Within.refl _ q).inputsBoundary Access.steering_choice Access.steering_slot n

theorem hubSecondEvent_within (q : Part) : Within .steering q (hubSecondEvent q) :=
  (Within.refl _ q).hubSecondEvent Access.steering_choice (fun _ => trivial) fun _ => trivial

/-- Leave for the returns and moves of the pairs at a boundary. -/
def Access.pairsAll : Access :=
  { hub := False, step := False, slots := fun _ => False, records := fun _ => True, ports := fun _ => True
    engines := fun _ => False, pairs := fun _ => True, owners := fun o => ∃ i, o = .record i
    marks := fun o _ => ∃ i, o = .record i }

theorem Access.pairsAll_pair (k : PairIx) : pairsAll.Pair k :=
  ⟨trivial, trivial, fun i => ⟨trivial, ⟨i, rfl⟩, fun _ => ⟨i, rfl⟩⟩⟩

theorem pairWaits_within (l : List PairIx) (q : Part) : Within .pairsAll q (pairWaits l q) :=
  (Within.refl _ q).pairWaits fun k _ => Access.pairsAll_pair k

theorem sweepBoundary_within (q : Part) : Within .pairsAll q (sweepBoundary q) :=
  (Within.refl _ q).sweepBoundary Access.pairsAll_pair

/-- Leave for what the ports do at a boundary with no slot open. -/
def Access.portsAll : Access :=
  { Access.pairsAll with
    engines := fun _ => True, owners := fun o => o = .hub ∨ ∃ i, o = .record i
    marks := fun o n => (o = .hub ∧ n = 5) ∨ ∃ i, o = .record i }

theorem Access.portsAll_pair (k : PairIx) : portsAll.Pair k :=
  ⟨trivial, trivial, fun i => ⟨trivial, .inr ⟨i, rfl⟩, fun _ => .inr ⟨i, rfl⟩⟩⟩

theorem Access.portsAll_port (x : PortIx) : portsAll.Port x := ⟨trivial, trivial, .inl rfl, .inl ⟨rfl, rfl⟩⟩

theorem atBoundary_record (b : BoundaryArgs) (p : Part) (i : RecordIx) : (atBoundary b p).record i = p.record i := by
  rw [Part.record, atBoundary, countEdges_records]
  rfl

theorem atBoundary_engine (b : BoundaryArgs) (p : Part) (x : PortIx) : (atBoundary b p).engine x = p.engine x := by
  rw [Part.engine, atBoundary, countEdges_engines]
  rfl

theorem atBoundary_port (b : BoundaryArgs) (p : Part) (x : PortIx) : (atBoundary b p).port x = p.port x := by
  rw [Part.port, atBoundary, countEdges_ports]
  rfl

theorem atBoundary_pair (b : BoundaryArgs) (p : Part) (k : PairIx) : (atBoundary b p).pair k = p.pair k := by
  rw [Part.pair, atBoundary, countEdges_pairs]
  rfl

theorem atBoundary_alarm (b : BoundaryArgs) (p : Part) : (atBoundary b p).alarm = p.alarm := by
  rw [atBoundary, countEdges_alarm]

/-! ## The changes that the pairs make in a record (R147, R157, R158, R165) -/

/-- A record that the pairs have moved, returned, blocked or unblocked. -/
def Shifted (r r' : ServiceRecord) : Prop :=
  ∃ x b f n c w, r' =
    { r with currentPort := x, blocked := b, filter := f, outlierRun := n, compensation := c, window := w }

namespace Shifted

variable {r r' r'' : ServiceRecord}

theorem refl (r : ServiceRecord) : Shifted r r := ⟨_, _, _, _, _, _, rfl⟩

theorem trans (h : Shifted r r') (g : Shifted r' r'') : Shifted r r'' := by
  obtain ⟨_, _, _, _, _, _, rfl⟩ := h
  obtain ⟨_, _, _, _, _, _, rfl⟩ := g
  exact ⟨_, _, _, _, _, _, rfl⟩

theorem retiresNow (h : Shifted r r') : retiresNow r' = retiresNow r := by
  obtain ⟨_, _, _, _, _, _, rfl⟩ := h
  rfl

end Shifted

theorem shifted_moved (k : PairIx) (r : ServiceRecord) : Shifted r (movedRecord k r) := ⟨_, _, _, _, _, _, rfl⟩

theorem shifted_returned (k : PairIx) (r : ServiceRecord) : Shifted r (returned k r) := by
  by_cases h : r.state = .retiring
  · rw [returned_retiring h]
    exact ⟨_, _, _, _, _, _, rfl⟩
  · rw [returned_live h]
    exact ⟨_, _, _, _, _, _, rfl⟩

theorem shifted_blocked (b : Bool) (r : ServiceRecord) : Shifted r { r with blocked := b } := ⟨_, _, _, _, _, _, rfl⟩

/-- The pairs shift a record at most. -/
theorem pairSteps_shifted (i : RecordIx) (r : ServiceRecord) : PairSteps .all (fun q => Shifted r (q.record i)) where
  pair := fun _ _ _ _ h => h
  move := fun k _ j q _ _ h => by
    rw [moveRecord_record]
    split
    · next hj => subst hj; exact h.trans (shifted_moved k _)
    · exact h
  block := fun _ _ j q _ h => by
    rw [record_withRecord]
    split
    · next hj => subst hj; exact h.trans (shifted_blocked true _)
    · exact h
  returns := fun k _ j q _ h => by
    rw [returnRecord_record]
    split
    · next hj =>
      unfold returnedIf
      split
      · exact h.trans (shifted_returned k _)
      · exact h
    · exact h
  unblock := fun _ _ j q _ h => by
    rw [record_withRecord]
    split
    · next hj => subst hj; exact h.trans (shifted_blocked false _)
    · exact h
  mark := fun _ _ _ _ _ h => h
  clear := fun _ _ _ _ _ h => h

theorem PairSteps.and {L : PairLeave} {R S : Part → Prop} (h : PairSteps L R) (g : PairSteps L S) :
    PairSteps L (fun q => R q ∧ S q) where
  pair := fun k hk f q ⟨hr, hs⟩ => ⟨h.pair k hk f q hr, g.pair k hk f q hs⟩
  move := fun k hk i q hc hm ⟨hr, hs⟩ => ⟨h.move k hk i q hc hm hr, g.move k hk i q hc hm hs⟩
  block := fun k hk i q hc ⟨hr, hs⟩ => ⟨h.block k hk i q hc hr, g.block k hk i q hc hs⟩
  returns := fun k hk i q hc ⟨hr, hs⟩ => ⟨h.returns k hk i q hc hr, g.returns k hk i q hc hs⟩
  unblock := fun k hk i q hhome ⟨hr, hs⟩ => ⟨h.unblock k hk i q hhome hr, g.unblock k hk i q hhome hs⟩
  mark := fun x hx i q hc ⟨hr, hs⟩ => ⟨h.mark x hx i q hc hr, g.mark x hx i q hc hs⟩
  clear := fun x hx i q hc ⟨hr, hs⟩ => ⟨h.clear x hx i q hc hr, g.clear x hx i q hc hs⟩

theorem returnRecord_engine (k : PairIx) (i : RecordIx) (q : Part) (x : PortIx) :
    (returnRecord k i q).engine x = q.engine x := by
  unfold returnRecord
  split <;> rfl

theorem pairSteps_noSlotOpen (L : PairLeave) : PairSteps L Part.NoSlotOpen where
  pair := fun _ _ _ _ h => h
  move := fun _ _ _ _ _ _ h => h
  block := fun _ _ _ _ _ h => h
  returns := fun k _ i q _ h x => by rw [returnRecord_engine]; exact h x
  unblock := fun _ _ _ _ _ h => h
  mark := fun _ _ _ _ _ h => h
  clear := fun _ _ _ _ _ h => h

/-! ## With no slot open -/

theorem endSlot_noSlotOpen {x : PortIx} {q : Part} (h : q.NoSlotOpen) :
    (∀ i, (endSlot x q).record i = q.record i) ∧ (endSlot x q).NoSlotOpen := by
  have idle (r : Part) (hr : ∀ y, (r.engine y).target = none) (f : Engine → Engine)
      (hf : ∀ e, e.target = none → (f e).target = none) : (withEngine x f r).NoSlotOpen := by
    intro y
    by_cases hy : x = y
    · subst hy
      rw [withEngine, engine_setEngine_self]
      exact hf _ (hr x)
    · rw [withEngine, engine_setEngine_ne _ hy]
      exact hr y
  have decided (e : SlotError) : (∀ i, (decideSlot x .missing e q).record i = q.record i) ∧
      (decideSlot x .missing e q).NoSlotOpen := by
    have hnone : ((setSlotError x e q).engine x).target = none := h x
    simp only [decideSlot, reportOutcome, hnone]
    exact ⟨fun _ => rfl, idle (setSlotError x e q) h _ fun _ _ => rfl⟩
  unfold endSlot
  dsimp only
  split
  · exact ⟨fun _ => rfl, h⟩
  · exact decided _
  · exact decided _
  · split
    · exact decided _
    · exact ⟨fun _ => rfl, idle q h _ fun _ he => he⟩

/-- With no slot open a port's own steps leave the records. -/
theorem portSteps_untargeted {R : Part → Prop} (x : PortIx)
    (hR : ∀ p q : Part, (∀ i, q.record i = p.record i) → R p → R q) :
    PortSteps x (fun q => R q ∧ q.NoSlotOpen) where
  ends := fun q ⟨hr, hq⟩ => by
    obtain ⟨hrecords, hopen⟩ := endSlot_noSlotOpen (x := x) hq
    exact ⟨hR q _ hrecords hr, hopen⟩
  judges := fun q ⟨hr, hq⟩ => ⟨hR q _ (fun _ => rfl) hr, hq⟩
  told := fun q ⟨hr, hq⟩ => ⟨hR q _ (fun _ => rfl) hr, hq⟩
  counts := fun _ q ⟨hr, hq⟩ => ⟨hR q _ (fun _ => rfl) hr, hq⟩
  begins := fun q ⟨hr, hq⟩ => ⟨hR q _ (fun _ => rfl) hr, fun y => by
    by_cases hy : x = y
    · subst hy
      rw [beginPortSecond, engine_setEngine_self]
    · rw [beginPortSecond, engine_setEngine_ne _ hy]
      exact hq y⟩

/-- A record that only the pairs may change, with no slot open. -/
def Part.Calm (r : ServiceRecord) (i : RecordIx) (q : Part) : Prop := Shifted r (q.record i) ∧ q.NoSlotOpen

theorem pairSteps_calm (r : ServiceRecord) (i : RecordIx) : PairSteps .all (Part.Calm r i) :=
  (pairSteps_shifted i r).and (pairSteps_noSlotOpen .all)

theorem Within.noSlotOpen {A : Access} {p q : Part} (h : Within A p q) (hA : ∀ x, ¬ A.engines x) (hp : p.NoSlotOpen) :
    q.NoSlotOpen := fun x => by rw [h.engines x (hA x)]; exact hp x

/-- The records' own work at a boundary apart, a calm record stays calm. -/
theorem calm_work {r : ServiceRecord} {i : RecordIx} (c : BoundaryContext) (b : BoundaryArgs) {w : BoundaryWork}
    (hw : w ≠ .records) {q : Part} (h : q.Calm r i) : (boundaryWork c b w q).Calm r i := by
  obtain ⟨hshift, hopen⟩ := h
  cases w with
  | inputs =>
    have hwithin := inputsBoundary_within c.ended q
    exact ⟨by rw [boundaryWork, hwithin.records i nofun]; exact hshift, hwithin.noSlotOpen nofun hopen⟩
  | discipline =>
    have hwithin := hubSecondEvent_within q
    exact ⟨by rw [boundaryWork, hwithin.records i nofun]; exact hshift, hwithin.noSlotOpen nofun hopen⟩
  | records => exact absurd rfl hw
  | ports =>
    exact (pairSteps_calm r i).portsBoundary
      (fun x => portSteps_untargeted x fun p q hsame hr => by rw [hsame i]; exact hr) PairLeave.all_pair
      (fun _ => trivial) (fun _ => trivial) _ _ ⟨hshift, hopen⟩
  | pairWait => exact (pairSteps_calm r i).pairWaits (fun k _ => PairLeave.all_pair k) ⟨hshift, hopen⟩
  | sweep => exact (pairSteps_calm r i).sweepBoundary (fun _ => trivial) (fun _ _ _ _ => trivial) ⟨hshift, hopen⟩

/-! ## The Record Table at a boundary (R101, R109) -/

/-- A record whose staged change is live and whose silent second is counted (R101, R109). -/
def counted (r : ServiceRecord) : ServiceRecord :=
  if (applyStaged r).state = .silent then
    { applyStaged r with silentSeconds := nextSilentSeconds (applyStaged r).silentSeconds }
  else applyStaged r

theorem counted_generation (r : ServiceRecord) : (counted r).generation = r.generation := by
  unfold counted applyStaged
  dsimp only
  split <;> split <;> rfl

theorem recordBoundary_eq (i : RecordIx) (p : Part) :
    recordBoundary i p =
      if retiresNow (p.record i) then endRetired .auto i (withRecord i counted p) else withRecord i counted p := rfl

theorem recordBoundary_within (i : RecordIx) (p : Part) : Within (.ending i) p (recordBoundary i p) :=
  (Within.refl _ p).recordBoundary (Access.ending_record i) (Access.ending_returns i)

/-- The Record Table's work at one record. -/
theorem recordsBoundary_record (i : RecordIx) (p : Part) :
    (recordsBoundary p).record i =
      if retiresNow (p.record i) then { generation := (p.record i).generation } else counted (p.record i) := by
  have heach := forEach_each (get := fun j p => p.record j) (f := recordBoundary)
    (act := fun _ r => if retiresNow r then { generation := r.generation } else counted r) (fun i j q => by
      by_cases hi : i = j
      · subst hi
        rw [if_pos rfl, recordBoundary_eq]
        split
        · rw [endRetired_record, record_withRecord, if_pos rfl, counted_generation]
        · rw [record_withRecord, if_pos rfl]
      · rw [if_neg hi]
        exact (recordBoundary_within i q).records j fun h => hi h.symm) i p
  exact heach

end Sys2Proof.Machine

/-! SUPPORT. A record that has ended stays ended through the boundary, with its news; and the obligation on staged changes and
auto-retirement (R101, R109, R112). -/

namespace Sys2Proof.Machine

/-! ## The end of a slot at a boundary -/

/-- Changes of an engine that leave the marks of its port second. -/
def KeepsMarks (f : Engine → Engine) : Prop := ∀ e, (f e).aborted = e.aborted ∧ (f e).sent = e.sent

/-- What the end of a slot keeps. -/
theorem endSlot_keeps {R : Part → Prop} {x : PortIx} (error : ∀ e q, R q → R (setSlotError x e q))
    (engine : ∀ f q, KeepsMarks f → R q → R (withEngine x f q))
    (outcome : ∀ t t1 t4 q, R q → R (recordOutcome x t t1 t4 .missing q)) (q : Part) (h : R q) : R (endSlot x q) := by
  have decided (e : SlotError) : R (decideSlot x .missing e q) := by
    have idle := engine (fun e => { e with activity := .idle, target := none }) _ (fun _ => ⟨rfl, rfl⟩) (error e q h)
    unfold decideSlot reportOutcome
    dsimp only
    split
    · exact idle
    · exact outcome _ _ _ _ idle
  unfold endSlot
  dsimp only
  split
  · exact h
  · exact decided _
  · exact decided _
  · split
    · exact decided _
    · exact engine (fun e => { e with activity := .idle }) q (fun _ => ⟨rfl, rfl⟩) h

/-- What the changes of a port and its engine, the PORT_FAULT report and the outcomes of slots keep, a port's boundary
keeps. -/
theorem portSteps_of {R : Part → Prop} {x : PortIx} (port : ∀ r q, R q → R (q.setPort x r))
    (engine : ∀ e q, R q → R (q.setEngine x e)) (told : ∀ q, R q → R (reportPortFault q))
    (outcome : ∀ t t1 t4 q, R q → R (recordOutcome x t t1 t4 .missing q)) : PortSteps x R where
  ends := fun q h => endSlot_keeps (fun _ _ h => port _ _ h) (fun _ _ _ h => engine _ _ h) outcome q h
  judges := fun q h => port _ q h
  told := told
  counts := fun _ q h => port _ q h
  begins := fun q h => engine _ q h

/-! ## A record that has ended (R112) -/

/-- A record is VACANT with its generation alone, and its news stands when the premise of it holds. -/
def Part.Gone (i : RecordIx) (g : Generation) (premise : Prop) (shows : Entry → Prop) (q : Part) : Prop :=
  q.record i = { generation := g } ∧ (premise → q.Carries (.record i) shows)

section Gone

variable {i : RecordIx} {g : Generation} {premise : Prop} {shows : Entry → Prop} {p q : Part}

theorem Part.Gone.vacant (h : p.Gone i g premise shows) : (p.record i).state = .vacant := by rw [h.1]

/-- What leaves the record and its owner's notices leaves it gone. -/
theorem Part.Gone.within {A : Access} (h : p.Gone i g premise shows) (hwithin : Within A p q) (hi : ¬ A.records i)
    (ho : ¬ A.owners (.record i)) : q.Gone i g premise shows :=
  ⟨(hwithin.records i hi).trans h.1, fun hp => (h.2 hp).within hwithin ho⟩

theorem Part.Gone.report (h : p.Gone i g premise shows) {r : Report} (hr : r.owner ≠ .record i) :
    (Machine.report r p).Gone i g premise shows :=
  ⟨h.1, fun hp => (h.2 hp).report (fun howner => absurd howner hr) nofun⟩

theorem Part.Gone.withRecord (h : p.Gone i g premise shows) {j : RecordIx} (hj : j ≠ i) (f : ServiceRecord → ServiceRecord) :
    (Machine.withRecord j f p).Gone i g premise shows :=
  ⟨by rw [record_withRecord, if_neg hj]; exact h.1, h.2⟩

theorem Part.Gone.raiseRecord (h : p.Gone i g premise shows) {j : RecordIx} (hj : j ≠ i) (c : Condition) (x : PortIx) :
    (Machine.raiseRecord c x j p).Gone i g premise shows :=
  h.report (by simpa [recordPortReport, recordReport] using hj)

theorem Part.Gone.clearRecord (h : p.Gone i g premise shows) {j : RecordIx} (hj : j ≠ i) (c : Condition) (x : PortIx) :
    (Machine.clearRecord c x j p).Gone i g premise shows :=
  h.report (by simpa [recordPortReport, recordReport] using hj)

theorem Part.Gone.ne {j : RecordIx} (h : p.Gone i g premise shows) (hj : (p.record j).state ≠ .vacant) : j ≠ i := by
  rintro rfl
  exact hj h.vacant

/-- The pairs do not touch a VACANT record. -/
theorem pairSteps_gone (i : RecordIx) (g : Generation) (premise : Prop) (shows : Entry → Prop) :
    PairSteps .all (Part.Gone i g premise shows) where
  pair := fun _ _ _ _ h => h
  move := fun k _ j q hc _ h => by
    have hj := h.ne (i := i) (j := j) ((candidate_iff _ _).1 hc).1
    have hmoved := ((h.withRecord hj (fun r =>
      { reseed (toQ r.protectOffset) r with currentPort := protectPort k, blocked := false })).clearRecord hj .lineFault
      (workingPort k)).raiseRecord hj .switched (protectPort k)
    exact ⟨hmoved.1, hmoved.2⟩
  block := fun k _ j q hc h => h.withRecord (h.ne ((candidate_iff _ _).1 hc).1) _
  returns := fun k _ j q hs h => by
    have hj := h.ne (i := i) (j := j) ((switched_iff _ _).1 hs).1
    rw [returnRecord, if_pos hs]
    exact ((h.withRecord hj _).clearRecord hj _ _).raiseRecord hj _ _
  unblock := fun _ _ j q _ h => by
    by_cases hj : j = i
    · subst hj
      refine ⟨?_, h.2⟩
      rw [record_withRecord, if_pos rfl, h.1]
    · exact h.withRecord hj _
  mark := fun _ _ j q hon h => h.raiseRecord (h.ne ((on_iff _ _).1 hon).1) _ _
  clear := fun _ _ j q hon h => h.clearRecord (h.ne ((on_iff _ _).1 hon).1) _ _

/-- No outcome reaches a VACANT record. -/
theorem Part.Gone.outcome (h : q.Gone i g premise shows) (x : PortIx) (t : SlotTarget) (t1 t4 : Option Stamp)
    (o : SlotOutcome) : (recordOutcome x t t1 t4 o q).Gone i g premise shows := by
  by_cases hi : t.record = i
  · rw [recordOutcome_lost t1 t4 o (.inr (.inl (by rw [hi]; exact h.vacant)))]
    exact h
  · refine h.within ((Within.refl _ q).recordOutcome (Access.ending_record t.record) (Access.ending_returns t.record) rfl x t1
      t4 o) (fun hrecord => hi hrecord.symm) ?_
    rintro (howner | howner | howner | howner) <;> simp at howner
    exact hi howner.symm

theorem portSteps_gone (x : PortIx) (i : RecordIx) (g : Generation) (premise : Prop) (shows : Entry → Prop) :
    PortSteps x (Part.Gone i g premise shows) :=
  portSteps_of (fun _ _ h => h) (fun _ _ h => h) (fun _ h => h.report nofun) fun _ _ _ _ h => h.outcome _ _ _ _ _

theorem gone_recordBoundary {j : RecordIx} (hj : j ≠ i) (h : q.Gone i g premise shows) :
    (recordBoundary j q).Gone i g premise shows := by
  refine h.within (recordBoundary_within j q) (fun hrecord => hj hrecord.symm) ?_
  rintro (howner | howner | howner | howner) <;> simp at howner
  exact hj howner.symm

/-- The works of a boundary but the records' own leave a record gone. -/
theorem gone_work (c : BoundaryContext) (b : BoundaryArgs) {w : BoundaryWork} (hw : w ≠ .records)
    (h : q.Gone i g premise shows) : (boundaryWork c b w q).Gone i g premise shows := by
  cases w with
  | inputs => exact h.within (inputsBoundary_within c.ended q) nofun (by rintro (h | ⟨k, h⟩) <;> simp at h)
  | discipline => exact h.within (hubSecondEvent_within q) nofun (by rintro (h | ⟨k, h⟩) <;> simp at h)
  | records => exact absurd rfl hw
  | ports =>
    exact (pairSteps_gone i g premise shows).portsBoundary (fun x => portSteps_gone x i g premise shows)
      PairLeave.all_pair (fun _ => trivial) (fun _ => trivial) _ _ h
  | pairWait => exact (pairSteps_gone i g premise shows).pairWaits (fun k _ => PairLeave.all_pair k) h
  | sweep =>
    exact (pairSteps_gone i g premise shows).sweepBoundary (fun _ => trivial) (fun _ _ _ _ => trivial) h

/-- The Record Table's work ends a record that auto-retires (R109). -/
theorem recordsBoundary_gone (hretires : retiresNow (p.record i) = true) :
    (recordsBoundary p).Gone i (p.record i).generation (p.alarm.settings.recordThreshold = some .note)
      (fun e => hasCondition e.raised .retired = true ∧ e.detail = some .auto) := by
  obtain ⟨below, above, hsplit, hbelow, habove⟩ := finRange_split i
  have hbefore : (forEach below recordBoundary p).record i = p.record i ∧
      (forEach below recordBoundary p).alarm.settings = p.alarm.settings :=
    forEach_induct_mem (R := fun q => q.record i = p.record i ∧ q.alarm.settings = p.alarm.settings)
      (fun j hj q ⟨hrecord, hsettings⟩ =>
        ⟨((recordBoundary_within j q).records i (Fin.ne_of_gt (hbelow j hj))).trans hrecord,
          (recordBoundary_within j q).alarm.settings.trans hsettings⟩) ⟨rfl, rfl⟩
  rw [recordsBoundary, allRecords, hsplit, forEach_append, forEach_cons]
  generalize forEach below recordBoundary p = q at hbefore
  obtain ⟨hrecord, hsettings⟩ := hbefore
  have hended : recordBoundary i q = endRetired .auto i (withRecord i counted q) := by
    rw [recordBoundary_eq, hrecord, if_pos hretires]
  refine forEach_induct_mem (fun j hj q h => gone_recordBoundary (Fin.ne_of_gt (habove j hj)) h) ?_
  rw [hended]
  refine ⟨?_, fun hthreshold => endRetired_reported .auto i (p := withRecord i counted q) (by
    rw [← hthreshold, ← hsettings]; rfl)⟩
  rw [endRetired_record, record_withRecord, if_pos rfl, hrecord, counted_generation]

end Gone

/-! ## The obligation (R101, R109) -/

theorem recordsBoundary_noSlotOpen {p : Part} (h : p.NoSlotOpen) : (recordsBoundary p).NoSlotOpen :=
  forEach_induct (R := Part.NoSlotOpen) _ (fun j q hq => (recordBoundary_within j q).noSlotOpen nofun hq) _ _ h

/-- The record at the end of a boundary with no slot open, up to what the pairs shift. -/
theorem hubBoundary_calm {p : Part} (b : BoundaryArgs) (i : RecordIx) (hheld : p.held = false) (hopen : p.NoSlotOpen)
    (hstays : retiresNow (p.record i) = false) :
    ∃ r, Shifted (p.record i) r ∧ (hubBoundary b p).Calm (counted r) i := by
  obtain ⟨⟨hbefore, _⟩, ⟨_, _⟩, r, hr, hafter⟩ := hubBoundary_at b .records hheld (R := Part.Calm (p.record i) i)
    (S := fun q => ∃ r, Shifted (p.record i) r ∧ q.Calm (counted r) i)
    ⟨by rw [atBoundary_record]; exact .refl _, fun x => by rw [atBoundary_engine]; exact hopen x⟩
    (fun v hv _ q h => calm_work _ b hv h)
    (fun q ⟨hshift, hq⟩ => by
      refine ⟨q.record i, hshift, ?_, recordsBoundary_noSlotOpen hq⟩
      rw [boundaryWork, recordsBoundary_record, if_neg (by rw [hshift.retiresNow, hstays]; simp)]
      exact .refl _)
    (fun v hv _ q ⟨r, hr, h⟩ => ⟨r, hr, calm_work _ b hv h⟩)
  exact ⟨r, hr, hafter⟩

/-- The staged change applied, and the silent second counted, in the fields. -/
theorem counted_fields (r : ServiceRecord) :
    (counted r).staticOffset = r.stagedOffset.getD r.staticOffset ∧ (counted r).share = r.stagedShare.getD r.share ∧
      (counted r).stagedOffset = none ∧ (counted r).stagedShare = none ∧ (counted r).state = r.state ∧
      (counted r).homePort = r.homePort ∧ (counted r).address = r.address ∧ (counted r).identity = r.identity ∧
      (r.state = .silent → (counted r).silentSeconds = min (r.silentSeconds + 1) 65535) := by
  have happlied : ∃ c, applyStaged r =
      { r with
        share := r.stagedShare.getD r.share, staticOffset := r.stagedOffset.getD r.staticOffset
        stagedShare := none, stagedOffset := none, compensation := c } := by
    unfold applyStaged
    dsimp only
    split
    · exact ⟨_, rfl⟩
    · exact ⟨_, rfl⟩
  obtain ⟨c, hc⟩ := happlied
  unfold counted
  rw [hc]
  split
  · exact ⟨rfl, rfl, rfl, rfl, rfl, rfl, rfl, rfl, fun _ => rfl⟩
  · next hnot => exact ⟨rfl, rfl, rfl, rfl, rfl, rfl, rfl, rfl, fun hsilent => absurd hsilent hnot⟩

/-- Settles O39: a calm record through the boundary, and one that ends in the records' work. -/
theorem boundaryAppliesStagedChangesAndRetires : Obligations.BoundaryAppliesStagedChangesAndRetires := by
  refine ⟨fun s b i hheld hopen hstays hvacant => ?_, fun s b i hheld hbindings hsilent hauto hdue => ?_⟩
  · obtain ⟨r, hshift, hcalm, _⟩ := hubBoundary_calm b i hheld hopen hstays
    obtain ⟨hoffset, hshare, hnoOffset, hnoShare, hstate, hhome, haddress, hidentity, hseconds⟩ := counted_fields r
    have hgeneration := counted_generation r
    obtain ⟨x, bl, f, n, c, w, hfinal⟩ := hcalm
    obtain ⟨x', bl', f', n', c', w', rfl⟩ := hshift
    refine ⟨_, completes_of_work (c := .hubSecondBoundary b) rfl, rfl, ?_⟩
    simp only [settle_record]
    change ((hubBoundary b s.part).record i).staticOffset = _ ∧ ((hubBoundary b s.part).record i).share = _ ∧
      ((hubBoundary b s.part).record i).stagedOffset = _ ∧ ((hubBoundary b s.part).record i).stagedShare = _ ∧
      ((hubBoundary b s.part).record i).state = _ ∧ ((hubBoundary b s.part).record i).generation = _ ∧
      ((hubBoundary b s.part).record i).homePort = _ ∧ ((hubBoundary b s.part).record i).address = _ ∧
      ((hubBoundary b s.part).record i).identity = _ ∧
      (_ → ((hubBoundary b s.part).record i).silentSeconds = _)
    rw [hfinal]
    exact ⟨hoffset, hshare, hnoOffset, hnoShare, hstate, hgeneration, hhome, haddress, hidentity, hseconds⟩
  · have hretires : retiresNow (s.part.record i) = true := by
      simp only [retiresNow, hsilent, Bool.and_eq_true, bne_iff_ne, decide_eq_true_eq]
      exact ⟨⟨rfl, hauto⟩, hdue⟩
    obtain ⟨⟨hbefore, _⟩, hworked, hgone⟩ := hubBoundary_at b .records hheld
      (R := fun q => Shifted (s.part.record i) (q.record i) ∧ q.alarm.settings = s.part.alarm.settings)
      (S := Part.Gone i (s.part.record i).generation (s.part.alarm.settings.recordThreshold = some .note)
        (fun e => hasCondition e.raised .retired = true ∧ e.detail = some .auto))
      ⟨by rw [atBoundary_record]; exact .refl _, by rw [atBoundary_alarm]⟩
      (fun v hv hstands q ⟨hshift, hsettings⟩ => by
        cases v with
        | inputs =>
          have hwithin := inputsBoundary_within s.part.boundaryContext.ended q
          exact ⟨by rw [boundaryWork, hwithin.records i nofun]; exact hshift, hwithin.alarm.settings.trans hsettings⟩
        | discipline =>
          have hwithin := hubSecondEvent_within q
          exact ⟨by rw [boundaryWork, hwithin.records i nofun]; exact hshift, hwithin.alarm.settings.trans hsettings⟩
        | records => exact absurd rfl hv
        | ports => exact absurd hstands (by simp [(worksOf_order b).2.1])
        | pairWait =>
          exact ⟨(pairSteps_shifted i _).pairWaits (fun k _ => PairLeave.all_pair k) hshift,
            (pairWaits_within _ q).alarm.settings.trans hsettings⟩
        | sweep => exact absurd hstands (by simp [(worksOf_order b).2.2]))
      (fun q ⟨hshift, hsettings⟩ => by
        have hended := recordsBoundary_gone (p := q) (i := i) (by rw [hshift.retiresNow, hretires])
        obtain ⟨x, bl, f, n, c, w, hrecord⟩ := hshift
        rw [hrecord, hsettings] at hended
        exact hended)
      (fun v hv _ q h => gone_work _ b hv h)
    refine ⟨_, ?_, completes_of_work (c := .hubSecondBoundary b) rfl, rfl, ?_, ?_, ?_⟩
    · refine exec_of_work (test := autoRetires i) rfl hheld ?_
      obtain ⟨x, bl, f, n, c, w, hrecord⟩ := hbefore
      have hvacant := hworked.vacant
      simp only [autoRetires, hvacant, hrecord, hsilent]
      rfl
    · rw [settle_record]
      exact hgone.1
    · intro k hk
      have hagree := ((Kept.refl s.part).hubBoundary b).bindings hbindings
      rw [settle_slot] at hk
      exact (hagree.2.1 k i _ hk).2.2.1 hgone.vacant
    · exact fun hthreshold => (hgone.2 hthreshold).settle _

end Sys2Proof.Machine

/-! SUPPORT. The works of a boundary with each one due once, and the lock that the window runs enter and leave (R73, R79, R87;
log entries 3 and 4). -/

namespace Sys2Proof.Machine

/-! ## The works that are still due -/

/-- What a run over a list keeps of the part and the rest of the list. -/
theorem forEach_rest {α : Type} {R : List α → Part → Prop} {step : α → Part → Part} {l : List α} {p : Part}
    (keep : ∀ i rest q, i ∈ l → R (i :: rest) q → R rest (step i q)) (h : R l p) : R [] (forEach l step p) := by
  induction l generalizing p with
  | nil => exact h
  | cons i rest ih =>
    exact ih (fun j tail q hj => keep j tail q (List.mem_cons_of_mem _ hj)) (keep i rest p List.mem_cons_self h)

theorem forEach_rest_append {α : Type} {R : List α → Part → Prop} {step : α → Part → Part} {l m : List α} {p : Part}
    (keep : ∀ i rest q, i ∈ l → R (i :: rest) q → R rest (step i q)) (h : R (l ++ m) p) : R m (forEach l step p) := by
  induction l generalizing p with
  | nil => exact h
  | cons i rest ih =>
    exact ih (fun j tail q hj => keep j tail q (List.mem_cons_of_mem _ hj)) (keep i (rest ++ m) p List.mem_cons_self h)

/-- A boundary, split at one block's work, with what is due told apart. -/
theorem hubBoundary_through (b : BoundaryArgs) (w : BoundaryWork) {p : Part} (h : p.held = false)
    {R S : List BoundaryWork → Part → Prop} (start : R (worksOf b) (atBoundary b p))
    (before : ∀ v rest q, v ≠ w → standsBefore (worksOf b) w v = false → R (v :: rest) q →
      R rest (boundaryWork p.boundaryContext b v q))
    (work : ∀ rest, R (w :: rest) (beforeWork b w p) →
      S rest (boundaryWork p.boundaryContext b w (beforeWork b w p)))
    (after : ∀ v rest q, v ≠ w → standsBefore (worksOf b) v w = false → S (v :: rest) q →
      S rest (boundaryWork p.boundaryContext b v q)) :
    (∃ rest, R (w :: rest) (beforeWork b w p)) ∧
      (∃ rest, S rest (boundaryWork p.boundaryContext b w (beforeWork b w p))) ∧ S [] (hubBoundary b p) := by
  obtain ⟨post, hsplit, hpre, hpost, hlate, hearly⟩ := worksOf_split b w
  have hbefore : R (w :: post) (beforeWork b w p) := by
    refine forEach_rest_append (fun v rest q hv hr => before v rest q (hpre v hv) ?_ hr) (hsplit ▸ start)
    by_contra hstands
    exact hearly v (by simpa using hstands) hv
  have hwork := work post hbefore
  refine ⟨⟨post, hbefore⟩, ⟨post, hwork⟩, ?_⟩
  rw [hubBoundary_of_free b h, hsplit, forEach_append, forEach_cons]
  refine forEach_rest (fun v rest q hv hs => after v rest q (hpost v hv) ?_ hs) hwork
  by_contra hstands
  exact hlate v (by simpa using hstands) hv

/-- No slot is open, and no record auto-retires in the records' work that is still due. -/
def Part.Settled (p : Part) (rest : List BoundaryWork) (q : Part) : Prop :=
  rest.Nodup ∧ q.NoSlotOpen ∧ (.records ∈ rest → ∀ i, Shifted (p.record i) (q.record i))

theorem settled_start (b : BoundaryArgs) {p : Part} (hopen : p.NoSlotOpen) : p.Settled (worksOf b) (atBoundary b p) :=
  ⟨worksOf_nodup b, fun x => by rw [atBoundary_engine]; exact hopen x, fun _ i => by rw [atBoundary_record]; exact .refl _⟩

theorem settled_work {p q : Part} (c : BoundaryContext) (b : BoundaryArgs) {w : BoundaryWork} {rest : List BoundaryWork}
    (h : p.Settled (w :: rest) q) : p.Settled rest (boundaryWork c b w q) := by
  obtain ⟨hnodup, hopen, hrecords⟩ := h
  obtain ⟨hw, hrest⟩ := List.nodup_cons.1 hnodup
  by_cases hrecordsWork : w = .records
  · subst hrecordsWork
    exact ⟨hrest, recordsBoundary_noSlotOpen hopen, fun hmem => absurd hmem hw⟩
  · have hcalm (i : RecordIx) (hshift : Shifted (p.record i) (q.record i)) := calm_work c b hrecordsWork (i := i) ⟨hshift, hopen⟩
    refine ⟨hrest, ?_, fun hmem i => (hcalm i (hrecords (List.mem_cons_of_mem w hmem) i)).1⟩
    exact (calm_work c b hrecordsWork (r := q.record 0) (i := 0) ⟨.refl _, hopen⟩).2

/-- With no auto-retirement the Record Table's work touches the records alone. -/
theorem recordsBoundary_noneRetires {q : Part} (h : q.NoneRetires) :
    recordsBoundary q = forEach allRecords (fun i => withRecord i counted) q := by
  have run (l : List RecordIx) (hnodup : l.Nodup) : ∀ p : Part, (∀ i ∈ l, retiresNow (p.record i) = false) →
      forEach l recordBoundary p = forEach l (fun i => withRecord i counted) p := by
    induction l with
    | nil => exact fun _ _ => rfl
    | cons i rest ih =>
      obtain ⟨hi, hrest⟩ := List.nodup_cons.1 hnodup
      intro p hp
      rw [forEach_cons, forEach_cons, recordBoundary_eq, if_neg (by simp [hp i List.mem_cons_self])]
      refine ih hrest _ fun j hj => ?_
      have hij : i ≠ j := fun h => hi (h ▸ hj)
      rw [record_withRecord, if_neg hij]
      exact hp j (List.mem_cons_of_mem i hj)
  exact run allRecords (List.nodup_finRange 48) q fun i _ => h i

theorem recordsBoundary_keeps {α : Type} {get : Part → α} (hget : ∀ i p, get (withRecord i counted p) = get p) {q : Part}
    (h : q.NoneRetires) : get (recordsBoundary q) = get q := by
  rw [recordsBoundary_noneRetires h]
  exact forEach_keeps fun i _ p => hget i p

theorem Part.Settled.noneRetires {p q : Part} {rest : List BoundaryWork} (h : p.Settled (.records :: rest) q)
    (hp : p.NoneRetires) : q.NoneRetires := fun i => by
  rw [(h.2.2 List.mem_cons_self i).retiresNow]
  exact hp i

/-- The hub record after the blocks that work after the Discipline Unit. -/
theorem hubBoundary_hub {p : Part} (b : BoundaryArgs) (hheld : p.held = false) (hopen : p.NoSlotOpen) (hretires : p.NoneRetires) :
    (hubBoundary b p).hub = (hubSecondEvent (beforeWork b .discipline p)).hub := by
  refine (hubBoundary_through b .discipline hheld (R := p.Settled)
    (S := fun rest q => p.Settled rest q ∧ q.hub = (hubSecondEvent (beforeWork b .discipline p)).hub) (settled_start b hopen)
    (fun v rest q _ _ h => settled_work _ b h) (fun rest h => ⟨settled_work p.boundaryContext b h, rfl⟩)
    (fun v rest q hv hstands ⟨h, hhub⟩ => ⟨settled_work _ b h, ?_⟩)).2.2.2
  rw [← hhub]
  cases v with
  | inputs => exact absurd hstands (by simp [(worksOf_order b).1])
  | discipline => exact absurd rfl hv
  | records => exact recordsBoundary_keeps (get := Part.hub) (fun _ _ => rfl) (h.noneRetires hretires)
  | ports =>
    exact ((Within.refl .portsAll q).portsBoundary_noSlotOpen h.2.1 Access.portsAll_port Access.portsAll_pair _ _).1.hub nofun
  | pairWait => exact (pairWaits_within _ q).hub nofun
  | sweep => exact (sweepBoundary_within q).hub nofun

/-! ## ACQUIRE and LOCKED by the window runs (R73, R79, R87) -/

theorem actOnTake_acquire_good {p : Part} {e a : Int} {scale : Option Int} (h : p.hub.state = .acquire)
    (hsmall : ¬ toQ p.hub.settings.stepThreshold < magnitude e) :
    actOnTake false (some { outcome := .good, value := some e, accuracy := some a, scale := scale }) p =
      acquireGood e a p := by
  have hcond : ¬ (toQ p.hub.settings.stepThreshold < magnitude e ∧ p.hub.stepPermission = true) := fun hc => hsmall hc.1
  simp only [actOnTake, h]
  exact if_neg hcond

theorem acquireGood_hub (e a : Int) (p : Part) :
    ∃ f y u, (setBound (boundFromSample a e) (loopUpdate acquireGains e p)).hub =
      { p.hub with integrator := f, correction := y, bound := u } := by
  rw [setBound_hub, loopUpdate_hub]
  exact ⟨_, _, _, rfl⟩

/-- The sixteenth in-window sample locks the hub (R73, R79). -/
theorem acquireGood_locks {e a : Int} {p : Part} (hin : magnitude e ≤ toQ p.hub.settings.lockWindow)
    (hrun : 16 ≤ p.hub.inWindow + 1) :
    ∃ f y u, (acquireGood e a p).hub =
      { p.hub with
        integrator := f, correction := y, bound := u, inWindow := p.hub.inWindow + 1, state := .locked
        grade := lockedGrade p.hub.selected, wasLocked := true, outOfWindow := 0, stepPermission := false } := by
  obtain ⟨f, y, u, hhub⟩ := acquireGood_hub e a p
  refine ⟨f, y, u, ?_⟩
  simp only [acquireGood, if_pos hin, if_pos hrun, enterLocked, withHub_hub, hhub]

/-- The 64th sample outside the window sends the hub back (R73). -/
theorem lockedGood_reacquires {e a : Int} {p : Part} (hout : toQ p.hub.settings.lockWindow < magnitude e)
    (hrun : 64 ≤ p.hub.outOfWindow + 1) :
    (lockedGood e a p).hub =
      { (lockedStep e a p).hub with state := .acquire, grade := .c, inWindow := 0, lineCount := none } := by
  rw [lockedGood_eq, if_pos hout, if_pos hrun]
  rfl

/-- Settles O26: the Discipline Unit's work moves the hub as its window run says, and the later blocks leave the hub record. -/
theorem lockIsEnteredAndLeftByTheWindowRuns : Obligations.LockIsEnteredAndLeftByTheWindowRuns := by
  refine ⟨fun s b q e a scale hheld hopen hretires hq hstate hmark htake hstep hin hrun => ?_,
    fun s b q e a scale hheld hopen hretires hq hstate hmark htake hout hrun => ?_⟩
  · have hhub := hubBoundary_hub b hheld hopen hretires
    rw [← hq] at hhub
    have htaken := taken_hub hmark
    have hevent : hubSecondEvent q = acquireGood e a (taken q) := by
      rw [hubSecondEvent_eq, hmark, htake]
      exact actOnTake_acquire_good (by rw [htaken]; exact hstate) (by rw [htaken]; exact Int.not_lt.2 hstep)
    obtain ⟨f, y, u, hlocked⟩ := acquireGood_locks (e := e) (a := a) (p := taken q) (by rw [htaken]; exact hin)
      (by rw [htaken]; exact hrun)
    rw [← hevent, htaken] at hlocked
    refine ⟨_, ?_, completes_of_work (c := .hubSecondBoundary b) rfl, rfl, ?_, ?_, ?_, ?_, ?_, ?_⟩
    · refine exec_of_work (test := locks) rfl hheld ?_
      rw [← hq]
      simp only [locks, hstate, boundaryWork, hlocked]
      rfl
    · exact (settle_hub _ _).trans hhub
    · exact (congrArg HubRecord.state ((settle_hub _ _).trans hhub)).trans (by rw [hlocked])
    · exact (congrArg HubRecord.wasLocked ((settle_hub _ _).trans hhub)).trans (by rw [hlocked])
    · exact (congrArg HubRecord.outOfWindow ((settle_hub _ _).trans hhub)).trans (by rw [hlocked])
    · exact (congrArg HubRecord.stepPermission ((settle_hub _ _).trans hhub)).trans (by rw [hlocked])
    · refine (congrArg HubRecord.grade ((settle_hub _ _).trans hhub)).trans ?_
      rw [hlocked]
      rfl
  · have hhub := hubBoundary_hub b hheld hopen hretires
    rw [← hq] at hhub
    have htaken := taken_hub hmark
    have hevent : hubSecondEvent q = lockedGood e a (taken q) := by
      rw [hubSecondEvent_eq, hmark, htake]
      exact actOnTake_locked_good false (by rw [htaken]; exact hstate)
    have hback := lockedGood_reacquires (e := e) (a := a) (p := taken q) (by rw [htaken]; exact hout)
      (by rw [htaken]; exact hrun)
    rw [← hevent] at hback
    have hpermission : (lockedStep e a (taken q)).hub.stepPermission = q.hub.stepPermission := by
      rw [lockedStep_hub, htaken]
    refine ⟨_, ?_, completes_of_work (c := .hubSecondBoundary b) rfl, rfl, ?_, ?_, ?_, ?_, ?_⟩
    · refine exec_of_work (test := reacquires) rfl hheld ?_
      rw [← hq]
      simp only [reacquires, hstate, boundaryWork, hback]
      rfl
    · exact (settle_hub _ _).trans hhub
    · exact (congrArg HubRecord.state ((settle_hub _ _).trans hhub)).trans (by rw [hback])
    · exact (congrArg HubRecord.grade ((settle_hub _ _).trans hhub)).trans (by rw [hback])
    · exact (congrArg HubRecord.inWindow ((settle_hub _ _).trans hhub)).trans (by rw [hback])
    · exact (congrArg HubRecord.stepPermission ((settle_hub _ _).trans hhub)).trans (by rw [hback]; exact hpermission)

end Sys2Proof.Machine

/-! SUPPORT. A pair whose ports do not fault through a boundary, and the return when its wait expires (R164). -/

namespace Sys2Proof.Machine

/-! ## A missing outcome at a boundary (R108, R114) -/

/-- A slot that ends as missing reaches no record, ends a RETIRING one, or is counted by a live one. -/
theorem recordOutcome_missing_cases (x : PortIx) (t : SlotTarget) (t1 t4 : Option Stamp) (q : Part) :
    recordOutcome x t t1 t4 .missing q = q ∨
      ((q.record t.record).generation = t.generation ∧ (q.record t.record).state = .retiring ∧ t.dismiss = true ∧
        3 ≤ (q.record t.record).dismissAttempts ∧
        recordOutcome x t t1 t4 .missing q = endRetired .unacknowledged t.record q) ∨
      (((q.record t.record).state = .pending ∨ (q.record t.record).state = .active ∨
          (q.record t.record).state = .silent) ∧
        recordOutcome x t t1 t4 .missing q = countMissing x t.record (measureMissing x t.record q)) := by
  by_cases hgeneration : (q.record t.record).generation = t.generation
  · cases hstate : (q.record t.record).state with
    | vacant => exact .inl (recordOutcome_lost t1 t4 .missing (.inr (.inl hstate)))
    | reserved => exact .inl (recordOutcome_lost t1 t4 .missing (.inr (.inr hstate)))
    | pending => exact .inr (.inr ⟨.inl rfl, recordOutcome_live _ _ _ hgeneration (.inl hstate)⟩)
    | active => exact .inr (.inr ⟨.inr (.inl rfl), recordOutcome_live _ _ _ hgeneration (.inr (.inl hstate))⟩)
    | silent => exact .inr (.inr ⟨.inr (.inr rfl), recordOutcome_live _ _ _ hgeneration (.inr (.inr hstate))⟩)
    | retiring =>
      have houtcome := missing_retiring (q := x) t1 t4 (o := .missing) (by simp) hgeneration hstate
      by_cases hthird : t.dismiss = true ∧ 3 ≤ (q.record t.record).dismissAttempts
      · rw [if_pos hthird] at houtcome
        exact .inr (.inl ⟨hgeneration, rfl, hthird.1, hthird.2, houtcome⟩)
      · rw [if_neg hthird] at houtcome
        exact .inl houtcome
  · exact .inl (recordOutcome_lost t1 t4 .missing (.inl hgeneration))

/-- What a missing outcome leaves of any record: it ends, or its place stays. -/
theorem recordOutcome_missing_record (x : PortIx) (t : SlotTarget) (t1 t4 : Option Stamp) (q : Part) (i : RecordIx) :
    (recordOutcome x t t1 t4 .missing q).record i = { generation := (q.record i).generation } ∨
      ∃ w h s te v l n seconds state, (state = .vacant ↔ (q.record i).state = .vacant) ∧
        (recordOutcome x t t1 t4 .missing q).record i =
          { q.record i with
            window := w, halfSpread := h, stale := s, te := te, teState := v, prevLink := l, silentCount := n
            silentSeconds := seconds, state := state } := by
  have same (r : ServiceRecord) : ∃ w h s te v l n seconds state, (state = .vacant ↔ r.state = .vacant) ∧ r =
      { r with
        window := w, halfSpread := h, stale := s, te := te, teState := v, prevLink := l, silentCount := n
        silentSeconds := seconds, state := state } := ⟨_, _, _, _, _, _, _, _, r.state, Iff.rfl, rfl⟩
  obtain hsame | ⟨_, _, _, _, hended⟩ | ⟨hlive, hcounted⟩ := recordOutcome_missing_cases x t t1 t4 q
  · rw [hsame]
    exact .inr (same _)
  · rw [hended]
    by_cases hi : i = t.record
    · rw [hi, endRetired_record]
      exact .inl rfl
    · rw [(endRetired_within _ _ q).records i hi]
      exact .inr (same _)
  · rw [hcounted]
    by_cases hi : i = t.record
    · obtain ⟨w, h, s, te, v, l, hmeasured⟩ := measureMissing_leaves x t.record q
      obtain ⟨n, seconds, state, hvacant, hcount⟩ := countMissing_leaves (q := x) (i := t.record)
        (p := measureMissing x t.record q) (by rw [hmeasured]; exact hlive)
      rw [hi, hcount, hmeasured]
      have hwas : (q.record t.record).state ≠ .vacant := (live_cases hlive).1
      exact .inr ⟨_, _, _, _, _, _, _, _, _, ⟨fun h => absurd h hvacant, fun h => absurd h hwas⟩, rfl⟩
    · rw [(missing_within x t.record q).records i hi]
      exact .inr (same _)

/-! ## A pair at rest (R160, R163, R164) -/

/-- The pair keeps its record, which sweeps nothing and awaits no port, and no frame was aborted on its ports. -/
structure Part.PairIdle (k : PairIx) (r : PairRecord) (q : Part) : Prop where
  pair    : q.pair k = r
  idle    : r.state = .normal ∨ r.state = .restoreWait
  aborted : ∀ x, pairOf x = k → (q.engine x).aborted = false

/-- Leave for the other pairs, and for every mark. -/
def PairLeave.others (k : PairIx) : PairLeave :=
  { pairs := fun j => j ≠ k, moves := fun j => j ≠ k, returns := fun j => j ≠ k, marks := fun _ => True
    clears := fun _ => True }

theorem PairLeave.others_pair {k j : PairIx} (h : j ≠ k) : (others k).Pair j := ⟨h, h, h⟩

theorem returnRecord_pair (k : PairIx) (i : RecordIx) (q : Part) (j : PairIx) : (returnRecord k i q).pair j = q.pair j := by
  unfold returnRecord
  split <;> rfl

theorem pairSteps_pairIdle (k : PairIx) (r : PairRecord) : PairSteps (.others k) (Part.PairIdle k r) where
  pair := fun j hj f q h => ⟨(pair_setPair_ne q hj _).trans h.pair, h.idle, h.aborted⟩
  move := fun _ _ _ _ _ _ h => ⟨h.pair, h.idle, h.aborted⟩
  block := fun _ _ _ _ _ h => ⟨h.pair, h.idle, h.aborted⟩
  returns := fun j _ i q _ h =>
    ⟨(returnRecord_pair j i q k).trans h.pair, h.idle, fun x hx => by rw [returnRecord_engine]; exact h.aborted x hx⟩
  unblock := fun _ _ _ _ _ h => ⟨h.pair, h.idle, h.aborted⟩
  mark := fun _ _ _ _ _ h => ⟨h.pair, h.idle, h.aborted⟩
  clear := fun _ _ _ _ _ h => ⟨h.pair, h.idle, h.aborted⟩

section Idle

variable {k : PairIx} {r : PairRecord} {p q : Part}

theorem Part.PairIdle.within {A : Access} (h : p.PairIdle k r) (hwithin : Within A p q) (hpair : ¬ A.pairs k)
    (hengines : ∀ x, ¬ A.engines x) : q.PairIdle k r :=
  ⟨(hwithin.pairs k hpair).trans h.pair, h.idle, fun x hx => by rw [hwithin.engines x (hengines x)]; exact h.aborted x hx⟩

theorem Part.PairIdle.withEngine (h : p.PairIdle k r) {x : PortIx} {f : Engine → Engine}
    (hf : (f (p.engine x)).aborted = (p.engine x).aborted) : (Machine.withEngine x f p).PairIdle k r := by
  refine ⟨h.pair, h.idle, fun y hy => ?_⟩
  by_cases hxy : x = y
  · subst hxy
    rw [Machine.withEngine, engine_setEngine_self, hf]
    exact h.aborted x hy
  · rw [Machine.withEngine, engine_setEngine_ne _ hxy]
    exact h.aborted y hy

theorem recordOutcome_within (x : PortIx) (t : SlotTarget) (t1 t4 : Option Stamp) (o : SlotOutcome) (q : Part) :
    Within (.ending t.record) q (recordOutcome x t t1 t4 o q) :=
  (Within.refl _ q).recordOutcome (Access.ending_record _) (Access.ending_returns _) rfl x t1 t4 o

theorem portSteps_pairIdle (x : PortIx) (k : PairIx) (r : PairRecord) : PortSteps x (Part.PairIdle k r) where
  ends := fun q h => endSlot_keeps (R := Part.PairIdle k r) (fun _ _ h => ⟨h.pair, h.idle, h.aborted⟩)
    (fun f q hf h => h.withEngine (hf _).1)
    (fun t t1 t4 q h => h.within (recordOutcome_within x t t1 t4 .missing q) nofun nofun) q h
  judges := fun q h => ⟨h.pair, h.idle, h.aborted⟩
  told := fun q h => ⟨h.pair, h.idle, h.aborted⟩
  counts := fun _ q h => ⟨h.pair, h.idle, h.aborted⟩
  begins := fun q h => ⟨h.pair, h.idle, fun y hy => by
    by_cases hxy : x = y
    · subst hxy
      rw [beginPortSecond, engine_setEngine_self]
    · rw [beginPortSecond, engine_setEngine_ne _ hxy]
      exact h.aborted y hy⟩

/-- A port whose frames were not aborted does not fault (R131). -/
theorem judged_of_not_aborted {r : PortRecord} {e : Engine} (h : e.aborted = false) (hline : r.line = .clean) :
    (r.judged (judgementOf r e)).line = .clean := by
  unfold judgementOf
  split
  · exact hline
  · rw [if_neg (by simp [h])]
    split
    · simp [PortRecord.judged, hline]
    · exact hline

/-- A port of a pair at rest: it does not fault, and its return to CLEAN moves nothing. -/
theorem workingClean_idle (h : p.PairIdle k r) : workingClean k p = p := by
  have hstate : (p.pair k).state = .normal ∨ (p.pair k).state = .restoreWait := by rw [h.pair]; exact h.idle
  obtain hs | hs := hstate <;> simp only [workingClean, hs]

theorem sweepPair_idle (h : p.PairIdle k r) : sweepPair k p = p := by
  have hstate : (p.pair k).state = .normal ∨ (p.pair k).state = .restoreWait := by rw [h.pair]; exact h.idle
  obtain hs | hs := hstate <;> simp only [sweepPair, hs]

variable {R : Part → Prop} (steps : PairSteps (.others k) R) (idle : ∀ q, R q → q.PairIdle k r)
include steps idle

theorem PairSteps.portBoundary_idle {x : PortIx} (ports : PortSteps x R) (l : List PortIx) (h : R q) :
    R (Machine.portBoundary l x q) := by
  refine ports.begins _ (ports.counts l _ ?_)
  have hended := ports.ends q h
  by_cases hx : pairOf x = k
  · generalize endSlot x q = q at hended
    unfold Machine.judgePort
    dsimp only
    split
    · next hclean hfault =>
      rw [withPort, port_setPort_self, judged_of_not_aborted ((idle q hended).aborted x hx) hclean] at hfault
      simp at hfault
    · have told := ports.told _ (ports.judges q hended)
      unfold Machine.portLeavesFault
      dsimp only
      rw [hx]
      have cleared := steps.clearFaulted (x := x) trivial told
      split
      · rw [workingClean_idle (idle _ cleared)]
        exact cleared
      · exact cleared
    · exact ports.judges q hended
    · exact ports.judges q hended
  · exact ports.judgePort (fun _ h => steps.portEntersFault (PairLeave.others_pair hx) trivial h)
      (fun _ h => steps.portLeavesFault (PairLeave.others_pair hx) trivial h) hended

theorem PairSteps.portsBoundary_idle (ports : ∀ x, PortSteps x R) (l m : List PortIx) (h : R q) :
    R (Machine.portsBoundary l m q) :=
  forEach_induct (R := R) _ (fun x _ h => steps.portBoundary_idle idle (ports x) l h) _ _ h

theorem PairSteps.sweepBoundary_idle (h : R q) : R (Machine.sweepBoundary q) := by
  refine steps.sweepMarks (fun _ _ _ _ => trivial) (forEach_induct (R := R) _ (fun j q h => ?_) _ _ h)
  by_cases hj : j = k
  · subst hj
    rw [sweepPair_idle (idle q h)]
    exact h
  · exact steps.sweepPair hj h

end Idle

/-- The works of a boundary but the wait counts leave a pair at rest, and what the others' steps leave. -/
theorem idle_work {k : PairIx} {r : PairRecord} {R : Part → Prop} (steps : PairSteps (.others k) R)
    (ports : ∀ x, PortSteps x R) (idle : ∀ q, R q → q.PairIdle k r) (c : BoundaryContext) (b : BoundaryArgs)
    {w : BoundaryWork} (hw : w ≠ .pairWait) {q : Part} (hinputs : w = .inputs → R q → R (inputsBoundary c.ended q))
    (hdiscipline : w = .discipline → R q → R (hubSecondEvent q)) (hrecords : w = .records → R q → R (recordsBoundary q))
    (h : R q) : R (boundaryWork c b w q) := by
  cases w with
  | inputs => exact hinputs rfl h
  | discipline => exact hdiscipline rfl h
  | records => exact hrecords rfl h
  | ports => exact steps.portsBoundary_idle idle ports _ _ h
  | pairWait => exact absurd rfl hw
  | sweep => exact steps.sweepBoundary_idle idle h

end Sys2Proof.Machine

/-! SUPPORT. The obligation on the return of a pair at the end of its wait (R164; log entry 3). -/

namespace Sys2Proof.Machine

theorem workingPort_ne_protectPort (j k : PairIx) : workingPort j ≠ protectPort k := by
  intro h
  have := congrArg Fin.val h
  simp only [workingPort, protectPort] at this
  omega

theorem protectPort_ne {j k : PairIx} (h : j ≠ k) : protectPort j ≠ protectPort k := by
  intro hp
  have := congrArg Fin.val hp
  simp only [protectPort] at this
  exact h (Fin.ext (by omega))

theorem workingPort_ne {j k : PairIx} (h : j ≠ k) : workingPort j ≠ workingPort k := by
  intro hp
  have := congrArg Fin.val hp
  simp only [workingPort] at this
  exact h (Fin.ext (by omega))

/-! ## The pairs that wait, one after another (R164) -/

/-- The wait of one pair among those that wait. -/
theorem pairWaits_at {k : PairIx} {l : List PairIx} (hnodup : l.Nodup) (hk : k ∈ l) {R S : Part → Prop}
    (before : ∀ j, j ≠ k → ∀ q, R q → R (pairWaitStep j q)) (work : ∀ q, R q → S (pairWaitStep k q))
    (after : ∀ j, j ≠ k → ∀ q, S q → S (pairWaitStep j q)) {q : Part} (h : R q) : S (pairWaits l q) := by
  obtain ⟨pre, post, rfl⟩ := List.append_of_mem hk
  rw [List.nodup_append, List.nodup_cons] at hnodup
  obtain ⟨_, ⟨hpost, _⟩, hpre⟩ := hnodup
  rw [pairWaits, forEach_append, forEach_cons]
  refine forEach_induct_mem (fun j hj q hs => after j (fun hjk => hpost (hjk ▸ hj)) q hs) (work _ ?_)
  exact forEach_induct_mem (fun j hj q hr => before j (fun hjk => hpre j hj k List.mem_cons_self hjk) q hr) h

theorem waitingPairs_nodup (p : Part) : p.waitingPairs.Nodup := (List.nodup_finRange 6).filter _

theorem mem_waitingPairs {p : Part} {k : PairIx} (h : (p.pair k).state = .restoreWait) : k ∈ p.waitingPairs :=
  List.mem_filter.2 ⟨List.mem_finRange k, by simp [h]⟩

/-- The wait that reaches the WTR returns the pair. -/
theorem pairWaitStep_expires {k : PairIx} {q : Part} (hstate : (q.pair k).state = .restoreWait)
    (hwtr : (q.pair k).wtr ≤ (q.pair k).waitCount + 1) :
    pairWaitStep k q = returnPair k (withPair k (fun r => { r with waitCount := r.waitCount + 1 }) q) := by
  have hdue : ((withPair k (fun r => { r with waitCount := r.waitCount + 1 }) q).pair k).wtr ≤
      (((withPair k (fun r => { r with waitCount := r.waitCount + 1 }) q).pair k).waitCount : Int) := by
    rw [withPair, pair_setPair_self]
    exact_mod_cast hwtr
  rw [pairWaitStep, if_pos hstate]
  exact if_pos hdue

/-! ## No record stays switched -/

/-- No record of the pair is switched. -/
def Part.NoneSwitched (k : PairIx) (q : Part) : Prop := ∀ i, (q.record i).switched k = false

theorem switched_eq_false {r : ServiceRecord} {k : PairIx} (h : r.currentPort ≠ protectPort k) : r.switched k = false := by
  rw [Bool.eq_false_iff]
  exact fun hs => h ((switched_iff r k).1 hs).2.2

theorem pairSteps_noneSwitched (k : PairIx) : PairSteps (.others k) (Part.NoneSwitched k) where
  pair := fun _ _ _ _ h => h
  move := fun j hj i q _ _ h n => by
    rw [moveRecord_record]
    split
    · exact switched_eq_false (protectPort_ne hj)
    · exact h n
  block := fun _ _ i q _ h n => by
    rw [record_withRecord]
    split
    · exact h i
    · exact h n
  returns := fun j _ i q _ h n => by
    rw [returnRecord_record]
    split
    · unfold returnedIf
      split
      · refine switched_eq_false ?_
        have hport : (returned j (q.record n)).currentPort = workingPort j := by
          unfold returned
          split <;> rfl
        rw [hport]
        exact workingPort_ne_protectPort j k
      · exact h n
    · exact h n
  unblock := fun _ _ i q _ h n => by
    rw [record_withRecord]
    split
    · exact h i
    · exact h n
  mark := fun _ _ _ _ _ h => h
  clear := fun _ _ _ _ _ h => h

theorem switched_of_place {r r' : ServiceRecord} {k : PairIx} (h : r.switched k = false) (hhome : r'.homePort = r.homePort)
    (hport : r'.currentPort = r.currentPort) (hvacant : r.state = .vacant → r'.state = .vacant) : r'.switched k = false := by
  rw [Bool.eq_false_iff] at h ⊢
  intro hs
  obtain ⟨hstate, h1, h2⟩ := (switched_iff _ _).1 hs
  exact h ((switched_iff _ _).2 ⟨fun hv => hstate (hvacant hv), hhome ▸ h1, hport ▸ h2⟩)

theorem counted_place (r : ServiceRecord) :
    (counted r).homePort = r.homePort ∧ (counted r).currentPort = r.currentPort ∧ (counted r).state = r.state := by
  have hport : (counted r).currentPort = r.currentPort := by
    unfold counted applyStaged
    dsimp only
    split <;> split <;> rfl
  obtain ⟨_, _, _, _, hstate, hhome, _⟩ := counted_fields r
  exact ⟨hhome, hport, hstate⟩

theorem noneSwitched_recordsBoundary {k : PairIx} {q : Part} (h : q.NoneSwitched k) : (recordsBoundary q).NoneSwitched k := by
  intro i
  rw [recordsBoundary_record]
  split
  · rfl
  · obtain ⟨hhome, hport, hstate⟩ := counted_place (q.record i)
    exact switched_of_place (h i) hhome hport fun hv => hstate.trans hv

theorem noneSwitched_within {A : Access} {k : PairIx} {p q : Part} (h : p.NoneSwitched k) (hwithin : Within A p q)
    (hA : ∀ i, ¬ A.records i) : q.NoneSwitched k := fun i => by rw [hwithin.records i (hA i)]; exact h i

theorem noneSwitched_outcome {k : PairIx} {q : Part} (h : q.NoneSwitched k) (x : PortIx) (t : SlotTarget)
    (t1 t4 : Option Stamp) : (recordOutcome x t t1 t4 .missing q).NoneSwitched k := by
  intro i
  obtain hended | ⟨_, _, _, _, _, _, _, _, state, hvacant, hcounted⟩ := recordOutcome_missing_record x t t1 t4 q i
  · rw [hended]
    rfl
  · rw [hcounted]
    exact switched_of_place (h i) rfl rfl hvacant.2

theorem portSteps_noneSwitched (x : PortIx) (k : PairIx) : PortSteps x (Part.NoneSwitched k) :=
  portSteps_of (fun _ _ h => h) (fun _ _ h => h) (fun _ h => h) fun t t1 t4 _ h => noneSwitched_outcome h x t t1 t4

theorem PortSteps.and {x : PortIx} {R S : Part → Prop} (h : PortSteps x R) (g : PortSteps x S) :
    PortSteps x (fun q => R q ∧ S q) where
  ends := fun q ⟨hr, hs⟩ => ⟨h.ends q hr, g.ends q hs⟩
  judges := fun q ⟨hr, hs⟩ => ⟨h.judges q hr, g.judges q hs⟩
  told := fun q ⟨hr, hs⟩ => ⟨h.told q hr, g.told q hs⟩
  counts := fun l q ⟨hr, hs⟩ => ⟨h.counts l q hr, g.counts l q hs⟩
  begins := fun q ⟨hr, hs⟩ => ⟨h.begins q hr, g.begins q hs⟩

theorem pairIdle_recordsBoundary {k : PairIx} {r : PairRecord} {q : Part} (h : q.PairIdle k r) :
    (recordsBoundary q).PairIdle k r :=
  forEach_induct (R := Part.PairIdle k r) _ (fun i p h => h.within (recordBoundary_within i p) nofun nofun) _ _ h

/-- A pair at rest through the works but the wait counts. -/
theorem pairIdle_work {k : PairIx} {r : PairRecord} (c : BoundaryContext) (b : BoundaryArgs) {w : BoundaryWork}
    (hw : w ≠ .pairWait) {q : Part} (h : q.PairIdle k r) : (boundaryWork c b w q).PairIdle k r :=
  idle_work (pairSteps_pairIdle k r) (fun x => portSteps_pairIdle x k r) (fun _ h => h) c b hw
    (fun _ h => h.within (inputsBoundary_within c.ended q) nofun nofun)
    (fun _ h => h.within (hubSecondEvent_within q) nofun nofun) (fun _ h => pairIdle_recordsBoundary h) h

/-- A pair at rest with no record switched, through the works but the wait counts. -/
theorem pairRestored_work {k : PairIx} {r : PairRecord} (c : BoundaryContext) (b : BoundaryArgs) {w : BoundaryWork}
    (hw : w ≠ .pairWait) {q : Part} (h : q.PairIdle k r ∧ q.NoneSwitched k) :
    (boundaryWork c b w q).PairIdle k r ∧ (boundaryWork c b w q).NoneSwitched k :=
  idle_work (R := fun q => q.PairIdle k r ∧ q.NoneSwitched k) ((pairSteps_pairIdle k r).and (pairSteps_noneSwitched k))
    (fun x => (portSteps_pairIdle x k r).and (portSteps_noneSwitched x k)) (fun _ h => h.1) c b hw
    (fun _ ⟨hidle, hnone⟩ => ⟨hidle.within (inputsBoundary_within c.ended q) nofun nofun,
      noneSwitched_within hnone (inputsBoundary_within c.ended q) nofun⟩)
    (fun _ ⟨hidle, hnone⟩ => ⟨hidle.within (hubSecondEvent_within q) nofun nofun,
      noneSwitched_within hnone (hubSecondEvent_within q) nofun⟩)
    (fun _ ⟨hidle, hnone⟩ => ⟨pairIdle_recordsBoundary hidle, noneSwitched_recordsBoundary hnone⟩) h

/-- The return of a pair whose wait expires, and the pair at rest after it. -/
theorem pairIdle_expires {k : PairIx} {r : PairRecord} {q : Part} (h : q.PairIdle k r) (hstate : r.state = .restoreWait)
    (hwtr : r.wtr ≤ r.waitCount + 1) :
    (pairWaitStep k q).PairIdle k { r with state := .normal, waitCount := 0 } ∧ (pairWaitStep k q).NoneSwitched k := by
  rw [pairWaitStep_expires (by rw [h.pair]; exact hstate) (by rw [h.pair]; exact hwtr)]
  refine ⟨⟨?_, .inl rfl, fun x hx => ?_⟩, fun i => returnPair_none_switched k i _⟩
  · rw [returnPair_pair, withPair, pair_setPair_self, h.pair]
  · rw [(returnPair_within k _).engines x nofun]
    exact h.aborted x hx

/-! ## A record that stands switched until the return -/

/-- A record of the pair stands on a port, in the state given. -/
def Part.Stands (i : RecordIx) (k : PairIx) (x : PortIx) (state : RecordState) (due : Prop) (q : Part) : Prop :=
  (q.record i).homePort = workingPort k ∧ (q.record i).currentPort = x ∧ (q.record i).state = state ∧
    (due → retiresNow (q.record i) = false)

theorem pairSteps_stands (i : RecordIx) (k : PairIx) (x : PortIx) (state : RecordState) (due : Prop) :
    PairSteps (.others k) (Part.Stands i k x state due) where
  pair := fun _ _ _ _ h => h
  move := fun j hj n q hc _ h => by
    have hn : n ≠ i := by
      rintro rfl
      exact workingPort_ne hj (((candidate_iff _ _).1 hc).2.1.symm.trans h.1)
    rw [Part.Stands, moveRecord_record, if_neg hn]
    exact h
  block := fun j hj n q hc h => by
    have hn : n ≠ i := by
      rintro rfl
      exact workingPort_ne hj (((candidate_iff _ _).1 hc).2.1.symm.trans h.1)
    rw [Part.Stands, record_withRecord, if_neg hn]
    exact h
  returns := fun j hj n q hs h => by
    have hn : n ≠ i := by
      rintro rfl
      exact workingPort_ne hj (((switched_iff _ _).1 hs).2.1.symm.trans h.1)
    rw [Part.Stands, returnRecord_record, if_neg hn]
    exact h
  unblock := fun _ _ n q _ h => by
    rw [Part.Stands, record_withRecord]
    split
    · next hn => subst hn; exact h
    · exact h
  mark := fun _ _ _ _ _ h => h
  clear := fun _ _ _ _ _ h => h

theorem Part.Stands.same {i : RecordIx} {k : PairIx} {x : PortIx} {state : RecordState} {due : Prop} {p q : Part}
    (h : p.Stands i k x state due) (hrecord : q.record i = p.record i) : q.Stands i k x state due := by
  rw [Part.Stands, hrecord]
  exact h

/-- The pair at rest, and the record that stands, with the records' work due as the list says. -/
def Part.Standing (i : RecordIx) (k : PairIx) (x : PortIx) (state : RecordState) (r : PairRecord) (rest : List BoundaryWork)
    (q : Part) : Prop :=
  rest.Nodup ∧ q.PairIdle k r ∧ q.Stands i k x state (.records ∈ rest) ∧ q.NoSlotOpen

theorem standing_work {i : RecordIx} {k : PairIx} {x : PortIx} {state : RecordState} {r : PairRecord} (c : BoundaryContext)
    (b : BoundaryArgs) {w : BoundaryWork} (hw : w ≠ .pairWait) {rest : List BoundaryWork} {q : Part}
    (h : q.Standing i k x state r (w :: rest)) : (boundaryWork c b w q).Standing i k x state r rest := by
  obtain ⟨hnodup, hidle, ⟨hhome, hport, hstate, hdue⟩, hopen⟩ := h
  obtain ⟨hwrest, hrest⟩ := List.nodup_cons.1 hnodup
  have hidle' := pairIdle_work c b hw hidle
  by_cases hrecords : w = .records
  · subst hrecords
    refine ⟨hrest, hidle', ?_, recordsBoundary_noSlotOpen hopen⟩
    obtain ⟨chome, cport, cstate⟩ := counted_place (q.record i)
    rw [Part.Stands, boundaryWork, recordsBoundary_record, if_neg (by simp [hdue List.mem_cons_self])]
    exact ⟨chome.trans hhome, cport.trans hport, cstate.trans hstate, fun hmem => absurd hmem hwrest⟩
  · have hstands : q.Stands i k x state (.records ∈ rest) :=
      ⟨hhome, hport, hstate, fun hmem => hdue (List.mem_cons_of_mem w hmem)⟩
    have hsteps := ((pairSteps_pairIdle k r).and ((pairSteps_stands i k x state (.records ∈ rest)).and (pairSteps_noSlotOpen _)))
    have hdone := idle_work (R := fun q => q.PairIdle k r ∧ q.Stands i k x state (.records ∈ rest) ∧ q.NoSlotOpen) hsteps
      (fun y => (portSteps_pairIdle y k r).and (portSteps_untargeted y fun _ _ hsame h => h.same (hsame i)))
      (fun _ h => h.1) c b hw
      (fun _ ⟨hi, hs, ho⟩ => ⟨hi.within (inputsBoundary_within c.ended q) nofun nofun,
        hs.same ((inputsBoundary_within c.ended q).records i nofun), (inputsBoundary_within c.ended q).noSlotOpen nofun ho⟩)
      (fun _ ⟨hi, hs, ho⟩ => ⟨hi.within (hubSecondEvent_within q) nofun nofun,
        hs.same ((hubSecondEvent_within q).records i nofun), (hubSecondEvent_within q).noSlotOpen nofun ho⟩)
      (fun hr => absurd hr hrecords) ⟨hidle, hstands, hopen⟩
    exact ⟨hrest, hdone⟩

/-- The return brings a switched record to the working port (R165). -/
theorem stands_returns {i : RecordIx} {k : PairIx} {state : RecordState} {r : PairRecord} {due : Prop} {q : Part}
    (hvacant : state ≠ .vacant) (hidle : q.PairIdle k r) (hstate : r.state = .restoreWait) (hwtr : r.wtr ≤ r.waitCount + 1)
    (h : q.Stands i k (protectPort k) state due) : (pairWaitStep k q).Stands i k (workingPort k) state due := by
  obtain ⟨hhome, hport, hsame, hdue⟩ := h
  have hswitched : ((withPair k (fun r => { r with waitCount := r.waitCount + 1 }) q).record i).switched k = true :=
    (switched_iff _ _).2 ⟨fun hv => hvacant (hsame.symm.trans hv), hhome, hport⟩
  rw [pairWaitStep_expires (by rw [hidle.pair]; exact hstate) (by rw [hidle.pair]; exact hwtr), Part.Stands,
    returnPair_switched hswitched]
  have hreturned : (returned k (q.record i)).currentPort = workingPort k := by
    unfold returned
    split <;> rfl
  have hshift := shifted_returned k (q.record i)
  refine ⟨(returned_homePort k (q.record i)).trans hhome, hreturned, ?_, fun hd => (hshift.retiresNow).trans (hdue hd)⟩
  obtain ⟨_, _, _, _, _, _, hrecord⟩ := hshift
  exact (congrArg ServiceRecord.state hrecord).trans hsame

theorem pairWaitStep_noSlotOpen (k : PairIx) {q : Part} (h : q.NoSlotOpen) : (pairWaitStep k q).NoSlotOpen :=
  (pairSteps_noSlotOpen .all).pairWaitStep (PairLeave.all_pair k) h

/-- Settles O48: the pair rests until its wait expires, is returned there, and rests after it. -/
theorem pairReturnsWhenItsWaitExpires : Obligations.PairReturnsWhenItsWaitExpires := by
  intro s b k hheld hstate hwtr hworking hprotect
  have haborted (x : PortIx) (hx : pairOf x = k) : (s.part.engine x).aborted = false := by
    obtain rfl | rfl : x = workingPort k ∨ x = protectPort k := by
      have hval := congrArg Fin.val hx
      simp only [pairOf] at hval
      obtain h | h := Nat.mod_two_eq_zero_or_one x.val
      · exact .inl (Fin.ext (by simp only [workingPort]; omega))
      · exact .inr (Fin.ext (by simp only [protectPort]; omega))
    · exact hworking
    · exact hprotect
  have hstart : (atBoundary b s.part).PairIdle k (s.part.pair k) :=
    ⟨atBoundary_pair b s.part k, .inr hstate, fun x hx => by rw [atBoundary_engine]; exact haborted x hx⟩
  have hmem : k ∈ s.part.boundaryContext.waiting := mem_waitingPairs hstate
  have hnodup : s.part.boundaryContext.waiting.Nodup := waitingPairs_nodup s.part
  obtain ⟨hbefore, ⟨hdone, _⟩, hafter, hnone⟩ := hubBoundary_at b .pairWait hheld
    (R := Part.PairIdle k (s.part.pair k))
    (S := fun q => q.PairIdle k { s.part.pair k with state := .normal, waitCount := 0 } ∧ q.NoneSwitched k) hstart
    (fun v hv _ q h => pairIdle_work _ b hv h)
    (fun q h => pairWaits_at hnodup hmem (R := Part.PairIdle k (s.part.pair k))
      (S := fun q => q.PairIdle k { s.part.pair k with state := .normal, waitCount := 0 } ∧ q.NoneSwitched k)
      (fun j hj q h => (pairSteps_pairIdle k _).pairWaitStep (PairLeave.others_pair hj) h)
      (fun q h => pairIdle_expires h hstate hwtr)
      (fun j hj q h => ((pairSteps_pairIdle k _).and (pairSteps_noneSwitched k)).pairWaitStep (PairLeave.others_pair hj) h) h)
    (fun v hv _ q h => pairRestored_work _ b hv h)
  refine ⟨_, ?_, completes_of_work (c := .hubSecondBoundary b) rfl, rfl, ?_, ?_, fun hopen i hswitched hstays => ?_⟩
  · refine exec_of_work (test := waitExpires k) rfl hheld ?_
    rw [waitExpires, hbefore.pair, hdone.pair, hstate]
    rfl
  · rw [settle_pair]
    exact hafter.pair
  · intro i
    rw [settle_record]
    exact hnone i
  · obtain ⟨hvacant, hhome, hport⟩ := (switched_iff _ _).1 hswitched
    obtain ⟨_, _, _, _, ⟨_, hcurrent, hfinal, _⟩, _⟩ := hubBoundary_through b .pairWait hheld
      (R := Part.Standing i k (protectPort k) (s.part.record i).state (s.part.pair k))
      (S := Part.Standing i k (workingPort k) (s.part.record i).state
        { s.part.pair k with state := .normal, waitCount := 0 })
      ⟨worksOf_nodup b, hstart, by rw [Part.Stands, atBoundary_record]; exact ⟨hhome, hport, rfl, fun _ => hstays⟩,
        fun x => by rw [atBoundary_engine]; exact hopen x⟩
      (fun v rest q hv _ h => standing_work _ b hv h)
      (fun rest ⟨hrest, hidle, hstands, hquiet⟩ =>
        ⟨(List.nodup_cons.1 hrest).2,
          pairWaits_at hnodup hmem
            (R := fun q => q.PairIdle k (s.part.pair k) ∧
              q.Stands i k (protectPort k) (s.part.record i).state (.records ∈ rest) ∧ q.NoSlotOpen)
            (S := fun q => q.PairIdle k { s.part.pair k with state := .normal, waitCount := 0 } ∧
              q.Stands i k (workingPort k) (s.part.record i).state (.records ∈ rest) ∧ q.NoSlotOpen)
            (fun j hj q h => ((pairSteps_pairIdle k _).and ((pairSteps_stands i k _ _ _).and
              (pairSteps_noSlotOpen _))).pairWaitStep (PairLeave.others_pair hj) h)
            (fun q ⟨hidle, hstands, hquiet⟩ => ⟨(pairIdle_expires hidle hstate hwtr).1,
              stands_returns hvacant hidle hstate hwtr hstands, (pairWaitStep_noSlotOpen k) hquiet⟩)
            (fun j hj q h => ((pairSteps_pairIdle k _).and ((pairSteps_stands i k _ _ _).and
              (pairSteps_noSlotOpen _))).pairWaitStep (PairLeave.others_pair hj) h)
            ⟨hidle, ⟨hstands.1, hstands.2.1, hstands.2.2.1, fun hmem => hstands.2.2.2 (List.mem_cons_of_mem _ hmem)⟩,
              hquiet⟩⟩)
      (fun v rest q hv _ h => standing_work _ b hv h)
    rw [settle_record]
    exact ⟨hcurrent, hfinal⟩

end Sys2Proof.Machine

/-! SUPPORT. One port among the ports at a boundary, parking, and the EPOCH of the second that begins (R123, R136; log entries 3
and 4). -/

namespace Sys2Proof.Machine

/-! ## The order of the ports -/

/-- The order with the ports in it so far. -/
theorem portsFold (l : List PortIx) : ∀ seen : List PortIx, seen.Nodup →
    (l.foldl (fun seen q => if q ∈ seen then seen else seen ++ [q]) seen).Nodup ∧
      ∀ x, x ∈ l.foldl (fun seen q => if q ∈ seen then seen else seen ++ [q]) seen ↔ x ∈ seen ∨ x ∈ l := by
  induction l with
  | nil => exact fun seen h => ⟨h, fun x => by simp⟩
  | cons q rest ih =>
    intro seen hnodup
    rw [List.foldl_cons]
    by_cases hq : q ∈ seen
    · rw [if_pos hq]
      obtain ⟨hdone, hmem⟩ := ih seen hnodup
      refine ⟨hdone, fun x => (hmem x).trans ⟨fun h => h.imp_right (List.mem_cons_of_mem q), ?_⟩⟩
      rintro (h | h)
      · exact .inl h
      · obtain rfl | h := List.mem_cons.1 h
        · exact .inl hq
        · exact .inr h
    · rw [if_neg hq]
      obtain ⟨hdone, hmem⟩ := ih (seen ++ [q]) (List.nodup_append.2 ⟨hnodup, List.nodup_singleton q, by
        intro a ha b hb hab
        rw [List.mem_singleton] at hb
        exact hq (hb ▸ hab ▸ ha)⟩)
      refine ⟨hdone, fun x => (hmem x).trans ?_⟩
      rw [List.mem_append, List.mem_singleton, List.mem_cons, or_assoc]

theorem portsOf_nodup (b : BoundaryArgs) : (portsOf b).Nodup := (portsFold _ [] List.nodup_nil).1

theorem mem_portsOf (b : BoundaryArgs) (x : PortIx) : x ∈ portsOf b :=
  ((portsFold _ [] List.nodup_nil).2 x).2 (.inr (List.mem_append_right _ (List.mem_finRange x)))

/-- The boundary of one port among the ports. -/
theorem portsBoundary_at {x : PortIx} {l m : List PortIx} (hnodup : m.Nodup) (hx : x ∈ m) {R S : Part → Prop}
    (before : ∀ y, y ≠ x → ∀ q, R q → R (portBoundary l y q)) (work : ∀ q, R q → S (portBoundary l x q))
    (after : ∀ y, y ≠ x → ∀ q, S q → S (portBoundary l y q)) {q : Part} (h : R q) : S (portsBoundary l m q) := by
  obtain ⟨pre, post, rfl⟩ := List.append_of_mem hx
  rw [List.nodup_append, List.nodup_cons] at hnodup
  obtain ⟨_, ⟨hpost, _⟩, hpre⟩ := hnodup
  rw [portsBoundary, forEach_append, forEach_cons]
  refine forEach_induct_mem (fun y hy q hs => after y (fun hyx => hpost (hyx ▸ hy)) q hs) (work _ ?_)
  exact forEach_induct_mem (fun y hy q hr => before y (fun hyx => hpre y hy x List.mem_cons_self hyx) q hr) h

theorem pairOf_workingPort (k : PairIx) : pairOf (workingPort k) = k := by
  refine Fin.ext ?_
  simp only [pairOf, workingPort]
  omega

theorem pairOf_protectPort (k : PairIx) : pairOf (protectPort k) = k := by
  refine Fin.ext ?_
  simp only [pairOf, protectPort]
  omega

/-! ## A port that no record is near (R136) -/

/-- No record has the pair of a port for its home or its place. -/
def Part.Apart (x : PortIx) (q : Part) : Prop :=
  ∀ i, (q.record i).state ≠ .vacant →
    pairOf (q.record i).homePort ≠ pairOf x ∧ pairOf (q.record i).currentPort ≠ pairOf x

/-- A port that no record is near has a record and an engine that nothing has touched. -/
structure Part.Lonely (x : PortIx) (r : PortRecord) (e : Engine → Prop) (q : Part) : Prop where
  apart  : q.Apart x
  port   : q.port x = r
  engine : e (q.engine x)

section Lonely

variable {x : PortIx} {r : PortRecord} {e : Engine → Prop} {p q : Part}

theorem Part.Apart.set (h : q.Apart x) {i : RecordIx} {s : ServiceRecord}
    (hs : s.state ≠ .vacant → pairOf s.homePort ≠ pairOf x ∧ pairOf s.currentPort ≠ pairOf x) :
    (q.setRecord i s).Apart x := by
  intro j hj
  by_cases hij : i = j
  · subst hij
    rw [record_setRecord_self] at hj ⊢
    exact hs hj
  · rw [record_setRecord_ne _ hij] at hj ⊢
    exact h j hj

theorem Part.Lonely.within {A : Access} (h : p.Lonely x r e) (hwithin : Within A p q) (hport : ¬ A.ports x)
    (hengine : ¬ A.engines x) (hapart : q.Apart x) : q.Lonely x r e :=
  ⟨hapart, (hwithin.ports x hport).trans h.port, by rw [hwithin.engines x hengine]; exact h.engine⟩

theorem Part.Apart.within {A : Access} (h : p.Apart x) (hwithin : Within A p q) (hA : ∀ i, ¬ A.records i) : q.Apart x :=
  fun i => by rw [hwithin.records i (hA i)]; exact h i

theorem pairSteps_lonely (x : PortIx) (r : PortRecord) (e : Engine → Prop) : PairSteps .all (Part.Lonely x r e) where
  pair := fun _ _ _ _ h => ⟨h.apart, h.port, h.engine⟩
  move := fun k _ i q hc _ h => by
    obtain ⟨hvacant, hhome, _⟩ := (candidate_iff _ _).1 hc
    have hk : k ≠ pairOf x := by
      rintro rfl
      exact (h.apart i hvacant).1 (by rw [hhome, pairOf_workingPort])
    have hport : protectPort k ≠ x := by
      rintro rfl
      exact hk (pairOf_protectPort k).symm
    refine ⟨fun j hj => ?_, (port_setPort_ne _ hport _).trans h.port, h.engine⟩
    rw [moveRecord_record] at hj ⊢
    split
    · next hij =>
      refine ⟨(h.apart i hvacant).1, ?_⟩
      change pairOf (protectPort k) ≠ pairOf x
      rwa [pairOf_protectPort]
    · next hij =>
      rw [if_neg hij] at hj
      exact h.apart j hj
  block := fun _ _ i q _ h => ⟨h.apart.set (h.apart i), h.port, h.engine⟩
  returns := fun k _ i q hs h => by
    obtain ⟨hvacant, hhome, _⟩ := (switched_iff _ _).1 hs
    have hk : k ≠ pairOf x := by
      rintro rfl
      exact (h.apart i hvacant).1 (by rw [hhome, pairOf_workingPort])
    have hreturned : (returned k (q.record i)).currentPort = workingPort k := by
      unfold returned
      split <;> rfl
    rw [returnRecord, if_pos hs]
    refine ⟨Part.Apart.set (q := q) h.apart fun _ => ⟨?_, ?_⟩, h.port, h.engine⟩
    · rw [returned_homePort]
      exact (h.apart i hvacant).1
    · rw [hreturned, pairOf_workingPort]
      exact hk
  unblock := fun _ _ i q _ h => ⟨h.apart.set (h.apart i), h.port, h.engine⟩
  mark := fun _ _ _ _ _ h => ⟨h.apart, h.port, h.engine⟩
  clear := fun _ _ _ _ _ h => ⟨h.apart, h.port, h.engine⟩

theorem apart_outcome (h : q.Apart x) (y : PortIx) (t : SlotTarget) (t1 t4 : Option Stamp) :
    (recordOutcome y t t1 t4 .missing q).Apart x := by
  intro i hi
  obtain hended | ⟨_, _, _, _, _, _, _, _, state, hvacant, hcounted⟩ := recordOutcome_missing_record y t t1 t4 q i
  · rw [hended] at hi
    exact absurd rfl hi
  · rw [hcounted] at hi ⊢
    exact h i fun hv => hi (hvacant.2 hv)

theorem apart_recordsBoundary (h : q.Apart x) : (recordsBoundary q).Apart x := by
  intro i hi
  obtain ⟨hhome, hport, hstate⟩ := counted_place (q.record i)
  rw [recordsBoundary_record] at hi ⊢
  by_cases hretires : retiresNow (q.record i) = true
  · rw [if_pos hretires] at hi
    exact absurd rfl hi
  · rw [if_neg hretires] at hi ⊢
    rw [hhome, hport]
    exact h i (hstate ▸ hi)

theorem portSteps_lonely {y : PortIx} (hy : y ≠ x) : PortSteps y (Part.Lonely x r e) :=
  portSteps_of (fun _ q h => ⟨h.apart, (port_setPort_ne q hy _).trans h.port, h.engine⟩)
    (fun _ q h => ⟨h.apart, h.port, by rw [engine_setEngine_ne _ hy]; exact h.engine⟩)
    (fun _ h => ⟨h.apart, h.port, h.engine⟩)
    fun t t1 t4 q h => h.within (recordOutcome_within y t t1 t4 .missing q) nofun nofun (apart_outcome h.apart y t t1 t4)

theorem lonely_portBoundary {y : PortIx} (hy : y ≠ x) (l : List PortIx) (h : q.Lonely x r e) :
    (portBoundary l y q).Lonely x r e :=
  (portSteps_lonely hy).portBoundary
    (fun _ h => (pairSteps_lonely x r e).portEntersFault (PairLeave.all_pair _) trivial h)
    (fun _ h => (pairSteps_lonely x r e).portLeavesFault (PairLeave.all_pair _) trivial h) l h

theorem lonely_recordsBoundary (h : q.Lonely x r e) : (recordsBoundary q).Lonely x r e := by
  have hkept : (recordsBoundary q).port x = q.port x ∧ (recordsBoundary q).engine x = q.engine x :=
    ⟨forEach_keeps (get := fun q => q.port x) fun i _ q => (recordBoundary_within i q).ports x nofun,
      forEach_keeps (get := fun q => q.engine x) fun i _ q => (recordBoundary_within i q).engines x nofun⟩
  exact ⟨apart_recordsBoundary h.apart, hkept.1.trans h.port, by rw [hkept.2]; exact h.engine⟩

/-- The works of a boundary but the ports' leave a port that no record is near. -/
theorem lonely_work (c : BoundaryContext) (b : BoundaryArgs) {w : BoundaryWork} (hw : w ≠ .ports) (h : q.Lonely x r e) :
    (boundaryWork c b w q).Lonely x r e := by
  cases w with
  | inputs =>
    exact h.within (inputsBoundary_within c.ended q) nofun nofun (h.apart.within (inputsBoundary_within c.ended q) nofun)
  | discipline => exact h.within (hubSecondEvent_within q) nofun nofun (h.apart.within (hubSecondEvent_within q) nofun)
  | records => exact lonely_recordsBoundary h
  | ports => exact absurd rfl hw
  | pairWait => exact (pairSteps_lonely x r e).pairWaits (fun k _ => PairLeave.all_pair k) h
  | sweep => exact (pairSteps_lonely x r e).sweepBoundary (fun _ => trivial) (fun _ _ _ _ => trivial) h

/-- With no record near, a port is not bound. -/
theorem Part.Apart.not_counts (h : q.Apart x) (i : RecordIx) : (q.record i).counts x = false := by
  rw [Bool.eq_false_iff]
  intro hcounts
  obtain ⟨hvacant, hhome | hport⟩ := (counts_iff _ _).1 hcounts
  · exact (h i hvacant).1 (by rw [hhome])
  · exact (h i hvacant).2 (by rw [hport])

theorem Part.Apart.not_bound (h : q.Apart x) : q.portBound x = false := by
  rw [Part.portBound, List.any_eq_false]
  exact fun i _ => by simp [h.not_counts i]

theorem Part.Apart.not_boundBefore (h : q.Apart x) : x ∉ q.boundBefore := by
  intro hmem
  obtain ⟨_, hany⟩ := List.mem_filter.1 hmem
  obtain ⟨i, _, hi⟩ := List.any_eq_true.1 hany
  rw [h.not_counts i, Bool.false_and] at hi
  simp at hi

/-- A RUNNING, CLEAN port whose frames were not aborted keeps its line state at the judgement, and its other counts. -/
theorem judged_clean {s : PortRecord} {a : Engine} (haborted : a.aborted = false) (hline : s.line = .clean) :
    ∃ n, s.judged (judgementOf s a) = { s with failRun := n } := by
  unfold judgementOf
  split
  · exact ⟨s.failRun, rfl⟩
  · rw [if_neg (by simp [haborted])]
    split
    · simp only [PortRecord.judged, hline]
      exact ⟨0, rfl⟩
    · exact ⟨s.failRun, rfl⟩

theorem judgePort_clean {y : PortIx} (haborted : (q.engine y).aborted = false) (hline : (q.port y).line = .clean) :
    judgePort y q = withPort y (fun s => s.judged (judgementOf s (q.engine y))) q := by
  have hafter : ((withPort y (fun s => s.judged (judgementOf s (q.engine y))) q).port y).line = .clean := by
    rw [withPort, port_setPort_self]
    exact judged_of_not_aborted haborted hline
  simp only [judgePort, hline, hafter]

/-- The end of the slot of a port at a boundary changes its last slot error alone. -/
theorem endSlot_port (y : PortIx) (q : Part) :
    (∃ n, (endSlot y q).port y = { q.port y with lastError := n }) ∧
      ((endSlot y q).engine y).aborted = (q.engine y).aborted ∧ ((endSlot y q).engine y).sent = (q.engine y).sent := by
  refine endSlot_keeps (R := fun p => (∃ n, p.port y = { q.port y with lastError := n }) ∧
    (p.engine y).aborted = (q.engine y).aborted ∧ (p.engine y).sent = (q.engine y).sent) ?_ ?_ ?_ q
    ⟨⟨_, rfl⟩, rfl, rfl⟩
  · rintro e p ⟨⟨n, hn⟩, hmarks⟩
    refine ⟨⟨e, ?_⟩, hmarks⟩
    rw [setSlotError, withPort, port_setPort_self, hn]
  · rintro f p hf ⟨hport, haborted, hsent⟩
    refine ⟨hport, ?_⟩
    rw [withEngine, engine_setEngine_self]
    exact ⟨(hf _).1.trans haborted, (hf _).2.trans hsent⟩
  · rintro t t1 t4 p ⟨hport, hmarks⟩
    have hwithin := recordOutcome_within y t t1 t4 .missing p
    rw [hwithin.ports y nofun, hwithin.engines y nofun]
    exact ⟨hport, hmarks⟩

theorem apart_endSlot (h : q.Apart x) : (endSlot x q).Apart x :=
  endSlot_keeps (R := Part.Apart x) (fun _ _ h => h) (fun _ _ _ h => h)
    (fun t t1 t4 _ h => apart_outcome h x t t1 t4) q h

/-- A port parks (R136). -/
theorem portBoundary_parks {l : List PortIx} (h : q.Lonely x r (fun e => e.aborted = false)) (hl : x ∉ l)
    (hrunning : r.state = .running) (hclean : r.line = .clean) (hidle : 64 ≤ r.idleCount + 1) (hwake : r.wakeWindow ≤ 1) :
    ∃ r', r'.state = .parked ∧ r'.idleCount = min (r.idleCount + 1) 65535 ∧ r'.wakeWindow = 0 ∧
      (portBoundary l x q).Lonely x r' (fun e => e.activity = .idle ∧ e.slot = .epoch) := by
  obtain ⟨⟨e, hport⟩, haborted, _⟩ := endSlot_port x q
  have hapart := apart_endSlot h.apart
  rw [h.port] at hport
  rw [h.engine] at haborted
  unfold portBoundary
  generalize endSlot x q = q1 at hport haborted hapart
  have hline : (q1.port x).line = .clean := by rw [hport]; exact hclean
  obtain ⟨n, hjudged⟩ := judged_clean (s := q1.port x) haborted hline
  have hunbound : (withPort x (fun s => s.judged (judgementOf s (q1.engine x))) q1).portBound x = false :=
    Part.Apart.not_bound (q := q1) hapart
  have hcounted : (({ r with lastError := e, failRun := n } : PortRecord).counted false) =
      { r with
        lastError := e, failRun := n, idleCount := min (r.idleCount + 1) 65535, wakeWindow := 0, state := .parked } := by
    have hzero : r.wakeWindow - 1 = 0 := by omega
    have hmin : 64 ≤ min (r.idleCount + 1) 65535 := by omega
    simp [PortRecord.counted, hrunning, hclean, hzero, hmin]
  have hfinal : (countPort l x (judgePort x q1)).port x =
      { r with
        lastError := e, failRun := n, idleCount := min (r.idleCount + 1) 65535, wakeWindow := 0, state := .parked } := by
    rw [judgePort_clean haborted hline, countPort, hunbound, withPort, port_setPort_self, withPort, port_setPort_self,
      hjudged, hport, ← hcounted, decide_eq_false hl]
    rfl
  refine ⟨{ r with
    lastError := e, failRun := n, idleCount := min (r.idleCount + 1) 65535, wakeWindow := 0, state := .parked },
    rfl, rfl, rfl, ?_, hfinal, ?_⟩
  · rw [judgePort_clean haborted hline]
    exact hapart
  · rw [beginPortSecond, engine_setEngine_self, hfinal]
    exact ⟨rfl, rfl⟩

end Lonely

end Sys2Proof.Machine

/-! SUPPORT. A RUNNING port that is bound sends the EPOCH of the second that begins (R123). -/

namespace Sys2Proof.Machine

variable {x : PortIx} {e : Engine → Prop} {p q : Part}

/-- A RUNNING port with its engine. -/
structure Part.Runs (x : PortIx) (e : Engine → Prop) (q : Part) : Prop where
  running : (q.port x).state = .running
  engine  : e (q.engine x)

theorem Part.Runs.within {A : Access} (h : p.Runs x e) (hwithin : Within A p q) (hport : ¬ A.ports x)
    (hengine : ¬ A.engines x) : q.Runs x e :=
  ⟨by rw [hwithin.ports x hport]; exact h.running, by rw [hwithin.engines x hengine]; exact h.engine⟩

theorem bind_running {r : PortRecord} (h : r.state = .running) : r.bind.state = .running := by
  simp [PortRecord.bind, h]

theorem bindPort_running (y : PortIx) (h : (q.port x).state = .running) : ((bindPort y q).port x).state = .running := by
  by_cases hy : y = x
  · subst hy
    rw [bindPort, port_setPort_self]
    exact bind_running h
  · rw [bindPort, port_setPort_ne _ hy]
    exact h

theorem pairSteps_runs (x : PortIx) (e : Engine → Prop) : PairSteps .all (Part.Runs x e) where
  pair := fun _ _ _ _ h => ⟨h.running, h.engine⟩
  move := fun k _ _ q _ _ h => ⟨bindPort_running (q := q) (protectPort k) h.running, h.engine⟩
  block := fun _ _ _ _ _ h => ⟨h.running, h.engine⟩
  returns := fun k _ i q hs h => by
    rw [returnRecord, if_pos hs]
    exact ⟨h.running, h.engine⟩
  unblock := fun _ _ _ _ _ h => ⟨h.running, h.engine⟩
  mark := fun _ _ _ _ _ h => ⟨h.running, h.engine⟩
  clear := fun _ _ _ _ _ h => ⟨h.running, h.engine⟩

theorem portSteps_runs {y : PortIx} (hy : y ≠ x) : PortSteps y (Part.Runs x e) :=
  portSteps_of (fun _ q h => ⟨by rw [port_setPort_ne q hy _]; exact h.running, h.engine⟩)
    (fun _ q h => ⟨h.running, by rw [engine_setEngine_ne _ hy]; exact h.engine⟩)
    (fun _ h => ⟨h.running, h.engine⟩)
    fun t t1 t4 q h => h.within (recordOutcome_within y t t1 t4 .missing q) nofun nofun

theorem runs_portBoundary {y : PortIx} (hy : y ≠ x) (l : List PortIx) (h : q.Runs x e) : (portBoundary l y q).Runs x e :=
  (portSteps_runs hy).portBoundary
    (fun _ h => (pairSteps_runs x e).portEntersFault (PairLeave.all_pair _) trivial h)
    (fun _ h => (pairSteps_runs x e).portLeavesFault (PairLeave.all_pair _) trivial h) l h

theorem judged_state (r : PortRecord) (j : Judgement) : (r.judged j).state = r.state := by
  unfold PortRecord.judged
  split <;> try rfl
  all_goals split <;> rfl

theorem judgePort_running (h : (q.port x).state = .running) : ((judgePort x q).port x).state = .running := by
  have hjudged : (withPort x (fun r => r.judged (judgementOf r (q.engine x))) q).Runs x (fun _ => True) :=
    ⟨by rw [withPort, port_setPort_self, judged_state]; exact h, trivial⟩
  have htold : (reportPortFault (withPort x (fun r => r.judged (judgementOf r (q.engine x))) q)).Runs x (fun _ => True) :=
    ⟨hjudged.running, trivial⟩
  unfold judgePort
  dsimp only
  split
  · exact ((pairSteps_runs x _).portEntersFault (PairLeave.all_pair _) trivial htold).running
  · exact ((pairSteps_runs x _).portLeavesFault (PairLeave.all_pair _) trivial htold).running
  · exact hjudged.running
  · exact hjudged.running

/-- A RUNNING port that was bound before the boundary sends EPOCH (R123, R136). -/
theorem portBoundary_sends {l : List PortIx} (hl : x ∈ l) (h : (q.port x).state = .running) :
    (portBoundary l x q).Runs x
      (fun e => e = { slot := .epoch, activity := .driving (portBoundary l x q).epoch }) := by
  obtain ⟨⟨n, hport⟩, _⟩ := endSlot_port x q
  have hended : ((endSlot x q).port x).state = .running := by rw [hport]; exact h
  have hcounted : ((countPort l x (judgePort x (endSlot x q))).port x).state = .running := by
    have hjudged := judgePort_running hended
    rw [countPort, withPort, port_setPort_self, decide_eq_true hl, Bool.or_true]
    simp [PortRecord.counted, hjudged]
  refine ⟨hcounted, ?_⟩
  rw [portBoundary, beginPortSecond, engine_setEngine_self, if_pos hcounted]
  rfl

/-- Apart from the Discipline Unit's, what is done at a boundary keeps what EPOCH shows. -/
theorem Within.epoch_eq {A : Access} (h : Within A p q) (hA : ¬ A.hub) : q.epoch = p.epoch := by
  rw [Part.epoch, Part.epoch, h.tb, h.hub hA]

/-- A RUNNING port with no slot open. -/
def Part.Readies (x : PortIx) (q : Part) : Prop := q.Runs x (fun _ => True) ∧ q.NoSlotOpen

/-- A RUNNING port that sends the EPOCH of the second, with no slot open. -/
def Part.Sends (x : PortIx) (q : Part) : Prop :=
  q.Runs x (fun e => e = { slot := .epoch, activity := .driving q.epoch }) ∧ q.NoSlotOpen

theorem readies_within {A : Access} (h : p.Readies x) (hwithin : Within A p q) (hport : ∀ y, ¬ A.ports y)
    (hengine : ∀ y, ¬ A.engines y) : q.Readies x :=
  ⟨h.1.within hwithin (hport x) (hengine x), hwithin.noSlotOpen hengine h.2⟩

theorem pairSteps_readies (x : PortIx) : PairSteps .all (Part.Readies x) :=
  (pairSteps_runs x _).and (pairSteps_noSlotOpen .all)

/-- The works of a boundary but the ports' leave a RUNNING port so, with no slot open. -/
theorem readies_work (c : BoundaryContext) (b : BoundaryArgs) {w : BoundaryWork} (hw : w ≠ .ports) (h : q.Readies x) :
    (boundaryWork c b w q).Readies x := by
  cases w with
  | inputs => exact readies_within h (inputsBoundary_within c.ended q) (fun _ => nofun) (fun _ => nofun)
  | discipline => exact readies_within h (hubSecondEvent_within q) (fun _ => nofun) (fun _ => nofun)
  | records =>
    exact forEach_induct (R := Part.Readies x) _
      (fun i p hp => readies_within hp (recordBoundary_within i p) (fun _ => nofun) (fun _ => nofun)) _ _ h
  | ports => exact absurd rfl hw
  | pairWait => exact (pairSteps_readies x).pairWaits (fun k _ => PairLeave.all_pair k) h
  | sweep => exact (pairSteps_readies x).sweepBoundary (fun _ => trivial) (fun _ _ _ _ => trivial) h

/-- What leaves the engine of a port and what EPOCH shows keeps the port sending. -/
theorem sends_of (hruns : q.Runs x (fun e => e = p.engine x)) (hopen : q.NoSlotOpen) (hepoch : q.epoch = p.epoch)
    (h : p.Sends x) : q.Sends x :=
  ⟨⟨hruns.running, by rw [hruns.engine, h.1.engine, hepoch]⟩, hopen⟩

theorem sends_portBoundary {y : PortIx} (hy : y ≠ x) (l : List PortIx) (h : q.Sends x) : (portBoundary l y q).Sends x :=
  sends_of (runs_portBoundary hy l ⟨h.1.running, rfl⟩) (portBoundary_noSlotOpen h.2 l y)
    (Within.epoch_eq (((Within.refl .portsAll q).portBoundary (Access.portsAll_port y)
      (fun t ht => by rw [h.2 y] at ht; simp at ht) (Access.portsAll_pair _) l)) nofun) h

/-- The pairs' works at a boundary keep a port sending. -/
theorem sends_pairs {f : Part → Part} (hsteps : ∀ {R : Part → Prop}, PairSteps .all R → R q → R (f q))
    (hwithin : Within .pairsAll q (f q)) (h : q.Sends x) : (f q).Sends x :=
  sends_of (hsteps (pairSteps_runs x _) ⟨h.1.running, rfl⟩) (hsteps (pairSteps_noSlotOpen .all) h.2)
    (hwithin.epoch_eq nofun) h

end Sys2Proof.Machine

/-! O45: parking and EPOCH at a boundary. -/

namespace Sys2Proof.Machine

theorem epochBound_eq (u : Int) : epochBound u = min (-((-u) / 65536)) 1000000 := rfl

theorem flagCode_byte (f : Bool) : byte (flagCode f) = if f then 1#8 else 0#8 := by cases f <;> rfl

/-- A port that no record is near has parked, and sends nothing. -/
def Part.HasParked (x : PortIx) (idle : Nat) (q : Part) : Prop :=
  ∃ r, r.state = .parked ∧ r.idleCount = idle ∧ r.wakeWindow = 0 ∧
    q.Lonely x r (fun e => e.activity = .idle ∧ e.slot = .epoch)

/-- A port that no record is near parks at a boundary (R136). -/
theorem hubBoundary_parks {p : Part} (b : BoundaryArgs) {x : PortIx} (hheld : p.held = false)
    (hrunning : (p.port x).state = .running) (hclean : (p.port x).line = .clean) (haborted : (p.engine x).aborted = false)
    (hidle : 64 ≤ (p.port x).idleCount + 1) (hwake : (p.port x).wakeWindow ≤ 1) (hapart : p.Apart x) :
    parks x (beforeWork b .ports p) (boundaryWork p.boundaryContext b .ports (beforeWork b .ports p)) = true ∧
      (hubBoundary b p).HasParked x (min ((p.port x).idleCount + 1) 65535) := by
  obtain ⟨hbefore, ⟨r, hparked, _, _, hworked⟩, hafter⟩ := hubBoundary_at b .ports hheld
    (R := Part.Lonely x (p.port x) (fun e => e.aborted = false))
    (S := Part.HasParked x (min ((p.port x).idleCount + 1) 65535))
    ⟨fun i => by rw [atBoundary_record]; exact hapart i, atBoundary_port b p x, by rw [atBoundary_engine]; exact haborted⟩
    (fun v hv _ q h => lonely_work _ b hv h)
    (fun q h => portsBoundary_at (S := Part.HasParked x (min ((p.port x).idleCount + 1) 65535)) (portsOf_nodup b)
      (mem_portsOf b x) (fun y hy q h => lonely_portBoundary hy _ h)
      (fun q h => portBoundary_parks h hapart.not_boundBefore hrunning hclean hidle hwake)
      (fun y hy q ⟨r, hparked, hcount, hwindow, h⟩ => ⟨r, hparked, hcount, hwindow, lonely_portBoundary hy _ h⟩) h)
    (fun v hv _ q ⟨r, hparked, hcount, hwindow, h⟩ => ⟨r, hparked, hcount, hwindow, lonely_work _ b hv h⟩)
  refine ⟨?_, hafter⟩
  rw [parks, hbefore.port, hworked.port, hrunning, hparked]
  rfl

/-- A RUNNING port that was bound sends EPOCH at a boundary (R123). -/
theorem hubBoundary_sends {p : Part} (b : BoundaryArgs) {x : PortIx} (hheld : p.held = false) (hopen : p.NoSlotOpen)
    (horder : standsBefore (worksOf b) .discipline .ports = true) (hrunning : (p.port x).state = .running)
    (hbound : x ∈ p.boundBefore) : (hubBoundary b p).Sends x :=
  (hubBoundary_at b .ports hheld (R := Part.Readies x) (S := Part.Sends x)
    ⟨⟨by rw [atBoundary_port]; exact hrunning, trivial⟩, fun y => by rw [atBoundary_engine]; exact hopen y⟩
    (fun v hv _ q h => readies_work _ b hv h)
    (fun q h => portsBoundary_at (portsOf_nodup b) (mem_portsOf b x)
      (fun y hy q h => ⟨runs_portBoundary hy _ h.1, portBoundary_noSlotOpen h.2 _ y⟩)
      (fun q h => ⟨portBoundary_sends hbound h.1.running, portBoundary_noSlotOpen h.2 _ x⟩)
      (fun y hy q h => sends_portBoundary hy _ h) h)
    (fun v hv hstands q h => by
      cases v with
      | inputs =>
        simp only [standsBefore, decide_eq_true_eq, decide_eq_false_iff_not] at horder hstands
        have hinputs := (worksOf_order b).1
        simp only [standsBefore, decide_eq_true_eq] at hinputs
        omega
      | discipline => exact absurd hstands (by simp [horder])
      | records => exact absurd hstands (by simp [(worksOf_order b).2.1])
      | ports => exact absurd rfl hv
      | pairWait =>
        exact sends_pairs (fun steps h => steps.pairWaits (fun k _ => PairLeave.all_pair k) h) (pairWaits_within _ q) h
      | sweep =>
        exact sends_pairs (fun steps h => steps.sweepBoundary (fun _ => trivial) (fun _ _ _ _ => trivial) h)
          (sweepBoundary_within q) h)).2.2

theorem mem_boundBefore {p : Part} {x : PortIx} {i : RecordIx} (hcounts : (p.record i).counts x = true)
    (hstays : retiresNow (p.record i) = false) : x ∈ p.boundBefore :=
  List.mem_filter.2 ⟨List.mem_finRange x, List.any_eq_true.2 ⟨i, List.mem_finRange i, by rw [hcounts, hstays]; rfl⟩⟩

/-- Settles O45: the part just before and at the port's own boundary, among the works and the ports. -/
theorem portsParkOrSendEpochAtTheBoundary : Obligations.PortsParkOrSendEpochAtTheBoundary := by
  unfold Obligations.PortsParkOrSendEpochAtTheBoundary
  refine ⟨fun s b x hheld hrunning hclean haborted hidle hwake hapart => ?_,
    fun s b x i hheld hopen horder hrunning hcounts hstays => ?_⟩
  · obtain ⟨htest, r, hparked, hcount, hwindow, h⟩ :=
      hubBoundary_parks b hheld hrunning hclean haborted hidle hwake hapart
    refine ⟨_, exec_of_work (test := parks x) rfl hheld htest, completes_of_work (c := .hubSecondBoundary b) rfl, rfl,
      ?_, ?_, ?_, ?_, ?_⟩
    · rw [settle_port, h.port]
      exact hparked
    · rw [settle_port, h.port]
      exact hcount
    · rw [settle_port, h.port]
      exact hwindow
    · rw [settle_engine]
      exact h.engine.1
    · rw [settle_engine]
      exact h.engine.2
  · obtain ⟨⟨hruns, hengine⟩, _⟩ := hubBoundary_sends b hheld hopen horder hrunning (mem_boundBefore hcounts hstays)
    refine ⟨_, completes_of_work (c := .hubSecondBoundary b) rfl, rfl, ?_, ?_⟩
    · rw [settle_port]
      exact hruns
    · rw [settle_engine, settle_hub, settle_tb, ← flagCode_byte, ← epochBound_eq]
      exact hengine

end Sys2Proof.Machine

/-! SUPPORT. The end of a DISMISS slot without a LEAVE, but at a boundary (R112, R114, R124). -/

namespace Sys2Proof.Machine

/-- A notice says that a record ended with its dismissal unacknowledged. -/
def Entry.Unacknowledged (e : Entry) : Prop := hasCondition e.raised .retired = true ∧ e.detail = some .unacknowledged

/-- A record has ended, unacknowledged, and said so where its threshold lets every report in. -/
abbrev Part.GoneFrom (p : Part) (i : RecordIx) (y : Part) : Prop :=
  y.Gone i (p.record i).generation (p.alarm.settings.recordThreshold = some .note) Entry.Unacknowledged

/-- A DISMISS slot on a port is over: its error is the port's last, and a third attempt has ended the record. -/
structure Part.DismissOver (p : Part) (q : PortIx) (t : SlotTarget) (error : SlotError) (y : Part) : Prop where
  gone   : 3 ≤ (p.record t.record).dismissAttempts → p.GoneFrom t.record y
  error  : (y.port q).lastError = error
  others : KeepsOtherPorts q p y

/-- The slot in progress on a port is the DISMISS slot of a RETIRING record. -/
structure Part.DismissSlot (p : Part) (q : PortIx) (t : SlotTarget) : Prop where
  held       : p.held = false
  slot       : (p.engine q).slot.isAddress = true
  target     : (p.engine q).target = some t
  dismiss    : t.dismiss = true
  generation : (p.record t.record).generation = t.generation
  retiring   : (p.record t.record).state = .retiring

section DismissOver

variable {p x y : Part} {q : PortIx} {t : SlotTarget} {error : SlotError}

theorem endRetired_goneFrom {i : RecordIx} (hrecord : x.record i = p.record i) (halarm : x.alarm = p.alarm) :
    p.GoneFrom i (endRetired .unacknowledged i x) := by
  refine ⟨?_, fun hthreshold => endRetired_reported .unacknowledged i (p := x) (by rw [halarm]; exact hthreshold)⟩
  rw [endRetired_record, hrecord]

/-- What comes of the slot, decided, when its outcome is not LEAVE. -/
theorem dismissOutcome (h : p.DismissSlot q t) (hx : p.Decided q error x) (t1 t4 : Option Stamp) {o : SlotOutcome}
    (ho : o ≠ .leave) :
    recordOutcome q t t1 t4 o x =
      if 3 ≤ (p.record t.record).dismissAttempts then endRetired .unacknowledged t.record x else x := by
  have hrecord := hx.record t.record
  rw [missing_retiring t1 t4 ho (by rw [hrecord]; exact h.generation) (by rw [hrecord]; exact h.retiring), hrecord]
  simp only [h.dismiss, true_and]

theorem dismissOver_outcome (h : p.DismissSlot q t) (hx : p.Decided q error x) (t1 t4 : Option Stamp) {o : SlotOutcome}
    (ho : o ≠ .leave) : p.DismissOver q t error (recordOutcome q t t1 t4 o x) := by
  rw [dismissOutcome h hx t1 t4 ho]
  split
  · next hthird =>
    have hwithin := endRetired_within .unacknowledged t.record x
    exact ⟨fun _ => endRetired_goneFrom (hx.record _) hx.alarm, by rw [hwithin.ports q nofun]; exact hx.error,
      hx.keepsOtherPorts hwithin (fun _ => nofun) fun _ => nofun⟩
  · next hfew => exact ⟨fun hthird => absurd hthird hfew, hx.error, hx.others⟩

theorem Part.DismissOver.withEngine (h : p.DismissOver q t error y) (f : Engine → Engine) :
    p.DismissOver q t error (Machine.withEngine q f y) :=
  ⟨fun hthird => ⟨(h.gone hthird).1, (h.gone hthird).2⟩, h.error,
    fun j hj => ⟨(h.others j hj).1, (engine_setEngine_ne y hj.symm _).trans (h.others j hj).2⟩⟩

/-- The next slot begins, and the one before it is over. -/
theorem beginSlot_dismissOver (h : p.DismissSlot q t) (hopen : p.StillOpen q error) (s : PortSlot) (ms : Nat) :
    p.DismissOver q t error (beginSlot q s (elapseToMs ms p)) := by
  obtain ⟨tb, htb⟩ := elapseToMs_eq ms p
  have hdecided := decided_slotDecided q error p tb (p.engine q)
  have hengine : ({ p with tb := tb }).setEngine q (p.engine q) = { p with tb := tb } := withEngine_same q { p with tb := tb }
  rw [hengine] at hdecided
  rw [htb, beginSlot, endSlot_decides (p := { p with tb := tb }) h.slot hopen,
    decideSlot_target (p := { p with tb := tb }) _ _ h.target]
  exact (dismissOver_outcome (o := .missing) h hdecided _ _ nofun).withEngine (slotBegun s)

/-- The part with the attempt that a slot of a RETIRING record is (R114). -/
def attemptedIf (i : RecordIx) (y : Part) : Part := if (y.record i).state = .retiring then attempted i y else y

theorem attemptedIf_port (i : RecordIx) (y : Part) (x : PortIx) : (attemptedIf i y).port x = y.port x := by
  unfold attemptedIf
  split <;> rfl

theorem beginRecordSlot_eq (q : PortIx) (t1 : Stamp) (i : RecordIx) (y : Part) :
    beginRecordSlot q t1 i y =
      if (y.port q).line = .fault ∨ (y.port q).state = .disabled then
        recordOutcome q (slotTarget i (y.record i)) none none .missing (attemptedIf i y)
      else if (y.port q).state = .running then
        drive q (recordFrame (y.record i))
          (withEngine q (fun e => { e with target := some (slotTarget i (y.record i)), t1 := some t1 }) (attemptedIf i y))
      else attemptedIf i y := by
  rw [← attemptedIf_port i y q]
  rfl

/-- A slot of another record begins. -/
theorem Part.DismissOver.beginRecordSlot {i : RecordIx} (h : p.DismissOver q t error y) (t1 : Stamp)
    (hi : (y.record i).state ≠ .vacant) : p.DismissOver q t error (Machine.beginRecordSlot q t1 i y) := by
  have hattempt : p.DismissOver q t error (attemptedIf i y) := by
    unfold attemptedIf
    split
    · exact ⟨fun hthird => (h.gone hthird).withRecord ((h.gone hthird).ne hi) _, h.error, h.others⟩
    · exact h
  rw [beginRecordSlot_eq]
  generalize attemptedIf i y = z at hattempt
  split
  · have hwithin := off_within q (slotTarget i (y.record i)) none none z
    refine ⟨fun hthird => (hattempt.gone hthird).outcome _ _ _ _ _, ?_, fun j hj => ?_⟩
    · rw [hwithin.ports q nofun]
      exact hattempt.error
    · rw [hwithin.ports j nofun, hwithin.engines j nofun]
      exact hattempt.others j hj
  · split
    · exact (hattempt.withEngine _).withEngine _
    · exact hattempt

/-- The end of a slot by the start of the next. -/
theorem slotStart_dismissOver {c : Instr} {cause : Cause} (h : p.DismissSlot q t) (hopen : p.StillOpen q error)
    (hstarts : p.StartsSlot q c cause) (hline : ∀ b, c ≠ .hubSecondBoundary b) :
    p.DismissOver q t error (commandWork c p) ∧ endsDismiss cause = true ∧ runCause cause p = commandWork c p := by
  obtain ⟨rfl, rfl⟩ | ⟨a, rfl, rfl⟩ | ⟨rfl, rfl, hlong⟩ | ⟨rfl, rfl, hlong⟩ | ⟨b, rfl, _⟩ := hstarts
  · refine ⟨?_, rfl, rfl⟩
    change p.DismissOver q t error (quietSlotStart q p)
    rw [quietSlotStart, unlessHeld_of_free ((held_elapseToMs _ _).trans h.held)]
    exact beginSlot_dismissOver h hopen _ _
  · refine ⟨?_, rfl, rfl⟩
    change p.DismissOver q t error (delaySlotStart q a p)
    have hbegun := beginSlot_dismissOver h hopen (.address a) (addressMs a)
    generalize hb : beginSlot q (.address a) (elapseToMs (addressMs a) p) = b at hbegun
    by_cases hnone : ∀ i, b.recordAt q a = some i → (b.record i).state = .reserved
    · rw [delaySlotStart_empty h.held hb hnone]
      exact hbegun
    · push Not at hnone
      obtain ⟨i, hat, hlive⟩ := hnone
      rw [delaySlotStart_record h.held hb hat hlive]
      exact hbegun.beginRecordSlot _ (recordAt_some hat).1
  · refine ⟨?_, rfl, rfl⟩
    change p.DismissOver q t error (openSlotStart q p)
    have hbefore : p.tb.holdsOpen = true := decide_eq_true hlong
    have hafter : (elapseToMs 600 p).tb.holdsOpen = true := by
      rw [elapseToMs_of_free h.held]
      exact hbefore
    simp only [openSlotStart, hbefore, if_true, unlessHeld_of_free ((held_elapseToMs _ _).trans h.held), hafter]
    have hbegun := (beginSlot_dismissOver h hopen .openSlot 600).withEngine (fun e => { e with verdict := none })
    split
    · exact hbegun.withEngine _
    · exact hbegun
  · refine ⟨?_, rfl, rfl⟩
    change p.DismissOver q t error (verdictSlotStart q p)
    have hbefore : p.tb.holdsOpen = true := decide_eq_true hlong
    have hafter : (elapseToMs 700 p).tb.holdsOpen = true := by
      rw [elapseToMs_of_free h.held]
      exact hbefore
    simp only [verdictSlotStart, hbefore, if_true, unlessHeld_of_free ((held_elapseToMs _ _).trans h.held), hafter]
    have hbegun := beginSlot_dismissOver h hopen .verdictSlot 700
    split
    · exact hbegun
    · split
      · exact (hbegun.withEngine _).withEngine _
      · exact hbegun.withEngine _
  · exact absurd rfl (hline b)

end DismissOver

end Sys2Proof.Machine

/-! SUPPORT. A DISMISS slot still in progress at a boundary (R112, R114, R125; log entry 19). -/

namespace Sys2Proof.Machine

/-! ## What is at rest at a port while others act -/

section Kept

variable {x y : PortIx} {e : Engine} {error : SlotError} {p q : Part}

theorem pairSteps_engine (x : PortIx) (e : Engine) : PairSteps .all (fun q => q.engine x = e) where
  pair := fun _ _ _ _ h => h
  move := fun _ _ _ _ _ _ h => h
  block := fun _ _ _ _ _ h => h
  returns := fun k _ i q _ h => by rw [returnRecord_engine]; exact h
  unblock := fun _ _ _ _ _ h => h
  mark := fun _ _ _ _ _ h => h
  clear := fun _ _ _ _ _ h => h

theorem portSteps_engine (hy : y ≠ x) : PortSteps y (fun q => q.engine x = e) :=
  portSteps_of (fun _ _ h => h) (fun _ q h => by rw [engine_setEngine_ne q hy]; exact h) (fun _ h => h)
    fun t t1 t4 q h => by rw [(recordOutcome_within y t t1 t4 .missing q).engines x nofun]; exact h

theorem bindPort_lastError (y x : PortIx) (q : Part) : ((bindPort y q).port x).lastError = (q.port x).lastError := by
  by_cases hy : y = x
  · subst hy
    rw [bindPort, port_setPort_self, PortRecord.bind]
    split <;> rfl
  · rw [bindPort, port_setPort_ne _ hy]

theorem pairSteps_lastError (x : PortIx) (error : SlotError) : PairSteps .all (fun q => (q.port x).lastError = error) where
  pair := fun _ _ _ _ h => h
  move := fun k _ _ q _ _ h => (bindPort_lastError (protectPort k) x q).trans h
  block := fun _ _ _ _ _ h => h
  returns := fun k _ i q hs h => by
    rw [returnRecord, if_pos hs]
    exact h
  unblock := fun _ _ _ _ _ h => h
  mark := fun _ _ _ _ _ h => h
  clear := fun _ _ _ _ _ h => h

theorem portSteps_lastError (hy : y ≠ x) : PortSteps y (fun q => (q.port x).lastError = error) :=
  portSteps_of (fun _ q h => by rw [port_setPort_ne q hy]; exact h) (fun _ _ h => h) (fun _ h => h)
    fun t t1 t4 q h => by rw [(recordOutcome_within y t t1 t4 .missing q).ports x nofun]; exact h

theorem judged_lastError (r : PortRecord) (j : Judgement) : (r.judged j).lastError = r.lastError := by
  unfold PortRecord.judged
  split <;> try rfl
  all_goals split <;> rfl

theorem counted_lastError (r : PortRecord) (bound : Bool) : (r.counted bound).lastError = r.lastError := by
  unfold PortRecord.counted
  dsimp only
  split <;> rfl

theorem withPort_lastError {f : PortRecord → PortRecord} (hf : ∀ r, (f r).lastError = r.lastError) (x : PortIx) (q : Part) :
    ((withPort x f q).port x).lastError = (q.port x).lastError := by
  rw [withPort, port_setPort_self, hf]

theorem judgePort_lastError (h : (q.port x).lastError = error) : ((judgePort x q).port x).lastError = error := by
  have hjudged : ((withPort x (fun r => r.judged (judgementOf r (q.engine x))) q).port x).lastError = error :=
    (withPort_lastError (fun r => judged_lastError r _) x q).trans h
  have htold : ((reportPortFault (withPort x (fun r => r.judged (judgementOf r (q.engine x))) q)).port x).lastError = error :=
    hjudged
  unfold judgePort
  dsimp only
  split
  · exact (pairSteps_lastError x error).portEntersFault (PairLeave.all_pair _) trivial htold
  · exact (pairSteps_lastError x error).portLeavesFault (PairLeave.all_pair _) trivial htold
  · exact hjudged
  · exact hjudged

/-- A port's boundary leaves the slot error with which its last slot ends. -/
theorem portBoundary_lastError (l : List PortIx) (h : ((endSlot x q).port x).lastError = error) :
    ((portBoundary l x q).port x).lastError = error :=
  (withPort_lastError (fun r => counted_lastError r _) x _).trans (judgePort_lastError h)

end Kept

/-! ## A record whose third attempt is in progress -/

section Doomed

variable {p q : Part} {i : RecordIx} {x : PortIx} {t : SlotTarget}

/-- A record is RETIRING as before, with its attempts all made. -/
structure Part.Doomed (p : Part) (i : RecordIx) (q : Part) : Prop where
  retiring   : (q.record i).state = .retiring
  generation : (q.record i).generation = (p.record i).generation
  attempts   : 3 ≤ (q.record i).dismissAttempts
  settings   : q.alarm.settings = p.alarm.settings

theorem Part.Doomed.shifted {q' : Part} (h : p.Doomed i q) (hshift : Shifted (q.record i) (q'.record i))
    (hsettings : q'.alarm.settings = q.alarm.settings) : p.Doomed i q' := by
  obtain ⟨x, b, f, n, c, w, hrecord⟩ := hshift
  refine ⟨?_, ?_, ?_, hsettings.trans h.settings⟩
  · rw [hrecord]
    exact h.retiring
  · rw [hrecord]
    exact h.generation
  · rw [hrecord]
    exact h.attempts

theorem Part.Doomed.within {A : Access} {q' : Part} (h : p.Doomed i q) (hwithin : Within A q q') (hi : ¬ A.records i) :
    p.Doomed i q' := h.shifted (by rw [hwithin.records i hi]; exact .refl _) hwithin.alarm.settings

theorem told_settings (r : Report) (q : Part) : (report r q).alarm.settings = q.alarm.settings := take_settings ..

theorem returnRecord_settings (k : PairIx) (j : RecordIx) (q : Part) :
    (returnRecord k j q).alarm.settings = q.alarm.settings := by
  unfold returnRecord
  split
  · exact (told_settings _ _).trans (told_settings _ _)
  · rfl

theorem pairSteps_doomed (p : Part) (i : RecordIx) : PairSteps .all (Part.Doomed p i) where
  pair := fun _ _ _ _ h => h.shifted (.refl _) rfl
  move := fun k hk j q hc hm h => h.shifted ((pairSteps_shifted i (q.record i)).move k hk j q hc hm (.refl _))
    ((told_settings _ _).trans (told_settings _ _))
  block := fun k hk j q hc h => h.shifted ((pairSteps_shifted i (q.record i)).block k hk j q hc (.refl _)) rfl
  returns := fun k hk j q hs h =>
    h.shifted ((pairSteps_shifted i (q.record i)).returns k hk j q hs (.refl _)) (returnRecord_settings k j q)
  unblock := fun k hk j q hhome h =>
    h.shifted ((pairSteps_shifted i (q.record i)).unblock k hk j q hhome (.refl _)) rfl
  mark := fun y hy j q hon h => h.shifted ((pairSteps_shifted i (q.record i)).mark y hy j q hon (.refl _)) (told_settings _ _)
  clear := fun y hy j q hon h => h.shifted ((pairSteps_shifted i (q.record i)).clear y hy j q hon (.refl _)) (told_settings _ _)

theorem counted_attempts (r : ServiceRecord) : (counted r).dismissAttempts = r.dismissAttempts := by
  unfold counted applyStaged
  dsimp only
  split <;> split <;> rfl

theorem doomed_records (h : p.Doomed i q) : p.Doomed i (recordsBoundary q) := by
  have hstays : ¬ retiresNow (q.record i) = true := by simp [retiresNow, h.retiring]
  have hrecord : (recordsBoundary q).record i = counted (q.record i) := by rw [recordsBoundary_record, if_neg hstays]
  refine ⟨?_, ?_, ?_, ?_⟩
  · rw [hrecord, (counted_place _).2.2]
    exact h.retiring
  · rw [hrecord, counted_generation]
    exact h.generation
  · rw [hrecord, counted_attempts]
    exact h.attempts
  · rw [recordsBoundary]
    exact forEach_induct (R := fun z => z.alarm.settings = p.alarm.settings) _
      (fun j z hz => (recordBoundary_within j z).alarm.settings.trans hz) _ _ h.settings

/-- The works of a boundary but the ports' leave the record so. -/
theorem doomed_work (c : BoundaryContext) (b : BoundaryArgs) {w : BoundaryWork} (hw : w ≠ .ports) (h : p.Doomed i q) :
    p.Doomed i (boundaryWork c b w q) := by
  cases w with
  | inputs => exact h.within (inputsBoundary_within c.ended q) nofun
  | discipline => exact h.within (hubSecondEvent_within q) nofun
  | records => exact doomed_records h
  | ports => exact absurd rfl hw
  | pairWait => exact (pairSteps_doomed p i).pairWaits (fun k _ => PairLeave.all_pair k) h
  | sweep => exact (pairSteps_doomed p i).sweepBoundary (fun _ => trivial) (fun _ _ _ _ => trivial) h

/-- The record waits for its end, or has ended. -/
def Part.Ending (p : Part) (i : RecordIx) (q : Part) : Prop := p.Doomed i q ∨ p.GoneFrom i q

theorem pairSteps_goneFrom (p : Part) (i : RecordIx) : PairSteps .all (Part.GoneFrom p i) := pairSteps_gone _ _ _ _

theorem pairSteps_ending (p : Part) (i : RecordIx) : PairSteps .all (Part.Ending p i) where
  pair := fun k hk f q h => h.imp ((pairSteps_doomed p i).pair k hk f q) ((pairSteps_goneFrom p i).pair k hk f q)
  move := fun k hk j q hc hm h =>
    h.imp ((pairSteps_doomed p i).move k hk j q hc hm) ((pairSteps_goneFrom p i).move k hk j q hc hm)
  block := fun k hk j q hc h => h.imp ((pairSteps_doomed p i).block k hk j q hc) ((pairSteps_goneFrom p i).block k hk j q hc)
  returns := fun k hk j q hs h =>
    h.imp ((pairSteps_doomed p i).returns k hk j q hs) ((pairSteps_goneFrom p i).returns k hk j q hs)
  unblock := fun k hk j q hhome h =>
    h.imp ((pairSteps_doomed p i).unblock k hk j q hhome) ((pairSteps_goneFrom p i).unblock k hk j q hhome)
  mark := fun y hy j q hon h =>
    h.imp ((pairSteps_doomed p i).mark y hy j q hon) ((pairSteps_goneFrom p i).mark y hy j q hon)
  clear := fun y hy j q hon h =>
    h.imp ((pairSteps_doomed p i).clear y hy j q hon) ((pairSteps_goneFrom p i).clear y hy j q hon)

theorem doomed_ends (h : p.Doomed i q) : p.GoneFrom i (endRetired .unacknowledged i q) := by
  refine ⟨?_, fun hthreshold => endRetired_reported .unacknowledged i (p := q) (by rw [h.settings]; exact hthreshold)⟩
  rw [endRetired_record, h.generation]

/-- A missing outcome at any port leaves the record to its end. -/
theorem ending_outcome (y : PortIx) (t : SlotTarget) (t1 t4 : Option Stamp) (h : p.Ending i q) :
    p.Ending i (recordOutcome y t t1 t4 .missing q) := by
  obtain hdoomed | hgone := h
  · by_cases hi : t.record = i
    · subst hi
      by_cases hgeneration : (q.record t.record).generation = t.generation
      · rw [missing_retiring (o := .missing) t1 t4 nofun hgeneration hdoomed.retiring]
        split
        · exact .inr (doomed_ends hdoomed)
        · exact .inl hdoomed
      · rw [recordOutcome_lost t1 t4 .missing (.inl hgeneration)]
        exact .inl hdoomed
    · exact .inl (hdoomed.within (off_within y t t1 t4 q) fun hrecord => hi hrecord.symm)
  · exact .inr (hgone.outcome y t t1 t4 .missing)

theorem portSteps_ending (y : PortIx) : PortSteps y (Part.Ending p i) :=
  portSteps_of (fun _ _ h => h.imp (fun h => ⟨h.1, h.2, h.3, h.4⟩) fun h => h)
    (fun _ _ h => h.imp (fun h => ⟨h.1, h.2, h.3, h.4⟩) fun h => h)
    (fun _ h => h.imp (fun h => h.shifted (.refl _) (told_settings _ _)) fun h => h.report nofun) fun t t1 t4 _ h => ending_outcome y t t1 t4 h

/-- The end of the DISMISS slot. -/
theorem ending_decided {error : SlotError} (hdismiss : t.dismiss = true)
    (hgeneration : (p.record t.record).generation = t.generation) (t1 t4 : Option Stamp) (h : p.Ending t.record q) :
    p.GoneFrom t.record (recordOutcome x t t1 t4 .missing (slotDecided x error q)) := by
  obtain hdoomed | hgone := h
  · have hdecided : p.Doomed t.record (slotDecided x error q) := ⟨hdoomed.1, hdoomed.2, hdoomed.3, hdoomed.4⟩
    rw [missing_retiring (o := .missing) t1 t4 nofun (hdecided.generation.trans hgeneration) hdecided.retiring,
      if_pos ⟨hdismiss, hdecided.attempts⟩]
    exact doomed_ends hdecided
  · have hdecided : p.GoneFrom t.record (slotDecided x error q) := hgone
    exact hdecided.outcome x t t1 t4 .missing

end Doomed

/-! ## The boundary -/

section Boundary

variable {p q : Part} {x : PortIx} {t : SlotTarget} {error : SlotError}

/-- The slot of a port that stands as it did at the beginning of a boundary ends there. -/
theorem endSlot_standing (h : p.DismissSlot x t) (hopen : p.StillOpen x error) (hengine : q.engine x = p.engine x) :
    endSlot x q = recordOutcome x t (p.engine x).t1 (p.engine x).t4 .missing (slotDecided x error q) := by
  have hopens : q.StillOpen x error := by
    rw [Part.StillOpen, hengine]
    exact hopen
  rw [endSlot_decides (by rw [hengine]; exact h.slot) hopens, decideSlot_target (t := t) _ _ (by rw [hengine]; exact h.target),
    hengine]

/-- The works of a boundary but the ports' leave an engine. -/
theorem engine_work (c : BoundaryContext) (b : BoundaryArgs) {w : BoundaryWork} (hw : w ≠ .ports) {e : Engine}
    (h : q.engine x = e) : (boundaryWork c b w q).engine x = e := by
  cases w with
  | inputs => exact ((inputsBoundary_within c.ended q).engines x nofun).trans h
  | discipline => exact ((hubSecondEvent_within q).engines x nofun).trans h
  | records =>
    have hkept : (recordsBoundary q).engine x = q.engine x :=
      forEach_keeps (get := fun q : Part => q.engine x) fun i _ q => (recordBoundary_within i q).engines x nofun
    exact hkept.trans h
  | ports => exact absurd rfl hw
  | pairWait => exact (pairSteps_engine x _).pairWaits (fun k _ => PairLeave.all_pair k) h
  | sweep => exact (pairSteps_engine x _).sweepBoundary (fun _ => trivial) (fun _ _ _ _ => trivial) h

/-- The works of a boundary but the ports' leave the slot error of a port. -/
theorem lastError_work (c : BoundaryContext) (b : BoundaryArgs) {w : BoundaryWork} (hw : w ≠ .ports)
    (h : (q.port x).lastError = error) : ((boundaryWork c b w q).port x).lastError = error := by
  cases w with
  | inputs =>
    rw [boundaryWork, (inputsBoundary_within c.ended q).ports x nofun]
    exact h
  | discipline =>
    rw [boundaryWork, (hubSecondEvent_within q).ports x nofun]
    exact h
  | records =>
    have hkept : (recordsBoundary q).port x = q.port x :=
      forEach_keeps (get := fun q : Part => q.port x) fun i _ q => (recordBoundary_within i q).ports x nofun
    rw [boundaryWork, hkept]
    exact h
  | ports => exact absurd rfl hw
  | pairWait => exact (pairSteps_lastError x _).pairWaits (fun k _ => PairLeave.all_pair k) h
  | sweep => exact (pairSteps_lastError x _).sweepBoundary (fun _ => trivial) (fun _ _ _ _ => trivial) h

/-- The slot error that the boundary leaves. -/
theorem hubBoundary_lastError (h : p.DismissSlot x t) (hopen : p.StillOpen x error) (b : BoundaryArgs) :
    ((hubBoundary b p).port x).lastError = error := by
  have hat := hubBoundary_at b .ports h.held (R := fun q => q.engine x = p.engine x)
    (S := fun q => (q.port x).lastError = error) (atBoundary_engine b p x)
    (fun v hv _ q hq => ?_)
    (fun q hq => portsBoundary_at (R := fun q => q.engine x = p.engine x) (S := fun q => (q.port x).lastError = error)
      (portsOf_nodup b) (mem_portsOf b x)
      (fun y hy q hq => (portSteps_engine hy).portBoundary
        (fun _ h => (pairSteps_engine x _).portEntersFault (PairLeave.all_pair _) trivial h)
        (fun _ h => (pairSteps_engine x _).portLeavesFault (PairLeave.all_pair _) trivial h) _ hq)
      (fun q hq => portBoundary_lastError _ ?_)
      (fun y hy q hq => (portSteps_lastError hy).portBoundary
        (fun _ h => (pairSteps_lastError x _).portEntersFault (PairLeave.all_pair _) trivial h)
        (fun _ h => (pairSteps_lastError x _).portLeavesFault (PairLeave.all_pair _) trivial h) _ hq) hq)
    (fun v hv _ q hq => ?_)
  · exact hat.2.2
  · exact engine_work _ b hv hq
  · rw [endSlot_standing h hopen hq, (recordOutcome_within x t _ _ .missing _).ports x nofun, slotDecided_port_self]
  · exact lastError_work _ b hv hq

/-- The third attempt's end by the boundary of its port. -/
theorem portBoundary_dismissed (h : p.DismissSlot x t) (hopen : p.StillOpen x error) (l : List PortIx)
    (hengine : q.engine x = p.engine x) (hending : p.Ending t.record q) :
    p.GoneFrom t.record (portBoundary l x q) := by
  have hended : p.GoneFrom t.record (endSlot x q) := by
    rw [endSlot_standing h hopen hengine]
    exact ending_decided h.dismiss h.generation _ _ hending
  have steps := portSteps_gone x t.record (p.record t.record).generation
    (p.alarm.settings.recordThreshold = some .note) Entry.Unacknowledged
  exact steps.begins _ (steps.counts _ _ (steps.judgePort
    (fun _ h => (pairSteps_goneFrom p t.record).portEntersFault (PairLeave.all_pair _) trivial h)
    (fun _ h => (pairSteps_goneFrom p t.record).portLeavesFault (PairLeave.all_pair _) trivial h) hended))

/-- The third attempt's end by the boundary. -/
theorem hubBoundary_dismissed (h : p.DismissSlot x t) (hopen : p.StillOpen x error) (b : BoundaryArgs)
    (hthird : 3 ≤ (p.record t.record).dismissAttempts) :
    p.Doomed t.record (beforeWork b .ports p) ∧
      p.GoneFrom t.record (boundaryWork p.boundaryContext b .ports (beforeWork b .ports p)) ∧
      p.GoneFrom t.record (hubBoundary b p) := by
  obtain ⟨⟨hdoomed, _⟩, hworked, hafter⟩ := hubBoundary_at b .ports h.held
    (R := fun q => p.Doomed t.record q ∧ q.engine x = p.engine x) (S := Part.GoneFrom p t.record)
    ⟨⟨by rw [atBoundary_record]; exact h.retiring, by rw [atBoundary_record], by rw [atBoundary_record]; exact hthird,
      by rw [atBoundary_alarm]⟩, atBoundary_engine b p x⟩
    (fun v hv _ q ⟨hd, he⟩ => ⟨doomed_work _ b hv hd, engine_work _ b hv he⟩)
    (fun q ⟨hd, he⟩ => portsBoundary_at (R := fun q => p.Ending t.record q ∧ q.engine x = p.engine x)
      (S := Part.GoneFrom p t.record) (portsOf_nodup b) (mem_portsOf b x)
      (fun y hy q ⟨hd, he⟩ =>
        ⟨(portSteps_ending y).portBoundary
            (fun _ h => (pairSteps_ending p t.record).portEntersFault (PairLeave.all_pair _) trivial h)
            (fun _ h => (pairSteps_ending p t.record).portLeavesFault (PairLeave.all_pair _) trivial h) _ hd,
          (portSteps_engine hy).portBoundary
            (fun _ h => (pairSteps_engine x _).portEntersFault (PairLeave.all_pair _) trivial h)
            (fun _ h => (pairSteps_engine x _).portLeavesFault (PairLeave.all_pair _) trivial h) _ he⟩)
      (fun q ⟨hd, he⟩ => portBoundary_dismissed h hopen _ he hd)
      (fun y hy q hq => (portSteps_gone y _ _ _ _).portBoundary
        (fun _ h => (pairSteps_goneFrom p t.record).portEntersFault (PairLeave.all_pair _) trivial h)
        (fun _ h => (pairSteps_goneFrom p t.record).portLeavesFault (PairLeave.all_pair _) trivial h) _ hq) ⟨.inl hd, he⟩)
    (fun v hv hstands q hq => gone_work _ b (by
      rintro rfl
      exact absurd hstands (by simp [(worksOf_order b).2.1])) hq)
  exact ⟨hdoomed, hworked, hafter⟩

end Boundary

end Sys2Proof.Machine

/-! O37: the end of a DISMISS slot without a LEAVE. -/

namespace Sys2Proof.Machine

/-- What the end of a slot before the next one starts leaves at rest. -/
structure Part.RestsAfter (p : Part) (q : PortIx) (i : RecordIx) (y : Part) : Prop where
  record   : (p.record i).dismissAttempts < 3 → y.record i = p.record i
  activity : (y.engine q).activity = .idle
  target   : (y.engine q).target = none
  base     : KeepsBase p y

section Ends

variable {p x y : Part} {q : PortIx} {t : SlotTarget} {error : SlotError}

theorem decided_keepsBase (h : p.Decided q error x) (htb : x.tb = p.tb) (hkept : KeepsBase x y) : KeepsBase p y := by
  obtain ⟨hosc, hclock, hporn, hwrst, hbase⟩ := hkept
  exact ⟨hosc.trans h.osc, hclock.trans h.lineClock, hporn.trans h.porn, hwrst.trans h.wrst, by rw [hbase, htb]⟩

/-- A slot that is decided where it stands leaves the port at rest. -/
theorem restsAfter_outcome (h : p.DismissSlot q t) (hx : p.Decided q error x) (htb : x.tb = p.tb) (t1 t4 : Option Stamp)
    {o : SlotOutcome} (ho : o ≠ .leave) : p.RestsAfter q t.record (recordOutcome q t t1 t4 o x) := by
  rw [dismissOutcome h hx t1 t4 ho]
  split
  · next hthird =>
    have hwithin := endRetired_within .unacknowledged t.record x
    have hengine := hwithin.engines q nofun
    exact ⟨fun hfew => by omega, by rw [hengine]; exact hx.activity, by rw [hengine]; exact hx.target,
      decided_keepsBase hx htb (hwithin.keepsBase nofun)⟩
  · exact ⟨fun _ => hx.record t.record, hx.activity, hx.target, decided_keepsBase hx htb ⟨rfl, rfl, rfl, rfl, rfl⟩⟩

/-- What a command that ends the slot comes to. -/
structure Part.EndsSlot (p : Part) (q : PortIx) (t : SlotTarget) (c : Instr) (cause : Cause) (error : SlotError) : Prop where
  slotOver : p.DismissOver q t error (commandWork c p)
  ends : endsDismiss cause = true
  same : runCause cause p = commandWork c p
  line : ∃ e, cause = .line q e
  rests : ¬ p.StartsSlot q c cause → p.RestsAfter q t.record (commandWork c p)

theorem endsSlot_missed {c : Instr} {e : LineEvent} (h : p.DismissSlot q t) (hmiss : p.MissesSlot q c e error) :
    p.EndsSlot q t c (.line q e) error := by
  obtain ⟨x, t1, t4, tidy, hx, hrest, htb, hwork⟩ := missesSlot_work h.held h.slot h.target hmiss
  have hends : endsDismiss (.line q e) = true := by
    obtain ⟨_, rfl, _⟩ | ⟨_, _, rfl, _⟩ | ⟨_, rfl, _⟩ | ⟨_, _, _, _, _, rfl, _⟩ := hmiss <;> rfl
  refine ⟨?_, hends, runCause_of_misses hmiss, ⟨e, rfl⟩, fun hstarts => ?_⟩
  · rw [hwork]
    exact (dismissOver_outcome (o := .missing) h hx t1 t4 nofun).withEngine tidy
  · have hsame : x.tb = p.tb := by
      obtain rfl | hsame := htb
      · obtain ⟨hc, _⟩ | ⟨_, hc, _⟩ | ⟨_, rfl, _⟩ | ⟨_, _, _, _, hc, _⟩ := hmiss
        · cases hc
        · cases hc
        · exact absurd (.inl ⟨rfl, rfl⟩) hstarts
        · cases hc
      · exact hsame
    obtain ⟨hrecord, hactivity, htarget, hbase⟩ := restsAfter_outcome (o := .missing) h hx hsame t1 t4 nofun
    rw [hwork]
    obtain ⟨hidle, hnone⟩ := hrest.engine hactivity htarget
    exact ⟨hrecord, hidle, hnone, hbase⟩

/-- The end of the slot by an accepted response that is no LEAVE. -/
theorem endsSlot_accepted {c : Instr} {e : LineEvent} {o : SlotOutcome} (h : p.DismissSlot q t)
    (hactivity : (p.engine q).activity = .response) (ho : o ≠ .leave) (hwork : commandWork c p = responseAccepted q o p)
    (hends : endsDismiss (.line q e) = true) (hcause : runCause (.line q e) p = commandWork c p) :
    p.EndsSlot q t c (.line q e) .none := by
  have hx := decided_slotDecided q .none p p.tb (p.engine q)
  have plain : ({ p with tb := p.tb }).setEngine q (p.engine q) = p := withEngine_same q p
  rw [plain] at hx
  rw [responseAccepted_target o h.held hactivity h.slot h.target] at hwork
  refine ⟨?_, hends, hcause, ⟨e, rfl⟩, fun _ => ?_⟩
  · rw [hwork]
    exact dismissOver_outcome h hx _ _ ho
  · rw [hwork]
    exact restsAfter_outcome h hx rfl _ _ ho

theorem endsSlot_of {c : Instr} {cause : Cause} (h : p.DismissSlot q t) (hends : p.EndsWithoutLeave q c cause error)
    (hline : ∀ b, c ≠ .hubSecondBoundary b) : p.EndsSlot q t c cause error := by
  obtain ⟨e, hmiss, rfl⟩ | ⟨characters, hresponse, rfl, hactivity⟩ | ⟨hstarts, hopen⟩ := hends
  · exact endsSlot_missed h hmiss
  · obtain ⟨rfl, rfl, haccepted⟩ | ⟨rfl, rfl, haccepted⟩ := hresponse
    · obtain ⟨fields, hfields⟩ := Option.isSome_iff_exists.1 haccepted
      refine endsSlot_accepted (o := .echo fields) h hactivity nofun ?_ rfl rfl
      change echoReceived q characters p = _
      simp only [echoReceived, hfields]
    · refine endsSlot_accepted (o := .distress) h hactivity nofun ?_ rfl rfl
      change distressReceived q characters p = _
      rw [distressReceived, if_pos haccepted]
  · obtain ⟨hover, hdismiss, hcause⟩ := slotStart_dismissOver h hopen hstarts hline
    refine ⟨hover, hdismiss, hcause, ?_, fun hnot => absurd hstarts hnot⟩
    obtain ⟨_, rfl⟩ | ⟨a, _, rfl⟩ | ⟨_, rfl, _⟩ | ⟨_, rfl, _⟩ | ⟨b, hb, _⟩ := hstarts
    · exact ⟨_, rfl⟩
    · exact ⟨_, rfl⟩
    · exact ⟨_, rfl⟩
    · exact ⟨_, rfl⟩
    · exact absurd hb (hline b)

/-- RETIRE_UNACKNOWLEDGED with an event on a line as its cause (log entry 3). -/
theorem exec_retireUnacknowledged {s : State} {i : RecordIx} {e : LineEvent} {y : Part}
    (hends : endsDismiss (.line q e) = true) (hcause : runCause (.line q e) s.part = y)
    (hretiring : (s.part.record i).state = .retiring) (hvacant : (y.record i).state = .vacant) :
    exec (.retireUnacknowledged i (.line q e)) s = .next { s with part := settle s.pending y } := by
  refine exec_of_cause (test := endsUnacknowledged i (.line q e)) rfl hcause ?_
  simp [endsUnacknowledged, hends, hretiring, hvacant]

end Ends

theorem settle_keepsOtherPorts {p y : Part} {q : PortIx} (h : KeepsOtherPorts q p y) (w : List Instr) :
    KeepsOtherPorts q p (settle w y) :=
  fun j hj => ⟨(settle_port ..).trans (h j hj).1, (settle_engine ..).trans (h j hj).2⟩

/-- The end of a DISMISS slot (R112, R114). -/
theorem dismissSlotEnds (s : State) (q : PortIx) (t : SlotTarget) (c : Instr) (cause : Cause) (error : SlotError)
    (h : s.part.DismissSlot q t) (hends : s.part.EndsWithoutLeave q c cause error) :
    ∃ u : State, exec c s = .next u ∧ u.pending = s.pending ∧ (u.part.port q).lastError = error ∧
      (3 ≤ (s.part.record t.record).dismissAttempts →
        exec (.retireUnacknowledged t.record cause) s = .next u ∧
        u.part.record t.record = { generation := (s.part.record t.record).generation } ∧
        (s.part.alarm.settings.recordThreshold = some .note →
          u.part.Reported (.record t.record) .retired (fun e => e.detail = some .unacknowledged))) ∧
      ((s.part.record t.record).dismissAttempts < 3 → ¬s.part.StartsSlot q c cause →
        u.part.record t.record = s.part.record t.record) ∧
      ((∀ b, c ≠ .hubSecondBoundary b) → KeepsOtherPorts q s.part u.part) ∧
      (¬s.part.StartsSlot q c cause →
        (u.part.engine q).activity = .idle ∧ (u.part.engine q).target = none ∧ KeepsBase s.part u.part) := by
  by_cases hline : ∀ b, c ≠ .hubSecondBoundary b
  · obtain ⟨hover, hdismiss, hcause, ⟨e, rfl⟩, hrests⟩ := endsSlot_of h hends hline
    refine ⟨_, completes_of_work rfl, rfl, ?_, fun hthird => ⟨?_, ?_, fun hthreshold => ?_⟩, fun hfew hstarts => ?_,
      fun _ => settle_keepsOtherPorts hover.others _, fun hstarts => ⟨?_, ?_, ?_⟩⟩
    · rw [settle_port]
      exact hover.error
    · exact exec_retireUnacknowledged hdismiss hcause h.retiring (hover.gone hthird).vacant
    · rw [settle_record]
      exact (hover.gone hthird).1
    · exact ((hover.gone hthird).2 hthreshold).settle _
    · rw [settle_record]
      exact (hrests hstarts).record hfew
    · rw [settle_engine]
      exact (hrests hstarts).activity
    · rw [settle_engine]
      exact (hrests hstarts).target
    · exact settle_keepsBase (hrests hstarts).base _
  · push Not at hline
    obtain ⟨b, rfl⟩ := hline
    obtain ⟨_, hmiss, _⟩ | ⟨_, ⟨hc, _⟩ | ⟨hc, _⟩, _⟩ | ⟨hstarts, hopen⟩ := hends
    · obtain ⟨hc, _⟩ | ⟨_, hc, _⟩ | ⟨hc, _⟩ | ⟨_, _, _, _, hc, _⟩ := hmiss <;> cases hc
    · cases hc
    · cases hc
    · obtain rfl : cause = .boundary b := by
        obtain ⟨hc, _⟩ | ⟨_, hc, _⟩ | ⟨hc, _⟩ | ⟨hc, _⟩ | ⟨_, hc, hcause⟩ := hstarts <;> cases hc
        exact hcause
      refine ⟨_, completes_of_work (c := .hubSecondBoundary b) rfl, rfl, ?_, fun hthird => ?_,
        fun _ hnot => absurd hstarts hnot, fun hline => absurd rfl (hline b), fun hnot => absurd hstarts hnot⟩
      · rw [settle_port]
        exact hubBoundary_lastError h hopen b
      · obtain ⟨hdoomed, hworked, hgone⟩ := hubBoundary_dismissed h hopen b hthird
        refine ⟨exec_of_work (test := endsUnacknowledged t.record (.boundary b)) rfl h.held ?_, ?_,
          fun hthreshold => (hgone.2 hthreshold).settle _⟩
        · have hdismiss : endsDismiss (.boundary b) = true := rfl
          simp [endsUnacknowledged, hdismiss, hdoomed.retiring, hworked.vacant]
        · rw [settle_record]
          exact hgone.1

/-- A slot of a RETIRING record that begins without a frame (R124). -/
theorem darkSlotStarts (s : State) (q : PortIx) (a : Address) (i : RecordIx) (hheld : s.part.held = false)
    (hidle : (s.part.engine q).activity = .idle) (laws : RecordLaws s.part) (hport : (s.part.record i).currentPort = q)
    (haddress : (s.part.record i).address = a) (hretiring : (s.part.record i).state = .retiring)
    (hdark : (s.part.port q).line = .fault ∨ (s.part.port q).state = .disabled) :
    ∃ u : State, exec (.delaySlotStart q a) s = .next u ∧ u.pending = s.pending ∧ u.part.port q = s.part.port q ∧
      (u.part.engine q).activity = .idle ∧ (u.part.engine q).target = none ∧
      (3 ≤ (s.part.record i).dismissAttempts + 1 →
        exec (.retireUnacknowledged i (.line q (.delaySlotStart a))) s = .next u ∧
        u.part.record i = { generation := (s.part.record i).generation } ∧
        (s.part.alarm.settings.recordThreshold = some .note →
          u.part.Reported (.record i) .retired (fun e => e.detail = some .unacknowledged))) ∧
      ((s.part.record i).dismissAttempts + 1 < 3 →
        u.part.record i = { s.part.record i with dismissAttempts := (s.part.record i).dismissAttempts + 1 }) ∧
      KeepsOtherPorts q s.part u.part := by
  have hb := beginSlot_of_idle hheld hidle (.address a) (addressMs a)
  have hlive : (s.part.record i).state ≠ .vacant := by simp [hretiring]
  have hat : (slotOpened q (.address a) (addressMs a) s.part).recordAt q a = some i :=
    recordAt_of_laws (p := s.part) laws hlive hport haddress
  obtain ⟨z, hz⟩ : ∃ z, attempted i (slotOpened q (.address a) (addressMs a) s.part) = z := ⟨_, rfl⟩
  have hrecord : z.record i = { s.part.record i with dismissAttempts := (s.part.record i).dismissAttempts + 1 } := by
    rw [← hz, attempted, record_withRecord, if_pos rfl]
    rfl
  have hothers : KeepsOtherPorts q s.part z := by
    rw [← hz]
    exact slotOpened_keepsOtherPorts q (.address a) (addressMs a) s.part
  have hengine : z.engine q =
      { s.part.engine q with slot := .address a, target := none, t1 := none, t4 := none } := by
    rw [← hz]
    exact slotOpened_engine q (.address a) (addressMs a) s.part
  have hkept : z.port q = s.part.port q ∧ z.alarm = s.part.alarm := by
    rw [← hz]
    exact ⟨rfl, rfl⟩
  have hwork : delaySlotStart q a s.part =
      if 3 ≤ (s.part.record i).dismissAttempts + 1 then endRetired .unacknowledged i z else z := by
    have hslot : ((slotOpened q (.address a) (addressMs a) s.part).record i) = s.part.record i := rfl
    rw [delaySlotStart_record hheld hb hat (by rw [hslot, hretiring]; nofun),
      beginRecordSlot_missing (b := slotOpened q (.address a) (addressMs a) s.part) hdark, hslot, if_pos hretiring, hz,
      missing_retiring (o := .missing) none none nofun (by rw [slotTarget, hrecord]) (by rw [slotTarget, hrecord, hretiring])]
    simp only [slotTarget, hrecord, hretiring, beq_self_eq_true, true_and]
  obtain ⟨y, hy⟩ : ∃ y, delaySlotStart q a s.part = y := ⟨_, rfl⟩
  have hthird (h : 3 ≤ (s.part.record i).dismissAttempts + 1) :
      y = endRetired .unacknowledged i z := by rw [← hy, hwork, if_pos h]
  have hwithin : Within (.ending i) z y := by
    rw [← hy, hwork]
    split
    · exact endRetired_within .unacknowledged i z
    · exact .refl _ _
  refine ⟨_, completes_of_work (c := .delaySlotStart q a) hy, rfl, ?_, ?_, ?_, fun hlast => ?_, fun hfew => ?_, ?_⟩
  · rw [settle_port, hwithin.ports q nofun, hkept.1]
  · rw [settle_engine, hwithin.engines q nofun, hengine]
    exact hidle
  · rw [settle_engine, hwithin.engines q nofun, hengine]
  · have hended := endRetired_record .unacknowledged i z
    have hreported := endRetired_reported .unacknowledged i (p := z)
    rw [← hthird hlast, hkept.2] at hreported
    rw [← hthird hlast, hrecord] at hended
    refine ⟨exec_retireUnacknowledged rfl hy hretiring (by rw [hended]), ?_, fun hthreshold => (hreported hthreshold).settle _⟩
    rw [settle_record]
    exact hended
  · rw [settle_record, ← hy, hwork, if_neg (by omega)]
    exact hrecord
  · refine settle_keepsOtherPorts (fun j hj => ?_) _
    rw [hwithin.ports j nofun, hwithin.engines j nofun]
    exact hothers j hj

/-- Settles O37: every way in which a DISMISS slot ends, and a slot that begins without a frame. -/
theorem thirdDismissEndsTheRecord : Obligations.ThirdDismissEndsTheRecord := by
  unfold Obligations.ThirdDismissEndsTheRecord
  exact ⟨fun s q t c cause error hheld hslot htarget hdismiss hgeneration hretiring hends =>
      dismissSlotEnds s q t c cause error ⟨hheld, hslot, htarget, hdismiss, hgeneration, hretiring⟩ hends,
    darkSlotStarts⟩

end Sys2Proof.Machine

/-! SUPPORT. ToD messages at a satellite slot (R24 to R26, R201). -/

namespace Sys2Proof.Machine

theorem length_of_decodeTod {bytes : List Byte} {m : TodMessage} (h : decodeTod bytes = some m) : bytes.length = 14 := by
  by_contra hne
  simp [decodeTod, hne] at h

/-- The tests of R26, with the limits in q-ns. -/
theorem satInvalid_iff (m : TodMessage) (e : PendingEdge) (previous : Option Nat) (r : SlotRecord) (permission : Bool) :
    satInvalid m e previous r permission = true ↔
      m.tracking = false ∨ r.acceptLimit < m.estimate ∨ (∃ n, previous = some n ∧ m.seconds ≠ n + 1) ∨
        (∃ x, e.interval = some x ∧ (x < 900000000 * 65536 ∨ 1100000000 * 65536 < x)) ∨
        (1000000 * 65536 < magnitude (satValue m.seconds r.cableDelay e.reading) ∧ permission = false) := by
  have hseconds : secondsWrong previous m.seconds = true ↔ ∃ n, previous = some n ∧ m.seconds ≠ n + 1 := by
    cases previous <;> simp [secondsWrong]
  have hinterval : intervalWrong e.interval = true ↔
      ∃ x, e.interval = some x ∧ (x < 900000000 * 65536 ∨ 1100000000 * 65536 < x) := by
    cases e.interval with
    | none => simp [intervalWrong]
    | some x =>
      have hlow : toQ 900000000 = 900000000 * 65536 := rfl
      have hhigh : toQ 1100000000 = 1100000000 * 65536 := rfl
      simp only [intervalWrong, hlow, hhigh, decide_eq_true_eq, Option.some.injEq, exists_eq_left']
  have hfar : toQ 1000000 = 1000000 * 65536 := rfl
  rw [satInvalid, hfar]
  simp only [Bool.or_eq_true, Bool.and_eq_true, Bool.not_eq_true', decide_eq_true_eq, hseconds, hinterval, or_assoc]

/-- What a SAT slot notes of a message that belongs to the pending edge: no message is open, the edge waits no more, and
the seconds of a sound one are the previous ones. -/
def noteTod (m : TodMessage) (x : SlotInput) : SlotInput :=
  { x with message := none, pendingEdge := none, prevTod := if m.sound then some m.seconds else x.prevTod }

section Tod

variable {p : Part} {k : SatIx} {m : TodMessage} {e : PendingEdge} {bytes : List Byte}

/-- The characters of a message that belongs to the pending edge complete the slot's sample, once the message is noted. -/
theorem todMessage_taken (start : Byte) (hheld : p.held = false) (hrunning : p.running k.slot = true)
    (hdecode : decodeTod bytes = some m) (hedge : (p.input k.slot).pendingEdge = some e)
    (hfirst : (p.input k.slot).completed = false) :
    todMessage k.slot (messageCharacters start bytes) p =
      completeTod k.slot m e (p.input k.slot).prevTod (withInput k.slot (noteTod m) p) := by
  have hreceive :=
    receiveCharacters_message start (p.input k.slot).message (by decide : 0 < 14) (length_of_decodeTod hdecode)
  have hnote :
      withInput k.slot (fun y => { y with pendingEdge := none })
          (withInput k.slot (recordTod m) (withInput k.slot (fun x => { x with message := none }) p)) =
        withInput k.slot (noteTod m) p := by
    rw [withInput_withInput, withInput_withInput]
    refine congrArg (fun f => withInput k.slot f p) (funext fun x => ?_)
    cases hsound : m.sound <;> simp [recordTod, noteTod, hsound]
  simp [todMessage, unlessHeld, hheld, hrunning, hreceive, forEach, completeTodMessage, hdecode, takeTod, hedge, hfirst,
    hnote]

theorem completeTod_sound {j : SlotIx} {previous : Option Nat} (h : m.sound = true) :
    completeTod j m e previous p =
      completeRead j (satInvalid m e previous (p.slot j) p.hub.stepPermission)
        (satValue m.seconds (p.slot j).cableDelay e.reading) (some (m.estimate + (p.slot j).allowance)) (some m.scale)
        p.tb.second p := if_pos h

theorem completeTod_unsound {j : SlotIx} {previous : Option Nat} (h : m.sound = false) :
    completeTod j m e previous p = completeUnread j p := if_neg (by simp [h])

theorem sampleFrame_completeTod (j : SlotIx) (previous : Option Nat) (p : Part) :
    SampleFrame j p (completeTod j m e previous p) := by
  unfold completeTod
  split
  · exact SampleFrame.completeRead j _ _ _ _ _ _
  · exact SampleFrame.completeSample j _ _

end Tod

@[simp] theorem jumpAfter_prevTod (limit v : Int) (x : SlotInput) : (jumpAfter limit v x).prevTod = x.prevTod := by
  rw [jumpAfter_frame]

@[simp] theorem jumpAfter_pendingEdge (limit v : Int) (x : SlotInput) :
    (jumpAfter limit v x).pendingEdge = x.pendingEdge := by rw [jumpAfter_frame]

/-- Settles O15: the message is noted and completes a read sample, or an unread one with a bad checksum. -/
theorem todMessageCompletesASatSample : Obligations.TodMessageCompletesASatSample := by
  intro s k start bytes m e hheld hrunning hdecode hedge hfirst
  have htaken := todMessage_taken start hheld hrunning hdecode hedge hfirst
  have frame : SampleFrame k.slot s.part (settle s.pending (todMessage k.slot (messageCharacters start bytes) s.part)) := by
    rw [htaken]
    exact ((SampleFrame.withInput k.slot _ _).trans (sampleFrame_completeTod k.slot _ _)).trans
      (SampleFrame.settle k.slot _ _)
  obtain ⟨y, hy⟩ : ∃ y, todMessage k.slot (messageCharacters start bytes) s.part = y := ⟨_, rfl⟩
  rw [hy] at frame htaken
  refine ⟨_, completes_of_work (c := .todMessage k (messageCharacters start bytes)) hy, rfl, frame.tables, frame.base,
    frame.slots, frame.mgmt, ?_⟩
  rw [settle_input, htaken]
  cases hsound : m.sound with
  | true =>
    rw [completeTod_sound hsound, completeRead_input, input_withInput_self]
    have hnoted : ∀ x, (noteTod m x).prevTod = some m.seconds := fun x => if_pos hsound
    refine ⟨?_, rfl, ?_, fun _ => ⟨?_, _, rfl, _, rfl, fun hbad => if_pos ?_, fun hgood => ?_⟩, nofun⟩
    · rw [apply_ite SlotInput.pendingEdge, jumpAfter_pendingEdge, ite_self]
      rfl
    · rw [apply_ite SlotInput.message, jumpAfter_message, ite_self]
      rfl
    · rw [apply_ite SlotInput.prevTod, jumpAfter_prevTod, ite_self, hnoted]
    · exact (satInvalid_iff ..).2 hbad
    · refine (if_neg (mt (satInvalid_iff ..).1 hgood)).trans ?_
      rfl
  | false =>
    rw [completeTod_unsound hsound, completeUnread, completeSample_input, input_withInput_self]
    exact ⟨rfl, rfl, rfl, nofun, fun _ => ⟨if_neg (by simp [hsound]), rfl⟩⟩

end Sys2Proof.Machine

/-! O12: the characters of a serial input make messages, and where the bytes of a message lie. -/

namespace Sys2Proof.Machine

/-! ## Characters (R201) -/

@[simp] theorem receiveCharacter_none (length : Nat) (b : Byte) : receiveCharacter length (0#1 ++ b) none = (none, none) := by
  have plain : startsMessage (0#1 ++ b) = false := by
    rw [startsMessage, BitVec.getLsbD_append]
    simp
  simp [receiveCharacter, plain]

/-- Bytes with no message open are ignored. -/
theorem receiveCharacters_ignored (length : Nat) (bytes : List Byte) :
    receiveCharacters length (byteCharacters bytes) none = (none, []) := by
  induction bytes with
  | nil => rfl
  | cons b rest ih =>
    rw [byteCharacters, List.map_cons, receiveCharacters_cons, receiveCharacter_none, ← byteCharacters, ih]
    rfl

/-- Bytes that leave an open message short of its length leave it open. -/
theorem receiveCharacters_short (length : Nat) (bytes : List Byte) (m : OpenMessage)
    (h : m.bytes.length + bytes.length < length) :
    receiveCharacters length (byteCharacters bytes) (some m) = (some { m with bytes := m.bytes ++ bytes }, []) := by
  induction bytes generalizing m with
  | nil => simp [byteCharacters]
  | cons b rest ih =>
    rw [List.length_cons] at h
    have short : ¬ length ≤ m.bytes.length + 1 := by omega
    have opened := ih { m with bytes := m.bytes ++ [b] } (by
      rw [List.length_append, List.length_singleton]
      omega)
    rw [byteCharacters, List.map_cons, receiveCharacters_cons, receiveCharacter_byte, if_neg short, ← byteCharacters,
      opened, List.append_assoc]
    rfl

/-- A start character and fewer bytes than a message has leave a message open. -/
theorem receiveCharacters_begun {length : Nat} (start : Byte) {bytes : List Byte} (current : Option OpenMessage)
    (h : bytes.length < length) :
    receiveCharacters length (messageCharacters start bytes) current = (some { bytes := bytes }, []) := by
  rw [messageCharacters, receiveCharacters_cons, receiveCharacter_start,
    receiveCharacters_short length bytes {} (by simpa using h)]
  rfl

theorem receiveCharacters_append (length : Nat) (first rest : List SerialChar) (current : Option OpenMessage) :
    receiveCharacters length (first ++ rest) current =
      ((receiveCharacters length rest (receiveCharacters length first current).1).1,
        (receiveCharacters length first current).2 ++
          (receiveCharacters length rest (receiveCharacters length first current).1).2) := by
  induction first generalizing current with
  | nil => rfl
  | cons c others ih => rw [List.cons_append, receiveCharacters_cons, ih, receiveCharacters_cons, List.append_assoc]

/-! ## The layouts of R201 -/

/-- The exclusive-or of a message is 0 when the last byte is that of the others. -/
theorem byteXor_checked (bytes : List Byte) (sum : Byte) :
    (byteXor (bytes ++ [sum]) == 0) = (byteXor bytes == sum) := by
  have hlast : byteXor (bytes ++ [sum]) = byteXor bytes ^^^ sum := by
    rw [byteXor, List.foldl_append]
    rfl
  rw [hlast, Bool.eq_iff_iff, beq_iff_eq, beq_iff_eq]
  exact BitVec.xor_eq_zero_iff

theorem numberOf_bytesOf_of_lt {w n : Nat} (h : n < 256 ^ w) : numberOf (bytesOf w n) = n := by
  rw [numberOf_bytesOf, Nat.mod_eq_of_lt h]

/-- A part of a message that stands after `a` bytes and has `b` of them. -/
theorem part_of_append {a b : Nat} {before here after : List Byte} (ha : before.length = a) (hb : here.length = b) :
    ((before ++ here ++ after).drop a).take b = here := by
  rw [List.append_assoc, List.drop_append_of_le_length (by omega), List.drop_eq_nil_of_le (by omega), List.nil_append,
    List.take_append_of_le_length (by omega), List.take_of_length_le (by omega)]

theorem decodeTod_layout (seconds estimate : Nat) (scale : Int) (tracking sum : Byte) (hseconds : seconds < 2 ^ 48)
    (hestimate : estimate < 2 ^ 32) (hlow : -32768 ≤ scale) (hhigh : scale < 32768) :
    decodeTod (bytesOf 6 seconds ++ [tracking] ++ bytesOf 4 estimate ++ signedBytesOf 2 scale ++ [sum]) =
      some
        { seconds := seconds, tracking := tracking == 1, estimate := estimate, scale := scale
          sound :=
            byteXor (bytesOf 6 seconds ++ [tracking] ++ bytesOf 4 estimate ++ signedBytesOf 2 scale) == sum } := by
  have h6 := length_bytesOf 6 seconds
  have h4 := length_bytesOf 4 estimate
  have h2 := length_signedBytesOf 2 scale
  have hlength : (bytesOf 6 seconds ++ [tracking] ++ bytesOf 4 estimate ++ signedBytesOf 2 scale ++ [sum]).length = 14 := by
    simp only [List.length_append, h6, h4, h2, List.length_singleton]
  have hfirst : (bytesOf 6 seconds ++ [tracking] ++ bytesOf 4 estimate ++ signedBytesOf 2 scale ++ [sum]).take 6 =
      bytesOf 6 seconds := by
    simp only [List.append_assoc]
    rw [List.take_append_of_le_length (by omega), List.take_of_length_le (by omega)]
  have hflag : (bytesOf 6 seconds ++ [tracking] ++ bytesOf 4 estimate ++ signedBytesOf 2 scale ++ [sum]).getD 6 0 =
      tracking := by
    simp [List.getD, h6]
  have hestimated : ((bytesOf 6 seconds ++ [tracking] ++ bytesOf 4 estimate ++ signedBytesOf 2 scale ++ [sum]).drop 7).take 4 =
      bytesOf 4 estimate := by
    rw [List.append_assoc _ (signedBytesOf 2 scale)]
    exact part_of_append (by simp only [List.length_append, h6, List.length_singleton]) h4
  have hscaled : ((bytesOf 6 seconds ++ [tracking] ++ bytesOf 4 estimate ++ signedBytesOf 2 scale ++ [sum]).drop 11).take 2 =
      signedBytesOf 2 scale :=
    part_of_append (by simp only [List.length_append, h6, h4, List.length_singleton]) h2
  rw [decodeTod, if_pos hlength, hfirst, hflag, hestimated, hscaled, byteXor_checked,
    numberOf_bytesOf_of_lt (hseconds.trans_le (by norm_num)), numberOf_bytesOf_of_lt (hestimate.trans_le (by norm_num)),
    signedNumberOf_signedBytesOf 2 scale (by norm_num; omega) (by norm_num; omega)]

theorem decodePkt_layout (sequence valid sum : Byte) (offset : Int) (bound : Nat) (hlow : -(2 ^ 63) ≤ offset)
    (hhigh : offset < 2 ^ 63) (hbound : bound < 2 ^ 32) :
    decodePkt ([sequence, valid] ++ signedBytesOf 8 offset ++ bytesOf 4 bound ++ [sum]) =
      some
        { sequence := sequence.toNat, valid := valid == 1, offset := offset, bound := bound
          sound := byteXor ([sequence, valid] ++ signedBytesOf 8 offset ++ bytesOf 4 bound) == sum } := by
  have h8 := length_signedBytesOf 8 offset
  have h4 := length_bytesOf 4 bound
  have hlength : ([sequence, valid] ++ signedBytesOf 8 offset ++ bytesOf 4 bound ++ [sum]).length = 15 := by
    simp only [List.length_append, h8, h4, List.length_cons, List.length_nil]
  have hoffset : (([sequence, valid] ++ signedBytesOf 8 offset ++ bytesOf 4 bound ++ [sum]).drop 2).take 8 =
      signedBytesOf 8 offset := by
    rw [List.append_assoc _ (bytesOf 4 bound)]
    exact part_of_append rfl h8
  have hbounded : (([sequence, valid] ++ signedBytesOf 8 offset ++ bytesOf 4 bound ++ [sum]).drop 10).take 4 =
      bytesOf 4 bound :=
    part_of_append (by simp only [List.length_append, h8, List.length_cons, List.length_nil]) h4
  rw [decodePkt, if_pos hlength, hoffset, hbounded, byteXor_checked, numberOf_bytesOf_of_lt (hbound.trans_le (by norm_num)),
    signedNumberOf_signedBytesOf 8 offset (by norm_num at hlow ⊢; omega) (by norm_num at hhigh ⊢; omega)]
  rfl

/-! ## Messages at the slots (R24, R27) -/

theorem todMessage_of_receives {p : Part} {k : SatIx} {characters : List SerialChar} {open' : Option OpenMessage}
    {whole : List OpenMessage} (hheld : p.held = false) (hrunning : p.running k.slot = true)
    (hreceive : receiveCharacters 14 characters (p.input k.slot).message = (open', whole)) :
    todMessage k.slot characters p =
      forEach whole (completeTodMessage k.slot) (withInput k.slot (fun x => { x with message := open' }) p) := by
  simp [todMessage, unlessHeld, hheld, hrunning, hreceive]

theorem pktMessage_of_receives {p : Part} {characters : List SerialChar} {open' : Option OpenMessage}
    {whole : List OpenMessage} (hheld : p.held = false) (hrunning : p.running pktSlot = true)
    (hreceive : receiveCharacters 15 characters (p.input pktSlot).message = (open', whole)) :
    pktMessage characters p =
      forEach whole completePktMessage (withInput pktSlot (fun x => { x with message := open' }) p) := by
  simp [pktMessage, unlessHeld, hheld, hrunning, hreceive]

/-- A ToD message that does not belong to a pending edge replaces the previous ToD seconds alone. -/
theorem takeTod_early {k : SlotIx} {p : Part} {after : Bool} {m : TodMessage}
    (h : after = false ∨ (p.input k).pendingEdge = none) : takeTod k after m p = withInput k (recordTod m) p := by
  cases hedge : (p.input k).pendingEdge with
  | none => simp only [takeTod, hedge]
  | some e =>
    obtain rfl | hnone := h
    · simp only [takeTod, hedge, Bool.not_false, if_true]
    · rw [hnone] at hedge
      cases hedge

theorem completeTodMessage_of {k : SlotIx} {p : Part} {o : OpenMessage} {m : TodMessage} (h : decodeTod o.bytes = some m) :
    completeTodMessage k o p = takeTod k o.afterEdge m p := by
  simp only [completeTodMessage, h]

/-- Settles O12: the characters one at a time, and the layouts part by part. -/
theorem serialCharactersMakeMessages : Obligations.SerialCharactersMakeMessages := by
  unfold Obligations.SerialCharactersMakeMessages
  refine ⟨fun length start bytes current => ⟨receiveCharacters_begun start current, fun hpos hlength more => ?_,
      receiveCharacters_ignored length bytes⟩, fun length m bytes hpos hlength => ?_, receiveCharacters_append,
    fun s k start bytes hheld hrunning hshort => completes_of_work ?_,
    fun s start bytes hheld hrunning hshort => completes_of_work ?_,
    fun s k o bytes m hheld hrunning hopen hpos hlength hdecode hearly => completes_of_work ?_,
    decodeTod_layout, decodePkt_layout⟩
  · rw [receiveCharacters_append, receiveCharacters_message start current hpos hlength, receiveCharacters_ignored]
    rfl
  · obtain ⟨b, rest, rfl⟩ := List.exists_cons_of_length_pos hpos
    exact receiveCharacters_fill length b rest m (by rw [← hlength, List.length_cons]; omega)
  · exact todMessage_of_receives hheld hrunning (receiveCharacters_begun start _ hshort)
  · exact pktMessage_of_receives hheld hrunning (receiveCharacters_begun start _ hshort)
  · obtain ⟨b, rest, rfl⟩ := List.exists_cons_of_length_pos hpos
    have hreceive : receiveCharacters 14 (byteCharacters (b :: rest)) (s.part.input k.slot).message =
        (none, [{ o with bytes := o.bytes ++ b :: rest }]) := by
      rw [hopen]
      exact receiveCharacters_fill 14 b rest o (by rw [← hlength, List.length_cons]; omega)
    have hearly' : o.afterEdge = false ∨
        ((withInput k.slot (fun x => { x with message := none }) s.part).input k.slot).pendingEdge = none := by
      rw [input_withInput_self]
      exact hearly
    refine (todMessage_of_receives hheld hrunning hreceive).trans ?_
    rw [forEach_cons, completeTodMessage_of hdecode, takeTod_early hearly', withInput_withInput]
    cases hsound : m.sound <;> simp [withInput, recordTod, hsound, forEach]

end Sys2Proof.Machine

/-! O10: the characters of frames and responses on a TD line. -/

namespace Sys2Proof.Machine

/-! ## Frames (R121, R200) -/

theorem getLsbD_characterOf (b : Byte) (n : Nat) :
    (characterOf b).getLsbD n = if n = 0 then true else if n < 9 then b.getLsbD (n - 1) else false := by
  unfold characterOf
  rw [BitVec.getLsbD_append, BitVec.getLsbD_append]
  by_cases hstop : n = 0
  · simp [hstop]
  · by_cases hdata : n < 9
    · rw [if_neg (by omega), if_pos (by omega), if_neg hstop, if_pos hdata]
    · rw [if_neg (by omega), if_neg (by omega), if_neg hstop, if_neg hdata]
      simp

theorem characterLevels_characterOf (b : Byte) :
    characterLevels (characterOf b) =
      [.dominant, levelOf (b.getLsbD 7), levelOf (b.getLsbD 6), levelOf (b.getLsbD 5), levelOf (b.getLsbD 4),
        levelOf (b.getLsbD 3), levelOf (b.getLsbD 2), levelOf (b.getLsbD 1), levelOf (b.getLsbD 0), .recessive] := by
  have hrange : List.range 10 = [0, 1, 2, 3, 4, 5, 6, 7, 8, 9] := rfl
  rw [characterLevels, hrange]
  simp only [List.map_cons, List.map_nil, BitVec.getMsbD, getLsbD_characterOf]
  rfl

theorem toNat_byteSum (bytes : List Byte) : (byteSum bytes).toNat = (bytes.map BitVec.toNat).sum % 256 := by
  have step : ∀ (l : List Byte) (b : Byte), (l.foldl (· + ·) b).toNat = (b.toNat + (l.map BitVec.toNat).sum) % 256 := by
    intro l
    induction l with
    | nil =>
      intro b
      have := b.isLt
      simp only [List.foldl_nil, List.map_nil, List.sum_nil]
      omega
    | cons c rest ih =>
      intro b
      rw [List.foldl_cons, ih, BitVec.toNat_add, List.map_cons, List.sum_cons]
      omega
  rw [byteSum, step]
  simp

theorem toNat_identifierByte (kind : FrameKind) (a : Address) :
    (identifierByte kind a).toNat = 32 * kind.code + 8 * a.val + (7 - (kind.code + 3 * a.val) % 8) := by
  have hkind : kind.code ≤ 4 := by cases kind <;> simp [FrameKind.code]
  have ha := a.isLt
  rw [identifierByte, byte, BitVec.toNat_ofNat]
  omega

/-! ## The first character that shows an error (R125) -/

section Inits

variable {α β : Type} {f : List α → Option β}

theorem findSome_inits_none {xs : List α} (h : ∀ l, l <+: xs → f l = none) : xs.inits.findSome? f = none := by
  rw [List.findSome?_eq_none_iff]
  exact fun l hl => h l ((List.mem_inits ..).1 hl)

theorem findSome_inits_first (ys : List α) {e : β} (h : f [] = some e) : ys.inits.findSome? f = some e := by
  cases ys <;> simp [List.inits, h]

theorem findSome_inits_at {xs ys : List α} {c : α} {e : β} (hbefore : ∀ l, l <+: xs → f l = none)
    (hat : f (xs ++ [c]) = some e) : (xs ++ c :: ys).inits.findSome? f = some e := by
  induction xs generalizing f with
  | nil =>
    have hempty : f [] = none := hbefore [] (List.prefix_refl [])
    rw [List.nil_append, List.inits_cons, List.findSome?_cons, hempty, List.findSome?_map]
    exact findSome_inits_first ys hat
  | cons x rest ih =>
    have hempty : f [] = none := hbefore [] List.nil_prefix
    rw [List.cons_append, List.inits_cons, List.findSome?_cons, hempty, List.findSome?_map]
    exact ih (f := f ∘ (x :: ·)) (fun l hl => hbefore (x :: l) (List.cons_prefix_cons.2 ⟨rfl, hl⟩)) hat

end Inits

/-! ## Responses (R125, R200) -/

theorem endingError_characters (openSlot : Bool) (bytes : List Byte) :
    endingError openSlot (bytes.map characterOf) = responseFault openSlot bytes := by
  cases hlast : bytes.getLast? with
  | none =>
    obtain rfl := List.getLast?_eq_none_iff.1 hlast
    rfl
  | some b =>
    have hmapped : (bytes.map characterOf).getLast? = some (characterOf b) := by rw [List.getLast?_map, hlast]; rfl
    rw [endingError, hmapped, map_dataOf_characterOf]
    simp only [stopsRight_characterOf, if_true]

/-- A prefix of characters made from bytes is made from a prefix of the bytes. -/
theorem prefix_characters {l : List LineChar} {bytes : List Byte} (h : l <+: bytes.map characterOf) :
    l = (bytes.take l.length).map characterOf := by
  rw [List.map_take]
  exact List.prefix_iff_eq_take.1 h

/-- What a response says fixes its kind and its length, and an ENROL's wish is an address or none. -/
theorem decodeResponse_some {payload : List Byte} {r : Response} (h : decodeResponse payload = some r) :
    ∃ kind body, payload = kind :: body ∧ responseLength kind.toNat = some payload.length ∧
      (kind.toNat = 0x40 ↔ ∃ x w, r = .enrol x w) ∧
      (kind.toNat = 0x40 → (payload.getD 7 0).toNat ≤ 3 ∨ (payload.getD 7 0).toNat = 255) := by
  cases payload with
  | nil => cases h
  | cons kind body =>
    refine ⟨kind, body, rfl, ?_⟩
    rw [decodeResponse] at h
    split at h
    · next hlength =>
      refine ⟨hlength, ?_⟩
      split at h
      · next hkind => cases h; simp [hkind]
      · next hkind => cases h; simp [hkind]
      · next hkind => cases h; simp [hkind]
      · next hkind => cases h; simp [hkind]
      · next hkind =>
        obtain ⟨w, hw, rfl⟩ := Option.map_eq_some_iff.1 h
        refine ⟨⟨fun _ => ⟨_, _, rfl⟩, fun _ => hkind⟩, fun _ => ?_⟩
        rw [List.getD_cons_succ]
        unfold wishOf at hw
        split at hw
        · next hsmall => exact .inl (Nat.le_of_lt_succ hsmall)
        · split at hw
          · next hnone => exact .inr hnone
          · cases hw
      · cases h
    · cases h

theorem byteSum_concat (bytes : List Byte) (sum : Byte) : byteSum (bytes ++ [sum]) = byteSum bytes + sum := by
  simp [byteSum]

theorem receivedOf_cons {c : LineChar} {n : Nat} (h : responseLength (dataOf c).toNat = some n) (rest : List LineChar) :
    receivedOf (c :: rest) = (c :: rest).take (n + 1) := by
  rw [receivedOf, h]
  rfl

/-- The error that data bytes show whose kind the slot takes, with a wish as it should be: a bad checksum. -/
theorem responseFault_of_taken {openSlot : Bool} {kind : Byte} {rest : List Byte} {n : Nat}
    (hlength : responseLength kind.toNat = some n) (htaken : kindTaken openSlot kind.toNat = true)
    (hwish : kind.toNat = 0x40 → 8 ≤ (kind :: rest).length →
      ((kind :: rest).getD 7 0).toNat ≤ 3 ∨ ((kind :: rest).getD 7 0).toNat = 255) :
    responseFault openSlot (kind :: rest) =
      if n + 1 ≤ (kind :: rest).length ∧ byteSum ((kind :: rest).take (n + 1)) ≠ 0 then some .checksum else none := by
  have hwished : ¬ (kind.toNat = 0x40 ∧ 8 ≤ (kind :: rest).length ∧
      ¬ (((kind :: rest).getD 7 0).toNat ≤ 3 ∨ ((kind :: rest).getD 7 0).toNat = 255)) :=
    fun ⟨hkind, hlong, hbad⟩ => hbad (hwish hkind hlong)
  have hkind : ¬ ¬ kindTaken openSlot kind.toNat = true := not_not.2 htaken
  simp only [responseFault, hlength]
  rw [if_neg hkind, if_neg hwished]

section Payload

variable {openSlot : Bool} {payload : List Byte} {r : Response}

theorem kindTaken_iff {kind : Byte} (hkind : kind.toNat = 0x40 ↔ ∃ x w, r = .enrol x w)
    (hslot : openSlot = true ↔ ∃ x w, r = .enrol x w) : kindTaken openSlot kind.toNat = true := by
  rw [kindTaken, beq_iff_eq, Bool.eq_iff_iff, beq_iff_eq, hkind, hslot]

/-- No part of a payload shows an error. -/
theorem responseFault_take (h : decodeResponse payload = some r) (hslot : openSlot = true ↔ ∃ x w, r = .enrol x w)
    {n : Nat} (hn : n ≤ payload.length) : responseFault openSlot (payload.take n) = none := by
  obtain ⟨kind, body, rfl, hlength, hkind, hwish⟩ := decodeResponse_some h
  cases n with
  | zero => rfl
  | succ n =>
    have hshort : ((kind :: body).take (n + 1)).length = n + 1 := List.length_take_of_le hn
    rw [List.take_succ_cons] at hshort ⊢
    rw [responseFault_of_taken hlength (kindTaken_iff hkind hslot)]
    · rw [if_neg]
      rintro ⟨hlong, _⟩
      omega
    · intro henrol hlong
      have hsame : (kind :: body.take n).getD 7 0 = (kind :: body).getD 7 0 := by
        rw [← List.take_succ_cons]
        simp only [List.getD_eq_getElem?_getD]
        rw [List.getElem?_take_of_lt (by omega)]
      rw [hsame]
      exact hwish henrol

/-- A whole response shows a bad checksum alone. -/
theorem responseFault_whole (h : decodeResponse payload = some r) (hslot : openSlot = true ↔ ∃ x w, r = .enrol x w)
    (sum : Byte) :
    responseFault openSlot (payload ++ [sum]) = if byteSum payload + sum ≠ 0 then some .checksum else none := by
  obtain ⟨kind, body, rfl, hlength, hkind, hwish⟩ := decodeResponse_some h
  rw [← byteSum_concat, List.cons_append, responseFault_of_taken hlength (kindTaken_iff hkind hslot)]
  · have hall : ((kind :: (body ++ [sum])).take ((kind :: body).length + 1)) = kind :: (body ++ [sum]) :=
      List.take_of_length_le (by simp)
    rw [hall]
    simp
  · intro henrol _
    have hlong : (kind :: body).length = 8 := by
      rw [henrol] at hlength
      exact (Option.some.inj hlength).symm
    have hsame : (kind :: (body ++ [sum])).getD 7 0 = (kind :: body).getD 7 0 := by
      rw [← List.cons_append]
      simp only [List.getD_eq_getElem?_getD]
      rw [List.getElem?_append_left (by omega)]
    rw [hsame]
    exact hwish henrol

/-- The port receives the payload and the checksum character, whatever follows them. -/
theorem receivedOf_response (h : decodeResponse payload = some r) (sum : Byte) (more : List LineChar) :
    receivedOf ((payload ++ [sum]).map characterOf ++ more) = (payload ++ [sum]).map characterOf := by
  obtain ⟨kind, body, rfl, hlength, _⟩ := decodeResponse_some h
  rw [List.cons_append, List.map_cons, List.cons_append, receivedOf_cons (by rw [dataOf_characterOf]; exact hlength)]
  rw [← List.cons_append, ← List.map_cons, ← List.cons_append]
  refine List.take_left' ?_
  simp

theorem endingError_take (h : decodeResponse payload = some r) (hslot : openSlot = true ↔ ∃ x w, r = .enrol x w)
    {l : List LineChar} (hl : l <+: payload.map characterOf) : endingError openSlot l = none := by
  have hlength := hl.length_le
  rw [prefix_characters hl, endingError_characters]
  exact responseFault_take h hslot (by simpa using hlength)

/-- The characters of a response with a good checksum are accepted as it. -/
theorem acceptedResponse_of (h : decodeResponse payload = some r) (hslot : openSlot = true ↔ ∃ x w, r = .enrol x w)
    (more : List LineChar) : acceptedResponse openSlot (responseCharacters payload ++ more) = some r := by
  have hnone : responseError openSlot (responseCharacters payload ++ more) = none := by
    rw [responseError, responseCharacters, receivedOf_response h]
    refine findSome_inits_none fun l hl => ?_
    rw [List.map_append, List.map_singleton] at hl
    obtain rfl | hshort := List.prefix_concat_iff.1 hl
    · have hwhole := endingError_characters openSlot (payload ++ [-(byteSum payload)])
      rw [List.map_append, List.map_singleton] at hwhole
      rw [hwhole, responseFault_whole h hslot, add_neg_cancel]
      rfl
    · exact endingError_take h hslot hshort
  rw [acceptedResponse, if_pos hnone, responseCharacters, receivedOf_response h, map_dataOf_characterOf,
    List.dropLast_concat]
  exact h

theorem responseError_checksum (h : decodeResponse payload = some r) (hslot : openSlot = true ↔ ∃ x w, r = .enrol x w)
    {sum : Byte} (hsum : sum ≠ -(byteSum payload)) (more : List LineChar) :
    responseError openSlot ((payload ++ [sum]).map characterOf ++ more) = some .checksum := by
  rw [responseError, receivedOf_response h, List.map_append, List.map_singleton]
  refine findSome_inits_at (fun l hl => endingError_take h hslot hl) ?_
  have hwhole := endingError_characters openSlot (payload ++ [sum])
  rw [List.map_append, List.map_singleton] at hwhole
  rw [hwhole, responseFault_whole h hslot, if_pos fun hzero => hsum (eq_neg_of_add_eq_zero_right hzero)]

theorem endingError_noStop (before : List LineChar) {c : LineChar} (hstop : c.getLsbD 0 = false) :
    endingError openSlot (before ++ [c]) = some .checksum := by
  have hwrong : stopsRight c = false := hstop
  have hlast : (before ++ [c]).getLast? = some c := List.getLast?_concat
  rw [endingError, hlast]
  simp only [hwrong]
  rfl

theorem responseError_noStop (h : decodeResponse payload = some r) (hslot : openSlot = true ↔ ∃ x w, r = .enrol x w)
    {before after : List Byte} {c : LineChar} (more : List LineChar)
    (hbytes : payload ++ [-(byteSum payload)] = before ++ dataOf c :: after) (hstop : c.getLsbD 0 = false) :
    responseError openSlot (before.map characterOf ++ c :: more) = some .checksum := by
  have hlengths := congrArg List.length hbytes
  simp only [List.length_append, List.length_cons, List.length_nil] at hlengths
  have hbefore : before = payload.take before.length := by
    have htaken := congrArg (List.take before.length) hbytes
    rw [List.take_left, List.take_append_of_le_length (by omega)] at htaken
    exact htaken.symm
  obtain ⟨ys, hreceived⟩ :
      ∃ ys, receivedOf (before.map characterOf ++ c :: more) = before.map characterOf ++ c :: ys := by
    obtain ⟨kind, body, rfl, hlength, _⟩ := decodeResponse_some h
    have hfirst : ∃ d rest, before.map characterOf ++ c :: more = d :: rest ∧ dataOf d = kind := by
      cases before with
      | nil => exact ⟨c, more, rfl, (List.cons.inj hbytes).1.symm⟩
      | cons b others => exact ⟨characterOf b, _, rfl, by rw [dataOf_characterOf]; exact (List.cons.inj hbytes).1.symm⟩
    obtain ⟨d, rest, hcons, hkind⟩ := hfirst
    rw [hcons, receivedOf_cons (by rw [hkind]; exact hlength), ← hcons, List.take_append, List.take_of_length_le (by
      rw [List.length_map]
      omega), List.length_map]
    obtain ⟨m, hm⟩ : ∃ m, (kind :: body).length + 1 - before.length = m + 1 :=
      ⟨(kind :: body).length - before.length, by omega⟩
    rw [hm]
    exact ⟨_, rfl⟩
  rw [responseError, hreceived]
  refine findSome_inits_at (fun l hl => endingError_take h hslot (hl.trans ?_)) (endingError_noStop _ hstop)
  rw [hbefore, List.map_take]
  exact List.take_prefix _ _

end Payload

end Sys2Proof.Machine

/-! O10: the responses of Figure 11-7, and the errors that a wrong one shows. -/

namespace Sys2Proof.Machine

theorem ofNat_bytesOf {n w : Nat} (x : BitVec n) (h : 2 ^ n ≤ 256 ^ w) :
    BitVec.ofNat n (numberOf (bytesOf w x.toNat)) = x := by
  rw [numberOf_bytesOf_of_lt (x.isLt.trans_le h), BitVec.ofNat_toNat, BitVec.setWidth_eq]

/-! ## The payloads (Figure 11-7) -/

theorem decodeResponse_short (turnaround : BitVec 32) :
    decodeResponse (0x11#8 :: bytesOf 4 turnaround.toNat) = some (.echo { turnaround := turnaround, ret := none }) := by
  have hlength : responseLength (0x11#8).toNat = some (0x11#8 :: bytesOf 4 turnaround.toNat).length := by
    rw [List.length_cons, length_bytesOf]
    rfl
  have hnumber := ofNat_bytesOf (w := 4) turnaround (by norm_num)
  rw [decodeResponse, if_pos hlength]
  change some (Response.echo { turnaround := BitVec.ofNat 32 (numberOf (bytesOf 4 turnaround.toNat)), ret := none }) = _
  rw [hnumber]

theorem decodeResponse_long (turnaround : BitVec 32) (offset : BitVec 24) (accuracy : BitVec 16) (validity : Byte) :
    decodeResponse (0x12#8 :: (bytesOf 4 turnaround.toNat ++ bytesOf 3 offset.toNat ++ bytesOf 2 accuracy.toNat ++
        [validity])) =
      some (.echo
        { turnaround := turnaround
          ret := some { offset := offset, accuracy := accuracy, validity := validity } }) := by
  have h4 := length_bytesOf 4 turnaround.toNat
  have h3 := length_bytesOf 3 offset.toNat
  have h2 := length_bytesOf 2 accuracy.toNat
  obtain ⟨body, hbody⟩ : ∃ body, bytesOf 4 turnaround.toNat ++ bytesOf 3 offset.toNat ++ bytesOf 2 accuracy.toNat ++
      [validity] = body := ⟨_, rfl⟩
  have hlength : responseLength (0x12#8).toNat = some (0x12#8 :: body).length := by
    rw [← hbody]
    simp only [List.length_cons, List.length_append, h4, h3, h2, List.length_nil]
    rfl
  have hturnaround : body.take 4 = bytesOf 4 turnaround.toNat := by
    rw [← hbody, List.append_assoc, List.append_assoc]
    exact List.take_left' h4
  have hoffset : (body.drop 4).take 3 = bytesOf 3 offset.toNat := by
    rw [← hbody, List.append_assoc _ (bytesOf 2 accuracy.toNat)]
    exact part_of_append h4 h3
  have haccuracy : (body.drop 7).take 2 = bytesOf 2 accuracy.toNat := by
    rw [← hbody]
    exact part_of_append (by simp only [List.length_append, h4, h3]) h2
  have hvalidity : body.getD 9 0 = validity := by
    rw [← hbody]
    simp [List.getD, h4, h3, h2]
  rw [hbody, decodeResponse, if_pos hlength]
  change some (Response.echo
    { turnaround := BitVec.ofNat 32 (numberOf (body.take 4))
      ret :=
        some
          { offset := BitVec.ofNat 24 (numberOf ((body.drop 4).take 3))
            accuracy := BitVec.ofNat 16 (numberOf ((body.drop 7).take 2)), validity := body.getD 9 0 } }) = _
  rw [hturnaround, hoffset, haccuracy, hvalidity, ofNat_bytesOf (w := 4) turnaround (by norm_num),
    ofNat_bytesOf (w := 3) offset (by norm_num), ofNat_bytesOf (w := 2) accuracy (by norm_num)]

theorem decodeResponse_enrol (x : Identity) {w : Byte} {wish : Option Address} (hwish : wishOf w = some wish) :
    decodeResponse (0x40#8 :: (bytesOf 6 x.toNat ++ [w])) = some (.enrol x wish) := by
  have h6 := length_bytesOf 6 x.toNat
  obtain ⟨body, hbody⟩ : ∃ body, bytesOf 6 x.toNat ++ [w] = body := ⟨_, rfl⟩
  have hlength : responseLength (0x40#8).toNat = some (0x40#8 :: body).length := by
    rw [← hbody]
    simp only [List.length_cons, List.length_append, h6, List.length_nil]
    rfl
  have hidentity : body.take 6 = bytesOf 6 x.toNat := by
    rw [← hbody]
    exact List.take_left' h6
  have hlast : body.getD 6 0 = w := by
    rw [← hbody]
    simp [List.getD, h6]
  rw [hbody, decodeResponse, if_pos hlength]
  change (wishOf (body.getD 6 0)).map (Response.enrol (BitVec.ofNat 48 (numberOf (body.take 6)))) = _
  rw [hlast, hwish, hidentity, ofNat_bytesOf (w := 6) x (by norm_num)]
  rfl

/-! ## Errors at the kind byte and at the wish byte -/

theorem responseLength_none {kind : Byte} (h : kind ≠ 0x11#8 ∧ kind ≠ 0x12#8 ∧ kind ≠ 0x20#8 ∧ kind ≠ 0x30#8 ∧ kind ≠ 0x40#8) :
    responseLength kind.toNat = none := by
  obtain ⟨h11, h12, h20, h30, h40⟩ := h
  unfold responseLength
  split
  · next hkind => exact absurd (BitVec.eq_of_toNat_eq hkind) h11
  · next hkind => exact absurd (BitVec.eq_of_toNat_eq hkind) h12
  · next hkind => exact absurd (BitVec.eq_of_toNat_eq hkind) h20
  · next hkind => exact absurd (BitVec.eq_of_toNat_eq hkind) h30
  · next hkind => exact absurd (BitVec.eq_of_toNat_eq hkind) h40
  · rfl

/-- A kind byte that is unknown or that the slot does not take shows RANGE. -/
theorem responseFault_kind {openSlot : Bool} {kind : Byte}
    (h : responseLength kind.toNat = none ∨ kindTaken openSlot kind.toNat = false) :
    responseFault openSlot [kind] = some .range := by
  cases hlength : responseLength kind.toNat with
  | none => simp only [responseFault, hlength]
  | some n =>
    obtain hnone | hnot := h
    · rw [hnone] at hlength
      cases hlength
    · simp only [responseFault, hlength, hnot, Bool.false_eq_true, not_false_eq_true, if_true]

theorem responseError_kind {openSlot : Bool} {kind : Byte} (h : responseFault openSlot [kind] = some .range)
    (more : List LineChar) : responseError openSlot (characterOf kind :: more) = some .range := by
  rw [responseError, receivedOf, List.take_succ_cons]
  exact findSome_inits_at (xs := []) (fun l hl => by rw [List.prefix_nil.1 hl]; rfl)
    ((endingError_characters openSlot [kind]).trans h)

/-- A wish that is neither an address nor none shows RANGE. -/
theorem responseError_wish (x : Identity) {w : Byte} (hlow : 4 ≤ w.toNat) (hnone : w ≠ 0xFF#8) (more : List LineChar) :
    responseError true ((0x40#8 :: (bytesOf 6 x.toNat ++ [w])).map characterOf ++ more) = some .range := by
  have h6 := length_bytesOf 6 x.toNat
  have hnone' : w.toNat ≠ 255 := fun h => hnone (BitVec.eq_of_toNat_eq h)
  have hreceived : receivedOf ((0x40#8 :: (bytesOf 6 x.toNat ++ [w])).map characterOf ++ more) =
      (0x40#8 :: bytesOf 6 x.toNat).map characterOf ++ characterOf w :: more.take 1 := by
    rw [List.map_cons, List.cons_append, receivedOf_cons (n := 8) (by rw [dataOf_characterOf]; rfl), List.take_succ_cons,
      List.map_append, List.append_assoc, List.take_append, List.take_of_length_le (by rw [List.length_map, h6]; norm_num),
      List.length_map, h6]
    rfl
  rw [responseError, hreceived]
  refine findSome_inits_at (fun l hl => ?_) ?_
  · rw [prefix_characters hl, endingError_characters]
    cases l.length with
    | zero => rfl
    | succ n =>
      have hshort : (0x40#8 :: (bytesOf 6 x.toNat).take n).length ≤ 7 := by
        rw [List.length_cons, List.length_take, h6]
        omega
      rw [List.take_succ_cons, responseFault_of_taken (n := 8) rfl rfl (fun _ hlong => by omega), if_neg]
      rintro ⟨hlong, _⟩
      omega
  · have hfault := endingError_characters true (0x40#8 :: bytesOf 6 x.toNat ++ [w])
    rw [List.map_append, List.map_singleton] at hfault
    rw [hfault]
    have hwish : (0x40#8 :: bytesOf 6 x.toNat ++ [w]).getD 7 0 = w := by simp [List.getD, h6]
    have hlength : (0x40#8 :: bytesOf 6 x.toNat ++ [w]).length = 8 := by
      simp only [List.length_append, List.length_cons, h6, List.length_nil]
    have hbad : (0x40#8).toNat = 0x40 ∧ 8 ≤ (0x40#8 :: bytesOf 6 x.toNat ++ [w]).length ∧
        ¬ (((0x40#8 :: bytesOf 6 x.toNat ++ [w]).getD 7 0).toNat ≤ 3 ∨
          ((0x40#8 :: bytesOf 6 x.toNat ++ [w]).getD 7 0).toNat = 255) := by
      rw [hwish, hlength]
      exact ⟨rfl, le_refl _, by omega⟩
    have hunfold : responseFault true (0x40#8 :: bytesOf 6 x.toNat ++ [w]) =
        if (0x40#8).toNat = 0x40 ∧ 8 ≤ (0x40#8 :: bytesOf 6 x.toNat ++ [w]).length ∧
          ¬ (((0x40#8 :: bytesOf 6 x.toNat ++ [w]).getD 7 0).toNat ≤ 3 ∨
            ((0x40#8 :: bytesOf 6 x.toNat ++ [w]).getD 7 0).toNat = 255) then some .range
        else if 8 + 1 ≤ (0x40#8 :: bytesOf 6 x.toNat ++ [w]).length ∧
          byteSum ((0x40#8 :: bytesOf 6 x.toNat ++ [w]).take (8 + 1)) ≠ 0 then some .checksum
        else none := rfl
    rw [hunfold, if_pos hbad]

/-- Settles O10: the bits of a character and of a frame, each response's payload, and the first character that shows an
error. -/
theorem lineCharactersMakeFramesAndResponses : Obligations.LineCharactersMakeFramesAndResponses := by
  unfold Obligations.LineCharactersMakeFramesAndResponses
  refine ⟨characterLevels_characterOf, fun f => ⟨identifierByte f.kind f.address,
      -(byteSum (identifierByte f.kind f.address :: f.payload)), rfl, toNat_identifierByte _ _, ?_⟩,
    fun turnaround offset accuracy validity more => ⟨acceptedResponse_of (decodeResponse_short turnaround) (by simp) more,
      acceptedResponse_of (decodeResponse_long turnaround offset accuracy validity) (by simp) more,
      acceptedResponse_of rfl (by simp) more, acceptedResponse_of rfl (by simp) more⟩,
    fun x w more => ⟨fun hw => acceptedResponse_of (decodeResponse_enrol x (dif_pos hw)) (by simp) more,
      fun hw => acceptedResponse_of (decodeResponse_enrol x ?_) (by simp) more,
      fun hlow hnone => responseError_wish x hlow hnone more⟩,
    fun openSlot kind more h => responseError_kind (responseFault_kind ?_) more,
    fun openSlot payload r hdecode hslot => ⟨?_, fun sum more hsum => responseError_checksum hdecode hslot hsum more,
      fun before after c more hbytes hstop => responseError_noStop hdecode hslot more hbytes hstop⟩⟩
  · have hsum := toNat_byteSum (identifierByte f.kind f.address :: f.payload)
    have hlt := (byteSum (identifierByte f.kind f.address :: f.payload)).isLt
    rw [List.map_cons, List.sum_cons] at hsum
    rw [BitVec.toNat_neg]
    omega
  · subst hw
    rfl
  · obtain hunknown | ⟨rfl, rfl⟩ | ⟨hkind, rfl⟩ := h
    · exact .inl (responseLength_none hunknown)
    · exact .inr rfl
    · refine .inr ?_
      rw [kindTaken, beq_eq_false_iff_ne]
      intro htaken
      exact hkind (BitVec.eq_of_toNat_eq (beq_iff_eq.1 htaken))
  · have haccepted := acceptedResponse_of hdecode hslot []
    rwa [List.append_nil] at haccepted

end Sys2Proof.Machine

/-! SUPPORT. What a sample makes of a slot record, and of the news of the slot (R42 to R46). -/

namespace Sys2Proof.Machine

/-- A slot record that enters a state, its runs at zero. -/
def SlotRecord.entered (state : SlotState) (r : SlotRecord) : SlotRecord :=
  { r with state := state, goodRun := 0, badRun := 0, outlierRun := 0 }

/-- A QUALIFIED slot's record after a sample (R44, R45). -/
def qualifiedAfter (o : SampleOutcome) (r : SlotRecord) : SlotRecord :=
  match o with
  | .good => { r with badRun := 0, outlierRun := 0 }
  | .outlier => if 3 ≤ r.outlierRun + 1 then r.entered .failed else { r with outlierRun := r.outlierRun + 1 }
  | .missing => if r.holdOff < r.badRun + 1 then r.entered .failed else { r with badRun := r.badRun + 1 }
  | .invalid => if r.holdOff < r.badRun + 1 then r.entered .failed else { r with badRun := r.badRun + 1 }

/-- A CANDIDATE slot's record after a sample (R43). -/
def candidateAfter (o : SampleOutcome) (r : SlotRecord) : SlotRecord :=
  if o = .good then
    if r.wtr ≤ min (r.goodRun + 1) 65535 then r.entered .qualified
    else { r with goodRun := min (r.goodRun + 1) 65535 }
  else { r with goodRun := 0 }

/-- A FAILED slot's record after a sample (R46). -/
def failedAfter (o : SampleOutcome) (r : SlotRecord) : SlotRecord :=
  if o = .good then
    if r.wtr ≤ 1 then r.entered .qualified
    else { r with state := .candidate, goodRun := 1, badRun := 0, outlierRun := 0 }
  else r

/-- A slot's record after a sample (R42 to R46). -/
def slotAfter (o : SampleOutcome) (r : SlotRecord) : SlotRecord :=
  if r.forced then r
  else match r.state with
    | .disabled => r
    | .candidate => candidateAfter o r
    | .qualified => qualifiedAfter o r
    | .failed => failedAfter o r

/-- The part with a slot's record written, and the alarms to go with it. -/
def slotTold (k : SlotIx) (r : SlotRecord) (a : AlarmUnit) (p : Part) : Part := { p.setSlot k r with alarm := a }

/-- The news of a slot that has changed its state: QUALIFIED is raised at its entry, FAILED stands from the entry to FAILED
to the departure. -/
structure SlotNews (k : SlotIx) (p w : Part) : Prop where
  qualified : (w.slot k).state = .qualified → p.alarm.settings.slotThreshold = some .note →
    w.Reported (.slot k) .qualified (fun e => e.slot = some (some k))
  failed    : (w.slot k).state = .failed → hasCondition (w.alarm.standingOf (.slot k)) .failed = true
  left      : (p.slot k).state = .failed → hasCondition (w.alarm.standingOf (.slot k)) .failed = false

section Applied

variable {k : SlotIx} {o : SampleOutcome} {p q : Part}

theorem setSlot_same (p : Part) (k : SlotIx) : p.setSlot k (p.slot k) = p := by simp [Part.setSlot, Part.slot]

theorem slotTold_slotTold (k : SlotIx) (r r' : SlotRecord) (a b : AlarmUnit) (p : Part) :
    slotTold k r' b (slotTold k r a p) = slotTold k r' b p := by simp [slotTold, Part.setSlot]

theorem slotTold_slot (k : SlotIx) (r : SlotRecord) (a : AlarmUnit) (p : Part) : (slotTold k r a p).slot k = r :=
  slot_setSlot_self p k r

theorem enterQualified_eq (k : SlotIx) (q : Part) :
    enterQualified k q = slotTold k ((q.slot k).entered .qualified) (enterQualified k q).alarm q := rfl

theorem enterFailed_eq (k : SlotIx) (q : Part) :
    enterFailed k q = slotTold k ((q.slot k).entered .failed) (enterFailed k q).alarm q := rfl

/-- A slot that enters QUALIFIED, after another write of its record. -/
theorem enterQualified_slotTold (k : SlotIx) (r : SlotRecord) (a : AlarmUnit) (p : Part) :
    enterQualified k (slotTold k r a p) =
      slotTold k (r.entered .qualified) (enterQualified k (slotTold k r a p)).alarm p := by
  conv_lhs => rw [enterQualified_eq, slotTold_slot, slotTold_slotTold]

theorem enterQualified_reported (h : q.alarm.settings.slotThreshold = some .note) :
    (enterQualified k q).Reported (.slot k) .qualified (fun e => e.slot = some (some k)) := by
  refine (reported_report rfl rfl ?_).mono fun e shown => shown.slot _ rfl
  simp [AlarmUnit.atThreshold, AlarmUnit.threshold, slotReport, withSlot, h, Severity.code, Condition.severity]

theorem enterFailed_standing : hasCondition ((enterFailed k q).alarm.standingOf (.slot k)) .failed = true :=
  take_raised (r := slotReport .failed true k (withSlot k (SlotRecord.entered .failed) q)) rfl rfl

/-- A slot that enters FAILED, of a part in which it was in another state. -/
theorem failedNews (h : (p.slot k).state = .qualified) :
    SlotNews k p (slotTold k ((p.slot k).entered .failed) (enterFailed k p).alarm p) where
  qualified := by
    rw [slotTold_slot]
    nofun
  failed := fun _ => enterFailed_standing
  left := by
    rw [h]
    nofun

/-- What the Selector can do with a sample: write the slot's record, and when that changes its state tell of it and choose
once. -/
def Applies (k : SlotIx) (r : SlotRecord) (p q : Part) : Prop :=
  (q = p.setSlot k r ∧ r.state = (p.slot k).state) ∨
    ∃ c a, q = choose c (slotTold k r a p) ∧ r.state ≠ (p.slot k).state ∧ SlotNews k p (slotTold k r a p)

theorem applies_same : Applies k (p.slot k) p p := .inl ⟨(setSlot_same p k).symm, rfl⟩

/-- A slot that enters QUALIFIED, its record written before that and FAILED not standing. -/
theorem qualifiedNews {r : SlotRecord} {a : AlarmUnit} (hsettings : a.settings = p.alarm.settings)
    (hleft : (p.slot k).state = .failed → hasCondition (a.standingOf (.slot k)) .failed = false) :
    SlotNews k p (enterQualified k (slotTold k r a p)) where
  qualified := fun _ hthreshold => enterQualified_reported (by rw [← hthreshold, ← hsettings]; rfl)
  failed := by
    rw [enterQualified_slotTold, slotTold_slot]
    nofun
  left := fun h => (take_other fun hs => Bool.noConfusion hs).trans (hleft h)

theorem candidateGood_applies (h : (p.slot k).state = .candidate) :
    Applies k
      (if (p.slot k).wtr ≤ min ((p.slot k).goodRun + 1) 65535 then (p.slot k).entered .qualified
        else { p.slot k with goodRun := min ((p.slot k).goodRun + 1) 65535 }) p (candidateGood k p) := by
  obtain ⟨r, hr⟩ : ∃ r, { p.slot k with goodRun := min ((p.slot k).goodRun + 1) 65535 } = r := ⟨_, rfl⟩
  have hunfold : candidateGood k p =
      if (p.slot k).wtr ≤ min ((p.slot k).goodRun + 1) 65535 then
        choose .holdOff (enterQualified k (slotTold k r p.alarm p))
      else p.setSlot k r := by
    rw [← hr]
    rfl
  have hentered : r.entered .qualified = (p.slot k).entered .qualified := by rw [← hr]; rfl
  have hkept : r.state = (p.slot k).state := by rw [← hr]
  rw [hunfold, hr]
  split
  · have hnews := qualifiedNews (k := k) (p := p) (r := r) (a := p.alarm) rfl (by rw [h]; nofun)
    rw [enterQualified_slotTold, hentered] at hnews ⊢
    exact .inr ⟨.holdOff, _, rfl, by rw [h]; nofun, hnews⟩
  · exact .inl ⟨rfl, hkept⟩

theorem qualifiedSample_applies (o : SampleOutcome) (h : (p.slot k).state = .qualified) :
    Applies k (qualifiedAfter o (p.slot k)) p (qualifiedSample k o p) := by
  have fails (c : SelectionCause) : Applies k ((p.slot k).entered .failed) p (choose c (enterFailed k p)) :=
    .inr ⟨c, _, congrArg (choose c) (enterFailed_eq k p), by rw [h]; nofun, failedNews h⟩
  cases o with
  | good => exact .inl ⟨rfl, rfl⟩
  | outlier =>
    simp only [qualifiedSample, qualifiedAfter]
    split
    · exact fails .outliers
    · exact .inl ⟨rfl, rfl⟩
  | missing =>
    simp only [qualifiedSample, qualifiedAfter]
    split
    · exact fails .holdOff
    · exact .inl ⟨rfl, rfl⟩
  | invalid =>
    simp only [qualifiedSample, qualifiedAfter]
    split
    · exact fails .holdOff
    · exact .inl ⟨rfl, rfl⟩

theorem failedGood_applies (h : (p.slot k).state = .failed) :
    Applies k
      (if (p.slot k).wtr ≤ 1 then (p.slot k).entered .qualified
        else { p.slot k with state := .candidate, goodRun := 1, badRun := 0, outlierRun := 0 }) p (failedGood k p) := by
  obtain ⟨r, hr⟩ : ∃ r, { p.slot k with state := .candidate, goodRun := 1, badRun := 0, outlierRun := 0 } = r := ⟨_, rfl⟩
  obtain ⟨a, ha⟩ : ∃ a, (p.alarm.take (slotReport .failed false k (p.setSlot k r))) = a := ⟨_, rfl⟩
  have hunfold : failedGood k p =
      choose .holdOff (if (p.slot k).wtr ≤ 1 then enterQualified k (slotTold k r a p) else slotTold k r a p) := by
    rw [← ha, ← hr]
    rfl
  have hcleared : hasCondition (a.standingOf (.slot k)) .failed = false := by
    rw [← ha]
    exact take_cleared (r := slotReport .failed false k _) rfl rfl
  have hsettings : a.settings = p.alarm.settings := by
    rw [← ha]
    exact take_settings ..
  have hentered : r.entered .qualified = (p.slot k).entered .qualified := by rw [← hr]; rfl
  have hcandidate : r.state = .candidate := by rw [← hr]
  rw [hunfold, hr]
  split
  · have hnews := qualifiedNews (k := k) (r := r) hsettings fun _ => hcleared
    rw [enterQualified_slotTold, hentered] at hnews ⊢
    exact .inr ⟨.holdOff, _, rfl, by rw [h]; nofun, hnews⟩
  · refine .inr ⟨.holdOff, _, rfl, by rw [hcandidate, h]; nofun, ?_, ?_, fun _ => hcleared⟩
    · rw [slotTold_slot, hcandidate]
      nofun
    · rw [slotTold_slot, hcandidate]
      nofun

/-! ## The states one by one -/

theorem slotAfter_idle {r : SlotRecord} (o : SampleOutcome) (h : r.forced = true ∨ r.state = .disabled) : slotAfter o r = r := by
  unfold slotAfter
  split
  · rfl
  · obtain hforced | hdisabled := h
    · exact absurd hforced ‹_›
    · simp only [hdisabled]

theorem slotAfter_candidate {r : SlotRecord} (o : SampleOutcome) (hforced : r.forced = false) (h : r.state = .candidate) :
    slotAfter o r = candidateAfter o r := by
  rw [slotAfter, if_neg (by simp [hforced])]
  simp only [h]

theorem slotAfter_qualified {r : SlotRecord} (o : SampleOutcome) (hforced : r.forced = false) (h : r.state = .qualified) :
    slotAfter o r = qualifiedAfter o r := by
  rw [slotAfter, if_neg (by simp [hforced])]
  simp only [h]

theorem slotAfter_failed {r : SlotRecord} (o : SampleOutcome) (hforced : r.forced = false) (h : r.state = .failed) :
    slotAfter o r = failedAfter o r := by
  rw [slotAfter, if_neg (by simp [hforced])]
  simp only [h]

/-- What the Selector makes of a sample. -/
theorem applySample_applies (k : SlotIx) (o : SampleOutcome) (p : Part) :
    Applies k (slotAfter o (p.slot k)) p (applySample k o p) := by
  by_cases hforced : (p.slot k).forced = true
  · rw [slotAfter_idle o (.inl hforced), applySample, if_pos hforced]
    exact applies_same
  · have hfree : (p.slot k).forced = false := by simpa using hforced
    rw [applySample, if_neg hforced]
    split
    · next hstate =>
      rw [slotAfter_idle o (.inr hstate)]
      exact applies_same
    · next hstate =>
      rw [slotAfter_candidate o hfree hstate]
      by_cases ho : o = .good
      · rw [if_pos ho, candidateAfter, if_pos ho]
        exact candidateGood_applies hstate
      · rw [if_neg ho, candidateAfter, if_neg ho]
        exact .inl ⟨rfl, rfl⟩
    · next hstate =>
      rw [slotAfter_qualified o hfree hstate]
      exact qualifiedSample_applies o hstate
    · next hstate =>
      rw [slotAfter_failed o hfree hstate]
      by_cases ho : o = .good
      · rw [if_pos ho, failedAfter, if_pos ho]
        exact failedGood_applies hstate
      · rw [if_neg ho, failedAfter, if_neg ho]
        exact applies_same

end Applied

end Sys2Proof.Machine

/-! SUPPORT. O18's clauses on one sample: each state of a slot, the jump check, and the thresholds that a PKT message
reaches. -/

namespace Sys2Proof.Machine

section Applied

variable {k : SlotIx} {o : SampleOutcome} {p : Part}

/-! ## The slot after a sample (R42 to R46) -/

theorem applySample_slot (k : SlotIx) (o : SampleOutcome) (p : Part) :
    (applySample k o p).slot k = slotAfter o (p.slot k) := by
  obtain ⟨h, _⟩ | ⟨c, a, h, _⟩ := applySample_applies k o p
  · rw [h, slot_setSlot_self]
  · rw [h, choose_slot, slotTold_slot]

theorem applySample_stays (h : (slotAfter o (p.slot k)).state = (p.slot k).state) :
    applySample k o p = p.setSlot k (slotAfter o (p.slot k)) := by
  obtain ⟨happlied, _⟩ | ⟨_, _, _, hmoved, _⟩ := applySample_applies k o p
  · exact happlied
  · exact absurd h hmoved

/-- A sample that moves a slot's state is told, and one choice follows. -/
theorem applySample_moves (h : (slotAfter o (p.slot k)).state ≠ (p.slot k).state) :
    ∃ c a, applySample k o p = choose c (slotTold k (slotAfter o (p.slot k)) a p) ∧
      SlotNews k p (slotTold k (slotAfter o (p.slot k)) a p) := by
  obtain ⟨_, hstays⟩ | ⟨c, a, happlied, _, hnews⟩ := applySample_applies k o p
  · exact absurd hstays h
  · exact ⟨c, a, happlied, hnews⟩

theorem applySample_qualified (h : (slotAfter o (p.slot k)).state = .qualified) (hbefore : (p.slot k).state ≠ .qualified)
    (hthreshold : p.alarm.settings.slotThreshold = some .note) :
    (applySample k o p).Reported (.slot k) .qualified (fun e => e.slot = some (some k)) := by
  obtain ⟨c, a, happlied, hnews⟩ := applySample_moves (k := k) (o := o) (p := p) (by rw [h]; exact hbefore.symm)
  have hreported := hnews.qualified (by rw [slotTold_slot]; exact h) hthreshold
  rw [happlied]
  exact Part.Carries.within (o := .slot k) hreported ((Within.refl .choosing _).choose Access.choosing_choice c) nofun

theorem applySample_failed (h : (slotAfter o (p.slot k)).state = .failed) (hbefore : (p.slot k).state ≠ .failed) :
    hasCondition ((applySample k o p).alarm.standingOf (.slot k)) .failed = true ∧
      (applySample k o p).selected ≠ some k := by
  obtain ⟨c, a, happlied, hnews⟩ := applySample_moves (k := k) (o := o) (p := p) (by rw [h]; exact hbefore.symm)
  rw [happlied, choose_slotStanding]
  refine ⟨hnews.failed (by rw [slotTold_slot]; exact h), choose_selected_ne ?_⟩
  rw [Part.eligible, slotTold_slot, h]
  rfl

theorem applySample_left (h : (slotAfter o (p.slot k)).state ≠ .failed) (hbefore : (p.slot k).state = .failed) :
    hasCondition ((applySample k o p).alarm.standingOf (.slot k)) .failed = false := by
  obtain ⟨c, a, happlied, hnews⟩ := applySample_moves (k := k) (o := o) (p := p) (by rw [hbefore]; exact h)
  rw [happlied, choose_slotStanding]
  exact hnews.left hbefore

theorem applySample_selected (h : (slotAfter o (p.slot k)).state ≠ (p.slot k).state) :
    (applySample k o p).selected = (p.setSlot k (slotAfter o (p.slot k))).choice := by
  obtain ⟨c, a, happlied, _⟩ := applySample_moves h
  rw [happlied, choose_selected]
  rfl

theorem applySample_inputs (k : SlotIx) (o : SampleOutcome) (p : Part) : (applySample k o p).inputs = p.inputs := by
  obtain ⟨h, _⟩ | ⟨c, a, h, _⟩ := applySample_applies k o p
  · rw [h]
    rfl
  · rw [h, choose_inputs]
    rfl

/-- A MISSING or INVALID sample of a QUALIFIED slot (R44). -/
theorem qualifiedAfter_bad (h : o = .missing ∨ o = .invalid) (r : SlotRecord) :
    qualifiedAfter o r = if r.holdOff < r.badRun + 1 then r.entered .failed else { r with badRun := r.badRun + 1 } := by
  obtain rfl | rfl := h
  · rfl
  · rfl

end Applied

/-- O18's first clause: what a sample moves, state by state. -/
theorem sampleMovesTheSlot (p q : Part) (k : SlotIx) (o : SampleOutcome) (r : SlotRecord) (hr : r = p.slot k)
    (hq : q = applySample k o p) :
    KeepsTables p q ∧ KeepsBase p q ∧ q.inputs = p.inputs ∧ q.mgmt = p.mgmt ∧ KeepsOtherSlots k p q ∧
      ((q.slot k).state ≠ r.state → q.selected = (p.setSlot k (q.slot k)).choice) ∧
      ((q.slot k).state = r.state → q = p.setSlot k (q.slot k)) ∧
      (r.forced = true ∨ r.state = .disabled → q.slot k = r) ∧
      (r.forced = false → r.state = .candidate → o = .good →
        (r.wtr ≤ min (r.goodRun + 1) 65535 →
          q.slot k = { r with state := .qualified, goodRun := 0, badRun := 0, outlierRun := 0 } ∧
          (p.alarm.settings.slotThreshold = some .note →
            q.Reported (.slot k) .qualified (fun e => e.slot = some (some k)))) ∧
        (min (r.goodRun + 1) 65535 < r.wtr → q.slot k = { r with goodRun := min (r.goodRun + 1) 65535 })) ∧
      (r.forced = false → r.state = .candidate → o ≠ .good → q.slot k = { r with goodRun := 0 }) ∧
      (r.forced = false → r.state = .qualified → o = .good → q.slot k = { r with badRun := 0, outlierRun := 0 }) ∧
      (r.forced = false → r.state = .qualified → o = .missing ∨ o = .invalid →
        (r.badRun + 1 ≤ r.holdOff → q.slot k = { r with badRun := r.badRun + 1 }) ∧
        (r.holdOff < r.badRun + 1 →
          q.slot k = { r with state := .failed, goodRun := 0, badRun := 0, outlierRun := 0 } ∧
          hasCondition (q.alarm.standingOf (.slot k)) .failed = true)) ∧
      (r.forced = false → r.state = .qualified → o = .outlier →
        (r.outlierRun + 1 < 3 → q.slot k = { r with outlierRun := r.outlierRun + 1 }) ∧
        (3 ≤ r.outlierRun + 1 →
          q.slot k = { r with state := .failed, goodRun := 0, badRun := 0, outlierRun := 0 } ∧
          hasCondition (q.alarm.standingOf (.slot k)) .failed = true)) ∧
      (r.forced = false → r.state = .failed → o = .good →
        hasCondition (q.alarm.standingOf (.slot k)) .failed = false ∧
        (1 < r.wtr → q.slot k = { r with state := .candidate, goodRun := 1, badRun := 0, outlierRun := 0 }) ∧
        (r.wtr ≤ 1 →
          q.slot k = { r with state := .qualified, goodRun := 0, badRun := 0, outlierRun := 0 } ∧
          (p.alarm.settings.slotThreshold = some .note →
            q.Reported (.slot k) .qualified (fun e => e.slot = some (some k))))) ∧
      (r.forced = false → r.state = .failed → o ≠ .good → q = p) := by
  subst hr hq
  have frame := SampleFrame.applySample k o p
  have hslot := applySample_slot k o p
  refine ⟨frame.tables, frame.base, applySample_inputs k o p, frame.mgmt, frame.slots, fun h => ?_, fun h => ?_,
    fun h => ?_, fun hforced hstate ho => ⟨fun hwtr => ?_, fun hwtr => ?_⟩, fun hforced hstate ho => ?_,
    fun hforced hstate ho => ?_, fun hforced hstate ho => ⟨fun hrun => ?_, fun hrun => ?_⟩,
    fun hforced hstate ho => ⟨fun hrun => ?_, fun hrun => ?_⟩, fun hforced hstate ho => ⟨?_, fun hwtr => ?_, fun hwtr => ?_⟩,
    fun hforced hstate ho => ?_⟩
  · rw [hslot] at h ⊢
    exact applySample_selected h
  · rw [hslot] at h ⊢
    exact applySample_stays h
  · rw [hslot, slotAfter_idle o h]
  · have hafter : slotAfter o (p.slot k) = (p.slot k).entered .qualified := by
      rw [slotAfter_candidate o hforced hstate, candidateAfter, if_pos ho, if_pos hwtr]
    exact ⟨hslot.trans hafter, applySample_qualified (by rw [hafter]; rfl) (by rw [hstate]; nofun)⟩
  · rw [hslot, slotAfter_candidate o hforced hstate, candidateAfter, if_pos ho, if_neg (not_le.2 hwtr)]
  · rw [hslot, slotAfter_candidate o hforced hstate, candidateAfter, if_neg ho]
  · rw [hslot, slotAfter_qualified o hforced hstate, ho]
    rfl
  · rw [hslot, slotAfter_qualified o hforced hstate, qualifiedAfter_bad ho, if_neg (by omega)]
  · have hafter : slotAfter o (p.slot k) = (p.slot k).entered .failed := by
      rw [slotAfter_qualified o hforced hstate, qualifiedAfter_bad ho, if_pos hrun]
    exact ⟨hslot.trans hafter, (applySample_failed (by rw [hafter]; rfl) (by rw [hstate]; nofun)).1⟩
  · rw [hslot, slotAfter_qualified o hforced hstate, ho]
    exact if_neg (by omega)
  · have hafter : slotAfter o (p.slot k) = (p.slot k).entered .failed := by
      rw [slotAfter_qualified o hforced hstate, ho]
      exact if_pos hrun
    exact ⟨hslot.trans hafter, (applySample_failed (by rw [hafter]; rfl) (by rw [hstate]; nofun)).1⟩
  · refine applySample_left ?_ hstate
    rw [slotAfter_failed o hforced hstate, failedAfter, if_pos ho]
    split
    · nofun
    · nofun
  · rw [hslot, slotAfter_failed o hforced hstate, failedAfter, if_pos ho, if_neg (by omega)]
  · have hafter : slotAfter o (p.slot k) = (p.slot k).entered .qualified := by
      rw [slotAfter_failed o hforced hstate, failedAfter, if_pos ho, if_pos hwtr]
    exact ⟨hslot.trans hafter, applySample_qualified (by rw [hafter]; rfl) (by rw [hstate]; nofun)⟩
  · have hafter : slotAfter o (p.slot k) = p.slot k := by
      rw [slotAfter_failed o hforced hstate, failedAfter, if_neg ho]
    rw [applySample_stays (by rw [hafter]), hafter]
    exact setSlot_same p k

end Sys2Proof.Machine

/-! SUPPORT. The jump check on a sample, and the thresholds that a PKT message reaches (R33, R34, R43 to R45). -/

namespace Sys2Proof.Machine

/-! ## The jump check (R33, R34) -/

theorem jumpOutcome_beyond {reference : Option Int} {limit v : Int} {beyond : Bool}
    (h : beyond = (match reference with
      | none => false
      | some x => decide (limit < magnitude (v - x)))) :
    jumpOutcome reference limit v = if beyond then .outlier else .good := by
  subst h
  cases reference <;> simp [jumpOutcome]

theorem jumpAfter_beyond {limit v : Int} {x : SlotInput} {beyond : Bool}
    (h : jumpOutcome x.jumpReference limit v = if beyond then .outlier else .good) :
    jumpAfter limit v x =
      { x with
        jumpReference := if beyond = true ∧ x.jumpRun < 2 then x.jumpReference else some v
        jumpRun := if beyond = true ∧ x.jumpRun < 2 then x.jumpRun + 1 else 0 } := by
  cases beyond with
  | false =>
    rw [if_neg (by simp)] at h
    simp only [jumpAfter, h, Bool.false_eq_true, false_and, if_false]
  | true =>
    rw [if_pos rfl] at h
    simp only [jumpAfter, h, true_and]
    by_cases hrun : x.jumpRun < 2
    · rw [if_neg (by omega), if_pos hrun, if_pos hrun]
    · rw [if_pos (by omega), if_neg hrun, if_neg hrun]

/-- O18's second clause: a sample that is read goes through the jump check. -/
theorem sampleIsChecked (p : Part) (k : SlotIx) (v : Int) (accuracy scale : Option Int) (second : Nat) (beyond : Bool)
    (h : beyond = (match (p.input k).jumpReference with
      | none => false
      | some x => decide ((p.slot k).jumpLimit * 65536 < magnitude (v - x)))) :
    completeRead k false v accuracy scale second p =
      applySample k (if beyond then .outlier else .good)
        (p.setInput k
          { p.input k with
            last := some
              { outcome := if beyond then .outlier else .good, value := some v, accuracy := accuracy, scale := scale
                second := second, fresh := true }
            completed := true
            jumpReference := if beyond = true ∧ (p.input k).jumpRun < 2 then (p.input k).jumpReference else some v
            jumpRun := if beyond = true ∧ (p.input k).jumpRun < 2 then (p.input k).jumpRun + 1 else 0 }) := by
  have houtcome : jumpOutcome (p.input k).jumpReference (toQ (p.slot k).jumpLimit) v = if beyond then .outlier else .good :=
    jumpOutcome_beyond h
  have hjudged : completeRead k false v accuracy scale second p = completeJudged k v accuracy scale second p := rfl
  rw [hjudged]
  simp only [completeJudged, completeSample, houtcome]
  rw [withInput_withInput, withInput, jumpAfter_beyond houtcome]

/-- What the Selector does with a sample that could be read. -/
theorem completeRead_applies (k : SlotIx) (invalid : Bool) (v : Int) (accuracy scale : Option Int) (second : Nat) (p : Part) :
    ∃ f, completeRead k invalid v accuracy scale second p =
      applySample k
        (if invalid then .invalid else jumpOutcome (p.input k).jumpReference (toQ (p.slot k).jumpLimit) v)
        (withInput k f p) := by
  cases invalid with
  | true => exact ⟨_, rfl⟩
  | false =>
    have hjudged : completeRead k false v accuracy scale second p = completeJudged k v accuracy scale second p := rfl
    exact ⟨_, hjudged.trans (congrArg (applySample k _) (withInput_withInput k _ _ p))⟩

/-! ## The characters of a PKT message (R27, R28) -/

section Pkt

variable {s : State} {start : Byte} {bytes : List Byte} {m : PktMessage}

/-- A PKT message that is taken completes a sample that the Selector applies to the slot as it stands. -/
theorem pktMessage_applies (h : s.part.TakesPkt bytes m) :
    ∃ f, pktMessage (messageCharacters start bytes) s.part =
      applySample pktSlot
        (if pktInvalid m then .invalid
          else jumpOutcome (s.part.input pktSlot).jumpReference (toQ (s.part.slot pktSlot).jumpLimit) m.offset)
        (withInput pktSlot f s.part) := by
  rw [pktMessage_taken start h, completePkt]
  obtain ⟨f, hf⟩ := completeRead_applies pktSlot (pktInvalid m) m.offset
    (some (m.bound + ((withInput pktSlot (notePkt m) s.part).slot pktSlot).allowance)) none
    (withInput pktSlot (notePkt m) s.part).tb.second (withInput pktSlot (notePkt m) s.part)
  rw [withInput_withInput, input_withInput_self] at hf
  exact ⟨_, hf⟩

theorem pktInvalid_eq_false (hvalid : m.valid = true) (hsmall : magnitude m.offset ≤ 32768000000000) :
    pktInvalid m = false := by
  rw [Bool.eq_false_iff]
  intro hinvalid
  obtain h | h := (pktInvalid_iff m).1 hinvalid
  · simp [hvalid] at h
  · omega

theorem pktInvalid_eq_true (hvalid : m.valid = false) : pktInvalid m = true := (pktInvalid_iff m).2 (.inl hvalid)

/-- The frame of the sample that a PKT message completes. -/
theorem pktMessage_sampleFrame (h : s.part.TakesPkt bytes m) :
    SampleFrame pktSlot s.part (settle s.pending (pktMessage (messageCharacters start bytes) s.part)) := by
  rw [pktMessage_taken start h]
  exact ((SampleFrame.withInput pktSlot _ _).trans (SampleFrame.completeRead pktSlot _ _ _ _ _ _)).trans
    (SampleFrame.settle pktSlot _ _)

theorem pktMessage_input (h : s.part.TakesPkt bytes m) :
    (((pktMessage (messageCharacters start bytes) s.part).input pktSlot).last.map (·.outcome)) =
      some (if pktInvalid m then .invalid
        else jumpOutcome (s.part.input pktSlot).jumpReference (toQ (s.part.slot pktSlot).jumpLimit) m.offset) := by
  rw [pktMessage_taken start h, completePkt, completeRead_input, input_withInput_self]
  rfl

end Pkt

end Sys2Proof.Machine

/-! SUPPORT. O18's clauses on the thresholds that a PKT message reaches (R34, R43 to R45; log entry 3). -/

namespace Sys2Proof.Machine

section Pkt

variable {s : State} {start : Byte} {bytes : List Byte} {m : PktMessage} {o : SampleOutcome}

/-- The slot and its news after a PKT message with the outcome given. -/
theorem pktMessage_slot (h : s.part.TakesPkt bytes m)
    (ho : (if pktInvalid m then .invalid
      else jumpOutcome (s.part.input pktSlot).jumpReference (toQ (s.part.slot pktSlot).jumpLimit) m.offset) = o) :
    ∃ f, pktMessage (messageCharacters start bytes) s.part = applySample pktSlot o (withInput pktSlot f s.part) ∧
      (pktMessage (messageCharacters start bytes) s.part).slot pktSlot = slotAfter o (s.part.slot pktSlot) ∧
      ((pktMessage (messageCharacters start bytes) s.part).input pktSlot).last.map (·.outcome) = some o := by
  obtain ⟨f, hf⟩ := pktMessage_applies (start := start) h
  rw [ho] at hf
  refine ⟨f, hf, ?_, ?_⟩
  · rw [hf, applySample_slot]
    rfl
  · rw [pktMessage_input h, ho]

theorem jumpOutcome_far {x limit v : Int} (h : limit < magnitude (v - x)) : jumpOutcome (some x) limit v = .outlier :=
  if_pos h

/-- A PKT message that qualifies its slot. -/
theorem pktQualifies (h : s.part.TakesPkt bytes m) (hvalid : m.valid = true)
    (hsmall : magnitude m.offset ≤ 32768000000000) (hreference : (s.part.input pktSlot).jumpReference = none)
    (hforced : (s.part.slot pktSlot).forced = false) (hstate : (s.part.slot pktSlot).state = .candidate)
    (hwtr : (s.part.slot pktSlot).wtr ≤ min ((s.part.slot pktSlot).goodRun + 1) 65535) :
    ∃ t : State, exec (.slotQualify pktSlot (.pkt (messageCharacters start bytes))) s = .next t ∧
      exec (.pktMessage (messageCharacters start bytes)) s = .next t ∧
      KeepsTables s.part t.part ∧ KeepsOtherSlots pktSlot s.part t.part ∧
      t.part.slot pktSlot =
        { s.part.slot pktSlot with state := .qualified, goodRun := 0, badRun := 0, outlierRun := 0 } ∧
      (s.part.alarm.settings.slotThreshold = some .note →
        t.part.Reported (.slot pktSlot) .qualified (fun e => e.slot = some (some pktSlot))) := by
  have frame := pktMessage_sampleFrame (start := start) h
  obtain ⟨f, hf, hslot, _⟩ := pktMessage_slot (start := start) (o := .good) h (by
    rw [pktInvalid_eq_false hvalid hsmall, hreference]
    rfl)
  have hafter : slotAfter .good (s.part.slot pktSlot) = (s.part.slot pktSlot).entered .qualified := by
    rw [slotAfter_candidate .good hforced hstate, candidateAfter, if_pos rfl, if_pos hwtr]
  rw [hafter] at hslot
  refine ⟨_, exec_of_cause (test := qualifies pktSlot) rfl rfl ?_, completes_of_work rfl, frame.tables, frame.slots, ?_,
    fun hthreshold => ?_⟩
  · change qualifies pktSlot s.part (pktMessage (messageCharacters start bytes) s.part) = true
    rw [qualifies, hslot, hstate]
    rfl
  · exact (settle_slot ..).trans hslot
  · have hreported := applySample_qualified (k := pktSlot) (o := .good) (p := withInput pktSlot f s.part)
      (congrArg SlotRecord.state hafter) (fun hq => SlotState.noConfusion (hstate.symm.trans hq)) hthreshold
    rw [← hf] at hreported
    exact Part.Carries.settle hreported _

/-- A PKT message whose sample fails its slot. -/
theorem pktFails {d : Instr} {outcomes : List SampleOutcome} (h : s.part.TakesPkt bytes m)
    (hexec : exec d s = commandDone (fun p => whenReached
      (sampleReaches (.pkt (messageCharacters start bytes)) (failsOn outcomes pktSlot) p)
      (runCause (.pkt (messageCharacters start bytes))) p) s)
    (ho : (if pktInvalid m then .invalid
      else jumpOutcome (s.part.input pktSlot).jumpReference (toQ (s.part.slot pktSlot).jumpLimit) m.offset) = o)
    (houtcomes : o ∈ outcomes) (hforced : (s.part.slot pktSlot).forced = false)
    (hstate : (s.part.slot pktSlot).state = .qualified)
    (hafter : slotAfter o (s.part.slot pktSlot) = (s.part.slot pktSlot).entered .failed) :
    ∃ t : State, exec d s = .next t ∧ exec (.pktMessage (messageCharacters start bytes)) s = .next t ∧
      KeepsTables s.part t.part ∧ KeepsOtherSlots pktSlot s.part t.part ∧
      t.part.slot pktSlot =
        { s.part.slot pktSlot with state := .failed, goodRun := 0, badRun := 0, outlierRun := 0 } ∧
      hasCondition (t.part.alarm.standingOf (.slot pktSlot)) .failed = true ∧ t.part.selected ≠ some pktSlot := by
  have frame := pktMessage_sampleFrame (start := start) h
  obtain ⟨f, hf, hslot, hlast⟩ := pktMessage_slot (start := start) h ho
  have hfailed := applySample_failed (k := pktSlot) (o := o) (p := withInput pktSlot f s.part)
    (congrArg SlotRecord.state hafter) (fun hq => SlotState.noConfusion (hstate.symm.trans hq))
  rw [← hf] at hfailed
  rw [hafter] at hslot
  refine ⟨_, exec_of_cause (c := .pkt (messageCharacters start bytes)) (test := failsOn outcomes pktSlot) hexec rfl ?_,
    completes_of_work rfl, frame.tables, frame.slots, (settle_slot ..).trans hslot, ?_, ?_⟩
  · change failsOn outcomes pktSlot s.part (pktMessage (messageCharacters start bytes) s.part) = true
    obtain ⟨x, hx, hxo⟩ := Option.map_eq_some_iff.1 hlast
    have hkept : ((s.part.slot pktSlot).entered .failed).forced = false := hforced
    simp only [failsOn, hslot, hstate, hx, hxo, hkept, houtcomes, decide_true]
    rfl
  · rw [settle_standingOf]
    exact hfailed.1
  · exact fun hselected => hfailed.2 ((settle_selected ..).symm.trans hselected)

/-- A PKT message whose sample is the third outlier of a run. -/
theorem pktRetakes {r : Int} (h : s.part.TakesPkt bytes m) (hvalid : m.valid = true)
    (hsmall : magnitude m.offset ≤ 32768000000000) (hreference : (s.part.input pktSlot).jumpReference = some r)
    (hfar : (s.part.slot pktSlot).jumpLimit * 65536 < magnitude (m.offset - r))
    (hrun : 2 ≤ (s.part.input pktSlot).jumpRun) :
    ∃ t : State, exec (.jumpReferenceRetake pktSlot (.pkt (messageCharacters start bytes))) s = .next t ∧
      exec (.pktMessage (messageCharacters start bytes)) s = .next t ∧
      KeepsTables s.part t.part ∧ KeepsOtherSlots pktSlot s.part t.part ∧
      (t.part.input pktSlot).jumpReference = some m.offset ∧ (t.part.input pktSlot).jumpRun = 0 ∧
      (t.part.input pktSlot).last.map Sample.outcome = some .outlier := by
  have frame := pktMessage_sampleFrame (start := start) h
  have houtcome : jumpOutcome (s.part.input pktSlot).jumpReference (toQ (s.part.slot pktSlot).jumpLimit) m.offset =
      .outlier := by
    rw [hreference]
    exact jumpOutcome_far hfar
  have hinput : ((pktMessage (messageCharacters start bytes) s.part).input pktSlot).jumpReference = some m.offset ∧
      ((pktMessage (messageCharacters start bytes) s.part).input pktSlot).jumpRun = 0 ∧
      ((pktMessage (messageCharacters start bytes) s.part).input pktSlot).completed = true := by
    have hnoted : jumpOutcome (notePkt m (s.part.input pktSlot)).jumpReference (toQ (s.part.slot pktSlot).jumpLimit)
        m.offset = if true then .outlier else .good := houtcome
    rw [pktMessage_taken start h, completePkt, completeRead_input, input_withInput_self, pktInvalid_eq_false hvalid hsmall,
      if_neg (by simp)]
    have hjump := jumpAfter_beyond hnoted
    change jumpAfter (toQ ((withInput pktSlot (notePkt m) s.part).slot pktSlot).jumpLimit) m.offset
      (notePkt m (s.part.input pktSlot)) = _ at hjump
    rw [hjump]
    have hlong : ¬ (true = true ∧ (notePkt m (s.part.input pktSlot)).jumpRun < 2) := fun hshort => by
      have : (s.part.input pktSlot).jumpRun < 2 := hshort.2
      omega
    exact ⟨if_neg hlong, if_neg hlong, rfl⟩
  have hlast := pktMessage_input (start := start) h
  rw [pktInvalid_eq_false hvalid hsmall, houtcome] at hlast
  obtain ⟨hjumpReference, hjumpRun, hcompleted⟩ := hinput
  have hfirst : (s.part.input pktSlot).completed = false := by
    obtain ⟨_, _, _, _, hfirst, _⟩ := h
    exact hfirst
  refine ⟨_, exec_of_cause (c := .pkt (messageCharacters start bytes)) (test := retakes pktSlot) rfl rfl ?_,
    completes_of_work rfl, frame.tables, frame.slots, ?_, ?_, ?_⟩
  · change retakes pktSlot s.part (pktMessage (messageCharacters start bytes) s.part) = true
    rw [retakes, hjumpRun, hcompleted, hfirst, hlast, decide_eq_true hrun]
    rfl
  · exact (congrArg SlotInput.jumpReference (settle_input ..)).trans hjumpReference
  · exact (congrArg SlotInput.jumpRun (settle_input ..)).trans hjumpRun
  · exact (congrArg (fun x : SlotInput => x.last.map Sample.outcome) (settle_input ..)).trans hlast

end Pkt

end Sys2Proof.Machine

/-! SUPPORT. The reference slots through the works of a boundary but the inputs' own (R8, R22, R56; log entry 4). -/

namespace Sys2Proof.Machine

/-! ## The Discipline Unit leaves the slots (R36) -/

theorem hubSecondEvent_frame (p : Part) :
    (hubSecondEvent p).slots = p.slots ∧ (hubSecondEvent p).selected = p.selected ∧
      ∀ k, (hubSecondEvent p).input k =
        { p.input k with last := (p.input k).last.map (fun s => { s with fresh := false }) } := by
  have leaves := taken_leaves p
  have frame := (HubFrame.refl (taken p)).actOnTake p.tb.stepMark p.take
  have steers := (Steers.refl (taken p)).actOnTake p.tb.stepMark p.take
  rw [← hubSecondEvent_eq] at frame steers
  refine ⟨frame.slots.trans leaves.slots, steers.selected.trans leaves.selected, fun k => ?_⟩
  rw [Part.input, frame.inputs]
  exact (leaves.inputs k).trans (clearFresh_input p k)

theorem hubSecondEvent_slot (p : Part) (k : SlotIx) : (hubSecondEvent p).slot k = p.slot k := by
  rw [Part.slot, (hubSecondEvent_frame p).1, Part.slot]

/-! ## What the later blocks may touch -/

/-- Leave for what a boundary may change with the reference slots 0 to 3 left alone. -/
def Access.later : Access :=
  { hub := True, step := False, slots := fun k => k = 4 ∨ k = 5, records := fun _ => True, ports := fun _ => True
    engines := fun _ => True, pairs := fun _ => True
    owners := fun o => o = .hub ∨ o = .slot 4 ∨ o = .slot 5 ∨ ∃ i, o = .record i
    marks := fun o _ => o = .hub ∨ o = .slot 4 ∨ o = .slot 5 ∨ ∃ i, o = .record i }

namespace Access

theorem later_choice : later.Choice := ⟨trivial, .inl rfl, fun _ _ => .inl rfl⟩
theorem later_returns : later.Returns :=
  ⟨later_choice, ⟨.inl rfl, .inr (.inl rfl), fun _ => .inr (.inl rfl)⟩,
    ⟨.inr rfl, .inr (.inr (.inl rfl)), fun _ => .inr (.inr (.inl rfl))⟩⟩
theorem later_record (i : RecordIx) : later.Record i :=
  ⟨trivial, .inr (.inr (.inr ⟨i, rfl⟩)), fun _ => .inr (.inr (.inr ⟨i, rfl⟩))⟩
theorem later_port (x : PortIx) : later.Port x := ⟨trivial, trivial, .inl rfl, .inl rfl⟩
theorem later_pair (k : PairIx) : later.Pair k :=
  ⟨trivial, trivial, fun i => ⟨trivial, .inr (.inr (.inr ⟨i, rfl⟩)), fun _ => .inr (.inr (.inr ⟨i, rfl⟩))⟩⟩

end Access

/-- Leave that does not reach a slot. -/
structure Access.Spares (A : Access) (k : SlotIx) : Prop where
  slot  : ¬ A.slots k
  owner : ¬ A.owners (.slot k)
  marks : ∀ n, ¬ A.marks (.slot k) n

theorem Access.later_spares {k : SlotIx} (hk : k.val < 4) : later.Spares k := by
  have h4 : k ≠ 4 := by
    rintro rfl
    exact absurd hk (by decide)
  have h5 : k ≠ 5 := by
    rintro rfl
    exact absurd hk (by decide)
  have howner : ¬ (Owner.slot k = .hub ∨ Owner.slot k = .slot 4 ∨ Owner.slot k = .slot 5 ∨
      ∃ i, Owner.slot k = .record i) := by
    rintro (h | h | h | ⟨i, h⟩)
    · cases h
    · exact h4 (Owner.slot.inj h)
    · exact h5 (Owner.slot.inj h)
    · cases h
  exact ⟨fun h => h.elim h4 h5, howner, fun _ => howner⟩

theorem Access.pairsAll_spares (k : SlotIx) : pairsAll.Spares k := by
  refine ⟨nofun, ?_, fun n => ?_⟩
  · rintro ⟨i, h⟩
    cases h
  · rintro ⟨i, h⟩
    cases h

theorem Access.portsAll_spares (k : SlotIx) : portsAll.Spares k := by
  refine ⟨nofun, ?_, fun n => ?_⟩
  · rintro (h | ⟨i, h⟩) <;> cases h
  · rintro (⟨h, _⟩ | ⟨i, h⟩) <;> cases h

/-- A work of a boundary but the inputs' and the Discipline Unit's spares a slot: a return slot with no slot open on a port
and no record that auto-retires. -/
theorem work_spares {k : SlotIx} {q : Part} (c : BoundaryContext) (b : BoundaryArgs) {w : BoundaryWork} (hinputs : w ≠ .inputs)
    (hdiscipline : w ≠ .discipline) (hcalm : 4 ≤ k.val → q.NoSlotOpen ∧ (w = .records → q.NoneRetires)) :
    ∃ A : Access, Within A q (boundaryWork c b w q) ∧ A.Spares k := by
  cases w with
  | inputs => exact absurd rfl hinputs
  | discipline => exact absurd rfl hdiscipline
  | records =>
    by_cases hk : k.val < 4
    · exact ⟨.later, (Within.refl _ q).recordsBoundary Access.later_record Access.later_returns, Access.later_spares hk⟩
    · refine ⟨.pairsAll, ?_, Access.pairsAll_spares k⟩
      rw [boundaryWork, recordsBoundary_noneRetires ((hcalm (not_lt.1 hk)).2 rfl)]
      exact forEach_induct (R := Within .pairsAll q) _ (fun i _ h => h.withRecord trivial _) _ _ (.refl _ q)
  | ports =>
    by_cases hk : k.val < 4
    · exact ⟨.later, (Within.refl _ q).portsBoundary Access.later_port Access.later_pair Access.later_returns _ _,
        Access.later_spares hk⟩
    · exact ⟨.portsAll, ((Within.refl .portsAll q).portsBoundary_noSlotOpen (hcalm (not_lt.1 hk)).1 Access.portsAll_port
        Access.portsAll_pair _ _).1, Access.portsAll_spares k⟩
  | pairWait => exact ⟨.pairsAll, pairWaits_within _ q, Access.pairsAll_spares k⟩
  | sweep => exact ⟨.pairsAll, sweepBoundary_within q, Access.pairsAll_spares k⟩

/-! ## A slot that is out of the selection -/

/-- A slot is not QUALIFIED and not selected, and bound as given or DISABLED. -/
structure Part.Off (k : SlotIx) (bound : Option (RecordIx × Generation)) (q : Part) : Prop where
  state      : (q.slot k).state ≠ .qualified
  unselected : q.selected ≠ some k
  binding    : (q.slot k).binding = bound ∨ (q.slot k).state = .disabled

section Off

variable {k : SlotIx} {bound : Option (RecordIx × Generation)} {p q : Part}

theorem Part.Off.of_same (h : p.Off k bound) (hslot : q.slot k = p.slot k) (hselected : q.selected = p.selected) :
    q.Off k bound :=
  ⟨by rw [hslot]; exact h.state, by rw [hselected]; exact h.unselected, by rw [hslot]; exact h.binding⟩

theorem Part.Off.choose (h : p.Off k bound) (c : SelectionCause) : (Machine.choose c p).Off k bound := by
  have hineligible : p.eligible k = false := by simp [Part.eligible, h.state]
  exact ⟨by rw [choose_slot]; exact h.state, choose_selected_ne hineligible, by rw [choose_slot]; exact h.binding⟩

theorem unbound_slot_cases (j : SlotIx) (p : Part) :
    (unbound j p).slot k = p.slot k ∨ ((unbound j p).slot k).state = .disabled := by
  by_cases hj : j = k
  · subst hj
    exact .inr (congrArg SlotRecord.state (slot_setSlot_self ..))
  · refine .inl ((slot_setSlot_ne _ hj _).trans ((slot_setSlot_ne _ hj _).trans ?_))
    split <;> rfl

theorem Part.Off.unbindSlot (h : p.Off k bound) (c : SelectionCause) (j : SlotIx) :
    (Machine.unbindSlot c j p).Off k bound := by
  have hselected : (unbound j p).selected = p.selected := by
    unfold unbound
    cases (p.slot j).binding <;> rfl
  rw [unbindSlot_eq]
  refine Part.Off.choose ?_ c
  obtain hsame | hdisabled := unbound_slot_cases (k := k) j p
  · exact h.of_same hsame hselected
  · exact ⟨by rw [hdisabled]; nofun, by rw [hselected]; exact h.unselected, .inr hdisabled⟩

theorem Part.Off.recordLost (h : p.Off k bound) (i : RecordIx) (g : Generation) : (Machine.recordLost i g p).Off k bound := by
  unfold Machine.recordLost
  split
  · exact h.unbindSlot _ _
  · split
    · exact h.unbindSlot _ _
    · exact h

theorem clearStandings_slots (i : RecordIx) (p : Part) :
    (clearStandings i p).slots = p.slots ∧ (clearStandings i p).selected = p.selected :=
  ⟨rfl, rfl⟩

theorem Part.Off.endRetired (h : p.Off k bound) (d : Detail) (i : RecordIx) : (Machine.endRetired d i p).Off k bound := by
  have hlost : (if (p.record i).returnBinding.isSome then Machine.recordLost i (p.record i).generation p else p).Off k bound := by
    split
    · exact h.recordLost _ _
    · exact h
  obtain ⟨hslots, hselected⟩ := clearStandings_slots i
    (if (p.record i).returnBinding.isSome then Machine.recordLost i (p.record i).generation p else p)
  exact hlost.of_same (congrArg (fun v => Vector.get v k) hslots) hselected

/-- A missing outcome reaches the slots by the end of a record alone. -/
theorem Part.Off.outcome (h : p.Off k bound) (x : PortIx) (t : SlotTarget) (t1 t4 : Option Stamp) :
    (recordOutcome x t t1 t4 .missing p).Off k bound := by
  obtain hsame | ⟨_, _, _, _, hended⟩ | ⟨_, hcounted⟩ := recordOutcome_missing_cases x t t1 t4 p
  · rw [hsame]
    exact h
  · rw [hended]
    exact h.endRetired _ _
  · rw [hcounted]
    have hwithin := missing_within x t.record p
    exact h.of_same (hwithin.slots k nofun) (hwithin.selected nofun)

theorem Part.Off.recordBoundary (h : p.Off k bound) (i : RecordIx) : (Machine.recordBoundary i p).Off k bound := by
  rw [recordBoundary_eq]
  split
  · exact (h.of_same (q := withRecord i counted p) rfl rfl).endRetired _ _
  · exact h.of_same rfl rfl

theorem pairSteps_off (k : SlotIx) (bound : Option (RecordIx × Generation)) : PairSteps .all (Part.Off k bound) where
  pair := fun _ _ _ _ h => h.of_same rfl rfl
  move := fun _ _ _ _ _ _ h => h.of_same rfl rfl
  block := fun _ _ _ _ _ h => h.of_same rfl rfl
  returns := fun _ _ _ _ hs h => by
    rw [returnRecord, if_pos hs]
    exact h.of_same rfl rfl
  unblock := fun _ _ _ _ _ h => h.of_same rfl rfl
  mark := fun _ _ _ _ _ h => h.of_same rfl rfl
  clear := fun _ _ _ _ _ h => h.of_same rfl rfl

theorem portSteps_off (x : PortIx) : PortSteps x (Part.Off k bound) :=
  portSteps_of (fun _ _ h => h.of_same rfl rfl) (fun _ _ h => h.of_same rfl rfl) (fun _ h => h.of_same rfl rfl)
    fun t t1 t4 _ h => h.outcome x t t1 t4

/-- The works of a boundary but the inputs' leave a slot out of the selection. -/
theorem off_work (c : BoundaryContext) (b : BoundaryArgs) {w : BoundaryWork} (hw : w ≠ .inputs) (h : p.Off k bound) :
    (boundaryWork c b w p).Off k bound := by
  cases w with
  | inputs => exact absurd rfl hw
  | discipline => exact h.of_same (hubSecondEvent_slot p k) (hubSecondEvent_frame p).2.1
  | records => exact forEach_induct (R := Part.Off k bound) _ (fun i _ h => h.recordBoundary i) _ _ h
  | ports =>
    exact (pairSteps_off k bound).portsBoundary portSteps_off PairLeave.all_pair (fun _ => trivial) (fun _ => trivial) _ _ h
  | pairWait => exact (pairSteps_off k bound).pairWaits (fun k _ => PairLeave.all_pair k) h
  | sweep => exact (pairSteps_off k bound).sweepBoundary (fun _ => trivial) (fun _ _ _ _ => trivial) h

end Off

end Sys2Proof.Machine

/-! SUPPORT. The inputs' work at a boundary, seen from one reference slot (R22, R29, R44; log entry 40). -/

namespace Sys2Proof.Machine

/-! ## What a boundary reads at a slot -/

/-- What the inputs' work at a boundary reads at one slot: its record, its input, the line clock and the raw count. -/
structure SlotView where
  record : SlotRecord
  input  : SlotInput
  clock  : LineClock
  raw    : Nat

def Part.slotView (k : SlotIx) (p : Part) : SlotView := ⟨p.slot k, p.input k, p.lineClock, p.tb.rawCount⟩

section View

variable {k j : SlotIx} {p q : Part} {v : SlotView}

theorem slotView_eq_iff :
    p.slotView k = v ↔ p.slot k = v.record ∧ p.input k = v.input ∧ p.lineClock = v.clock ∧ p.tb.rawCount = v.raw := by
  cases v
  simp [Part.slotView]

theorem rawCount_congr {t u : TimeBase} {n : Int} {d : Option Int} (h : u = { t with next := n, pendingStep := d }) :
    u.rawCount = t.rawCount := by
  rw [h]
  rfl

theorem SampleFrame.slotView (h : SampleFrame j p q) (hj : k ≠ j) : q.slotView k = p.slotView k := by
  obtain ⟨hslot, hinput⟩ := h.slots k hj
  obtain ⟨_, hclock, _, _, htb⟩ := h.base
  exact slotView_eq_iff.2 ⟨hslot, hinput, hclock, rawCount_congr (d := p.tb.pendingStep) htb⟩

theorem Within.slotView {A : Access} (h : Within A p q) (hA : ¬ A.slots k) : q.slotView k = p.slotView k :=
  slotView_eq_iff.2 ⟨h.slots k hA, h.inputs k hA, h.lineClock, rawCount_congr h.tb⟩

/-- A sample leaves the line clock and the raw count. -/
theorem SampleFrame.reading (h : SampleFrame j p q) : q.lineClock = p.lineClock ∧ q.tb.rawCount = p.tb.rawCount := by
  obtain ⟨_, hclock, _, _, htb⟩ := h.base
  exact ⟨hclock, rawCount_congr (d := p.tb.pendingStep) htb⟩

theorem slotAfter_disabled (o : SampleOutcome) (r : SlotRecord) : (slotAfter o r).state = .disabled ↔ r.state = .disabled := by
  obtain ⟨_, hr⟩ | hforced : r.forced = true ∧ slotAfter o r = r ∨ r.forced = false := by
    cases hforced : r.forced with
    | true => exact .inl ⟨rfl, slotAfter_idle o (.inl hforced)⟩
    | false => exact .inr rfl
  · rw [hr]
  · cases hstate : r.state with
    | disabled => rw [slotAfter_idle o (.inr hstate), hstate]
    | candidate =>
      rw [slotAfter_candidate o hforced hstate, candidateAfter]
      split
      · split <;> simp [SlotRecord.entered, hstate]
      · simp [hstate]
    | qualified =>
      rw [slotAfter_qualified o hforced hstate]
      cases o with
      | good => simp [qualifiedAfter, hstate]
      | outlier =>
        rw [qualifiedAfter]
        split <;> simp [SlotRecord.entered, hstate]
      | missing =>
        rw [qualifiedAfter_bad (.inl rfl)]
        split <;> simp [SlotRecord.entered, hstate]
      | invalid =>
        rw [qualifiedAfter_bad (.inr rfl)]
        split <;> simp [SlotRecord.entered, hstate]
    | failed =>
      rw [slotAfter_failed o hforced hstate, failedAfter]
      split
      · split <;> simp [SlotRecord.entered]
      · rw [hstate]

end View

/-! ## The MISSING samples (R22) -/

/-- An input that has completed the MISSING sample of a second. -/
def SlotInput.missed (ended : Nat) (x : SlotInput) : SlotInput :=
  { x with last := some { outcome := .missing, second := ended }, completed := true }

/-- A slot that has run the whole second that ends, with no sample completed and none to complete (R22, R29). -/
structure Part.Misses (k : SlotIx) (q : Part) : Prop where
  running : q.running k = true
  whole   : (q.input k).wholeSecond = true
  none    : (q.input k).completed = false
  line    : k = lineSlot → (q.input lineSlot).lineStart = .none ∨ q.lineClock.present = false

section Missing

variable {k j : SlotIx} {n : Nat} {p q : Part} {bound : Option (RecordIx × Generation)}

/-- A walk over the indices, split at one of them. -/
theorem forEach_through {m : Nat} {f : Fin m → Part → Part} (i : Fin m) {R S : Part → Prop}
    (before : ∀ j, j ≠ i → ∀ q, R q → R (f j q)) (work : ∀ q, R q → S (f i q))
    (after : ∀ j, j ≠ i → ∀ q, S q → S (f j q)) (h : R p) : S (forEach (List.finRange m) f p) := by
  obtain ⟨below, above, hsplit, hbelow, habove⟩ := finRange_split i
  rw [hsplit, forEach_append, forEach_cons]
  refine forEach_induct_mem (fun j hj q hs => after j (Fin.ne_of_gt (habove j hj)) q hs) (work _ ?_)
  exact forEach_induct_mem (fun j hj q hr => before j (Fin.ne_of_lt (hbelow j hj)) q hr) h

theorem SampleFrame.refl (k : SlotIx) (p : Part) : SampleFrame k p p where
  tables := ⟨rfl, rfl, rfl, rfl⟩
  base := ⟨rfl, rfl, rfl, rfl, rfl⟩
  slots := fun _ _ => ⟨rfl, rfl⟩
  mgmt := rfl

theorem completeMissing_frame (n : Nat) (j : SlotIx) (q : Part) : SampleFrame j q (completeMissing n j q) := by
  unfold completeMissing
  split
  · exact SampleFrame.completeSample j _ q
  · exact SampleFrame.refl j q

theorem completeLine_frame (n : Nat) (q : Part) : SampleFrame lineSlot q (completeLine n q) := by
  unfold completeLine
  split
  · exact SampleFrame.refl _ q
  · split
    · exact SampleFrame.completeRead _ _ _ _ _ _ q
    · exact SampleFrame.refl _ q

/-- The LINE slot has no measurement to complete. -/
theorem completeLine_idle (h : (q.input lineSlot).lineStart = none ∨ q.lineClock.present = false) (n : Nat) :
    completeLine n q = q := by
  unfold completeLine
  obtain hnone | habsent := h
  · simp only [hnone]
  · split
    · rfl
    · rw [habsent, Bool.and_false, if_neg Bool.false_ne_true]

theorem Part.Misses.of_view (h : p.Misses k) (hview : q.slotView k = p.slotView k) : q.Misses k := by
  obtain ⟨hslot, hinput, hclock, _⟩ := slotView_eq_iff.1 hview
  refine ⟨?_, hinput ▸ h.whole, hinput ▸ h.none, fun hk => ?_⟩
  · rw [Part.running, hslot]
    exact h.running
  · subst hk
    rw [hinput, hclock]
    exact h.line rfl

theorem completeLine_view (h : q.Misses k) (n : Nat) : (completeLine n q).slotView k = q.slotView k := by
  by_cases hk : k = lineSlot
  · rw [completeLine_idle (h.line hk)]
  · exact (completeLine_frame n q).slotView hk

theorem completeMissing_misses (h : q.Misses k) (n : Nat) :
    completeMissing n k q = completeSample k { outcome := .missing, second := n } q := by
  rw [completeMissing, if_pos]
  simp [h.running, h.whole, h.none]

theorem completeSample_view (k : SlotIx) (x : Sample) (q : Part) :
    (completeSample k x q).slotView k =
      { q.slotView k with
        record := slotAfter x.outcome (q.slot k), input := { q.input k with last := some x, completed := true } } := by
  obtain ⟨hclock, hraw⟩ := (SampleFrame.completeSample k x q).reading
  refine slotView_eq_iff.2 ⟨?_, completeSample_input k x q, hclock, hraw⟩
  exact applySample_slot k x.outcome _

/-- The samples of a boundary at a slot that misses its own (R22). -/
theorem boundarySamples_view (h : q.Misses k) (n : Nat) :
    (boundarySamples n q).slotView k =
      { q.slotView k with record := slotAfter .missing (q.slot k), input := (q.input k).missed n } := by
  obtain ⟨w, hw, hdone, _⟩ := forEach_at (f := completeMissing n) (get := Part.slotView k) k
    (fun j hj r => (completeMissing_frame n j r).slotView hj.symm) (completeLine n q)
  have hview := hw.trans (completeLine_view h n)
  obtain ⟨hslot, hinput, _⟩ := slotView_eq_iff.1 hview
  refine Eq.trans hdone ?_
  rw [completeMissing_misses (h.of_view hview), completeSample_view, hview, hslot, hinput]
  rfl

theorem Part.Off.applySample (h : q.Off k bound) (hj : j ≠ k) (o : SampleOutcome) :
    (Machine.applySample j o q).Off k bound := by
  obtain ⟨happlied, _⟩ | ⟨c, a, happlied, _⟩ := applySample_applies j o q
  · rw [happlied]
    exact h.of_same (slot_setSlot_ne _ hj _) rfl
  · have htold : (slotTold j (slotAfter o (q.slot j)) a q).Off k bound := h.of_same (slot_setSlot_ne _ hj _) rfl
    rw [happlied]
    exact htold.choose c

theorem Part.Off.completeMissing (h : q.Off k bound) (hj : j ≠ k) (n : Nat) :
    (Machine.completeMissing n j q).Off k bound := by
  unfold Machine.completeMissing
  split
  · obtain ⟨f, hf⟩ : ∃ f, completeSample j { outcome := .missing, second := n } q = Machine.applySample j .missing (withInput j f q) :=
      ⟨_, rfl⟩
    have hwritten : (withInput j f q).Off k bound := h.of_same rfl rfl
    rw [hf]
    exact hwritten.applySample hj _
  · exact h

theorem Within.standingOf {A : Access} (h : Within A p q) {o : Owner} (hA : ∀ n, ¬ A.marks o n) :
    q.alarm.standingOf o = p.alarm.standingOf o :=
  BitVec.eq_of_getLsbD_eq fun n _ => h.alarm.marks o n (hA n)

theorem completeMissing_standing (hj : j ≠ k) (n : Nat) (q : Part) :
    (completeMissing n j q).alarm.standingOf (.slot k) = q.alarm.standingOf (.slot k) := by
  refine ((Within.refl (.choosingSlot j) q).completeMissing (Access.choosingSlot_choice j) (Access.choosingSlot_slot j)
    n).standingOf fun _ hmarks => ?_
  obtain hhub | hslot := hmarks
  · cases hhub
  · exact hj (Owner.slot.inj hslot).symm

/-- The MISSING sample of a boundary that takes the bad run over the hold-off (R44). -/
theorem boundarySamples_fails (h : q.Misses k) (n : Nat) (hforced : (q.slot k).forced = false)
    (hqualified : (q.slot k).state = .qualified) (hover : (q.slot k).holdOff < (q.slot k).badRun + 1) :
    (boundarySamples n q).slot k = (q.slot k).entered .failed ∧ (boundarySamples n q).Off k (q.slot k).binding ∧
      hasCondition ((boundarySamples n q).alarm.standingOf (.slot k)) .failed = true := by
  have hafter : slotAfter .missing (q.slot k) = (q.slot k).entered .failed := by
    rw [slotAfter_qualified _ hforced hqualified, qualifiedAfter_bad (.inl rfl), if_pos hover]
  refine ⟨(slotView_eq_iff.1 (boundarySamples_view h n)).1.trans hafter, ?_⟩
  refine forEach_through (f := completeMissing n) k (R := fun w => w.slotView k = q.slotView k)
    (S := fun w => w.Off k (q.slot k).binding ∧ hasCondition (w.alarm.standingOf (.slot k)) .failed = true)
    (fun j hj w hw => ((completeMissing_frame n j w).slotView hj.symm).trans hw) (fun w hw => ?_)
    (fun j hj w ⟨hoff, hstands⟩ => ⟨hoff.completeMissing hj n, by rw [completeMissing_standing hj]; exact hstands⟩)
    (completeLine_view h n)
  obtain ⟨hslot, _⟩ := slotView_eq_iff.1 hw
  rw [completeMissing_misses (h.of_view hw)]
  obtain ⟨y, hy⟩ : ∃ y, withInput k (fun x => { x with last := some { outcome := .missing, second := n }, completed := true }) w
    = y := ⟨_, rfl⟩
  have hyslot : y.slot k = q.slot k := by
    rw [← hy]
    exact hslot
  have hcompleted : completeSample k { outcome := .missing, second := n } w = applySample k .missing y := by
    rw [← hy]
    rfl
  obtain ⟨hstands, hselected⟩ := applySample_failed (k := k) (o := .missing) (p := y) (by rw [hyslot, hafter]; rfl)
    (by rw [hyslot, hqualified]; nofun)
  have hslotAfter : (applySample k .missing y).slot k = (q.slot k).entered .failed := by
    rw [applySample_slot, hyslot, hafter]
  rw [hcompleted]
  exact ⟨⟨by rw [hslotAfter]; nofun, hselected, .inl (by rw [hslotAfter]; rfl)⟩, hstands⟩

end Missing

/-! ## The new second (R22, R29, R35) -/

section Second

variable {k : SlotIx} {q : Part}

theorem newSecond_input_ne {j : SlotIx} (hj : j ≠ k) (q : Part) : (newSecond j q).input k = q.input k :=
  input_setInput_ne q hj _

theorem newSecond_input (k : SlotIx) (q : Part) :
    ((newSecond k q).input k).last = (q.input k).last ∧ ((newSecond k q).input k).lineStart = (q.input k).lineStart ∧
      ((newSecond k q).input k).completed = false ∧ ((newSecond k q).input k).wholeSecond = q.running k := by
  rw [newSecond, input_withInput_self]
  refine ⟨?_, ?_, rfl, rfl⟩
  · split <;> rfl
  · split <;> rfl

theorem newSeconds_input (k : SlotIx) (q : Part) :
    ((forEach allSlots newSecond q).input k).last = (q.input k).last ∧
      ((forEach allSlots newSecond q).input k).lineStart = (q.input k).lineStart ∧
      ((forEach allSlots newSecond q).input k).completed = false ∧
      ((forEach allSlots newSecond q).input k).wholeSecond = q.running k := by
  have hview (j : SlotIx) (w : Part) : (newSecond j w).slot k = w.slot k := rfl
  obtain ⟨w, hw, hdone, _⟩ := forEach_at (f := newSecond) (get := fun w => (w.input k, w.slot k)) k
    (fun j hj r => Prod.ext (newSecond_input_ne hj r) (hview j r)) q
  obtain ⟨hinput, hslot⟩ := Prod.mk.inj hw
  have hfinal : (forEach allSlots newSecond q).input k = (newSecond k w).input k := (Prod.mk.inj hdone).1
  obtain ⟨hlast, hline, hcompleted, hwhole⟩ := newSecond_input k w
  rw [hfinal]
  refine ⟨hlast.trans (by rw [hinput]), hline.trans (by rw [hinput]), hcompleted, hwhole.trans ?_⟩
  rw [Part.running, hslot, Part.running]

theorem newSeconds_frame (q : Part) :
    (forEach allSlots newSecond q).slots = q.slots ∧ (forEach allSlots newSecond q).selected = q.selected ∧
      (forEach allSlots newSecond q).alarm = q.alarm :=
  ⟨forEach_keeps fun _ _ _ => rfl, forEach_keeps fun _ _ _ => rfl, forEach_keeps fun _ _ _ => rfl⟩

theorem beginLine_frame (q : Part) :
    (beginLine q).slots = q.slots ∧ (beginLine q).selected = q.selected ∧ (beginLine q).alarm = q.alarm :=
  ⟨rfl, rfl, rfl⟩

/-- The inputs' work leaves the slots, the selection and the alarms as its samples do. -/
theorem inputsBoundary_frame (n : Nat) (q : Part) :
    (inputsBoundary n q).slots = (boundarySamples n q).slots ∧
      (inputsBoundary n q).selected = (boundarySamples n q).selected ∧
      (inputsBoundary n q).alarm = (boundarySamples n q).alarm := by
  obtain ⟨w, hw⟩ : ∃ w, boundarySamples n q = w := ⟨_, rfl⟩
  obtain ⟨hslots, hselected, halarm⟩ := newSeconds_frame (beginLine w)
  obtain ⟨gslots, gselected, galarm⟩ := beginLine_frame w
  rw [inputsBoundary, hw]
  exact ⟨hslots.trans gslots, hselected.trans gselected, halarm.trans galarm⟩

theorem inputsBoundary_slot (n : Nat) (q : Part) (k : SlotIx) : (inputsBoundary n q).slot k = (boundarySamples n q).slot k :=
  by
  rw [Part.slot, (inputsBoundary_frame n q).1, Part.slot]

/-- The input of a slot at the new second; the LINE slot's begins the next measurement (R29). -/
theorem inputsBoundary_input (n : Nat) (q : Part) (k : SlotIx) :
    ((inputsBoundary n q).input k).last = ((boundarySamples n q).input k).last ∧
      ((inputsBoundary n q).input k).completed = false ∧
      ((inputsBoundary n q).input k).wholeSecond = (boundarySamples n q).running k ∧
      (k = lineSlot → ((inputsBoundary n q).input k).lineStart =
        if (boundarySamples n q).running lineSlot && (boundarySamples n q).lineClock.present then
          some (boundarySamples n q).lineReading else none) := by
  rw [inputsBoundary]
  generalize boundarySamples n q = w
  obtain ⟨hlast, hline, hcompleted, hwhole⟩ := newSeconds_input k (beginLine w)
  refine ⟨hlast.trans ?_, hcompleted, hwhole, fun hk => hline.trans ?_⟩
  · by_cases hk : k = lineSlot
    · subst hk
      rw [beginLine, input_withInput_self]
    · rw [beginLine, withInput, input_setInput_ne _ (Ne.symm hk)]
  · subst hk
    rw [beginLine, input_withInput_self]

end Second

end Sys2Proof.Machine

/-! SUPPORT. A reference slot through a whole boundary, and the slot that a boundary fails (R22, R44, R56; log entry 3). -/

namespace Sys2Proof.Machine

section Boundary

variable {k : SlotIx} {p : Part} (b : BoundaryArgs)

/-- What is due before the inputs' work finds a slot as the boundary begins: a return slot with no slot open, and with no
record that auto-retires there before the samples. -/
theorem beforeInputs_view (hheld : p.held = false)
    (hcalm : 4 ≤ k.val → p.NoSlotOpen ∧ (p.NoneRetires ∨ standsBefore (worksOf b) .inputs .records = true)) :
    (beforeWork b .inputs p).slotView k = (atBoundary b p).slotView k := by
  have hkeeps : ∀ v rest q, v ≠ .inputs → standsBefore (worksOf b) .inputs v = false →
      (4 ≤ k.val → p.Settled (v :: rest) q) → (boundaryWork p.boundaryContext b v q).slotView k = q.slotView k := by
    intro v rest q hv hstands hsettled
    have hdiscipline : v ≠ .discipline := by
      rintro rfl
      rw [(worksOf_order b).1] at hstands
      exact Bool.noConfusion hstands
    obtain ⟨A, hwithin, hspares⟩ := work_spares (k := k) p.boundaryContext b hv hdiscipline fun hk =>
      ⟨(hsettled hk).2.1, fun hrecords => by
        subst hrecords
        obtain hnone | hfirst := (hcalm hk).2
        · exact (hsettled hk).noneRetires hnone
        · rw [hfirst] at hstands
          exact Bool.noConfusion hstands⟩
    exact hwithin.slotView hspares.slot
  obtain ⟨⟨_, _, hview⟩, _⟩ := hubBoundary_through b .inputs hheld
    (R := fun rest q => (4 ≤ k.val → p.Settled rest q) ∧ q.slotView k = (atBoundary b p).slotView k)
    (S := fun _ _ => True) ⟨fun hk => settled_start b (hcalm hk).1, rfl⟩
    (fun v rest q hv hstands ⟨hsettled, hview⟩ =>
      ⟨fun hk => settled_work _ b (hsettled hk), (hkeeps v rest q hv hstands hsettled).trans hview⟩)
    (fun _ _ => trivial) (fun _ _ _ _ _ _ => trivial)
  exact hview

/-- A sample that the hub second event has used (R36). -/
def SlotInput.used (x : SlotInput) : SlotInput := { x with last := x.last.map fun s => { s with fresh := false } }

/-- Leave for the Discipline Unit's work. -/
def Access.disciplining : Access := { Access.choosing with step := True, slots := fun _ => True }

theorem hubSecondEvent_standing (q : Part) (k : SlotIx) :
    (hubSecondEvent q).alarm.standingOf (.slot k) = q.alarm.standingOf (.slot k) :=
  ((Within.refl .disciplining q).hubSecondEvent ⟨trivial, rfl, fun _ _ => rfl⟩ (fun _ => trivial)
    fun _ => trivial).standingOf (o := .slot k) fun _ hmarks => by cases hmarks

/-- A slot after the inputs' work, with the hub second event still due or done. -/
structure Part.SlotLeft (k : SlotIx) (r : SlotRecord) (x : SlotInput) (m : BitVec 16) (due : Bool) (q : Part) : Prop where
  slot     : q.slot k = r
  input    : q.input k = if due then x else x.used
  standing : q.alarm.standingOf (.slot k) = m

/-- One work after the inputs'. -/
theorem slotLeft_work {v : BoundaryWork} {rest : List BoundaryWork} {w : Part} {r : SlotRecord} {x : SlotInput} {m : BitVec 16}
    (hv : v ≠ .inputs) (hnodup : (v :: rest).Nodup)
    (hcalm : 4 ≤ k.val → w.NoSlotOpen ∧ (v = .records → w.NoneRetires))
    (h : w.SlotLeft k r x m (decide (.discipline ∈ v :: rest))) :
    (boundaryWork p.boundaryContext b v w).SlotLeft k r x m (decide (.discipline ∈ rest)) := by
  obtain ⟨hslot, hinput, hstanding⟩ := h
  by_cases hdiscipline : v = .discipline
  · subst hdiscipline
    have hrest : .discipline ∉ rest := (List.nodup_cons.1 hnodup).1
    refine ⟨(hubSecondEvent_slot w k).trans hslot, ?_, (hubSecondEvent_standing w k).trans hstanding⟩
    rw [decide_eq_true List.mem_cons_self, if_pos rfl] at hinput
    refine ((hubSecondEvent_frame w).2.2 k).trans ?_
    rw [decide_eq_false hrest, if_neg Bool.false_ne_true, hinput]
    rfl
  · obtain ⟨A, hwithin, hspares⟩ := work_spares (k := k) p.boundaryContext b hv hdiscipline hcalm
    refine ⟨(hwithin.slots k hspares.slot).trans hslot, (hwithin.inputs k hspares.slot).trans (hinput.trans ?_),
      (hwithin.standingOf hspares.marks).trans hstanding⟩
    have hmem : (.discipline ∈ v :: rest) ↔ .discipline ∈ rest := by simp [Ne.symm hdiscipline]
    simp only [hmem]

/-- What is due after the inputs' work leaves a slot, with its sample used: a return slot with no slot open and no record
that auto-retires. -/
theorem hubBoundary_slot (hheld : p.held = false) (hcalm : 4 ≤ k.val → p.NoSlotOpen ∧ p.NoneRetires) {q : Part}
    (hq : q = inputsBoundary p.tb.second (beforeWork b .inputs p)) :
    (hubBoundary b p).SlotLeft k (q.slot k) (q.input k) (q.alarm.standingOf (.slot k)) false := by
  refine (hubBoundary_through b .inputs hheld
    (R := fun rest q => rest.Nodup ∧ .discipline ∈ rest ∧ (4 ≤ k.val → p.Settled rest q))
    (S := fun rest w => rest.Nodup ∧ (4 ≤ k.val → p.Settled rest w) ∧
      w.SlotLeft k (q.slot k) (q.input k) (q.alarm.standingOf (.slot k)) (decide (.discipline ∈ rest)))
    ⟨worksOf_nodup b, mem_worksOf b _, fun hk => settled_start b (hcalm hk).1⟩
    (fun v rest w hv hstands ⟨hnodup, hdue, hsettled⟩ =>
      ⟨(List.nodup_cons.1 hnodup).2, ?_, fun hk => settled_work _ b (hsettled hk)⟩)
    (fun rest ⟨hnodup, hdue, hsettled⟩ => ⟨(List.nodup_cons.1 hnodup).2, fun hk => settled_work _ b (hsettled hk), ?_⟩)
    (fun v rest w hv hstands ⟨hnodup, hsettled, hleft⟩ =>
      ⟨(List.nodup_cons.1 hnodup).2, fun hk => settled_work _ b (hsettled hk), ?_⟩)).2.2.2.2
  · refine (List.mem_cons.1 hdue).resolve_left ?_
    rintro rfl
    rw [(worksOf_order b).1] at hstands
    exact Bool.noConfusion hstands
  · have hrest : .discipline ∈ rest := (List.mem_cons.1 hdue).resolve_left nofun
    have hdone : boundaryWork p.boundaryContext b .inputs (beforeWork b .inputs p) = q := hq.symm
    rw [hdone]
    exact ⟨rfl, by rw [decide_eq_true hrest, if_pos rfl], rfl⟩
  · exact slotLeft_work b hv hnodup (fun hk => ⟨(hsettled hk).2.1, fun hrecords => by
      subst hrecords
      exact (hsettled hk).noneRetires (hcalm hk).2⟩) hleft

/-- What is due after the inputs' work keeps a slot out of the selection. -/
theorem hubBoundary_off {bound : Option (RecordIx × Generation)} (hheld : p.held = false)
    (h : (inputsBoundary p.tb.second (beforeWork b .inputs p)).Off k bound) : (hubBoundary b p).Off k bound :=
  (hubBoundary_through b .inputs hheld (R := fun _ _ => True) (S := fun _ q => q.Off k bound) trivial
    (fun _ _ _ _ _ _ => trivial) (fun _ _ => h) (fun _ _ _ hv _ hoff => off_work _ b hv hoff)).2.2

theorem atBoundary_slot (p : Part) (k : SlotIx) : (atBoundary b p).slot k = p.slot k := by
  rw [Part.slot, atBoundary, countEdges_slots]
  rfl

theorem atBoundary_input (p : Part) (k : SlotIx) : (atBoundary b p).input k = p.input k := by
  rw [Part.input, atBoundary, countEdges_inputs]
  rfl

theorem atBoundary_clock (p : Part) :
    (atBoundary b p).lineClock =
      if p.running lineSlot then p.lineClock.count (p.tb.raw + p.tb.rawTime (p.tb.lengthNs * 65536)) b.line
      else p.lineClock := by
  rw [atBoundary, countEdges_frame, ← TimeBase.boundary_rawCount]
  rfl

theorem count_present (c : LineClock) (raw : Nat) (e : LineEdges) : (c.count raw e).present = c.present := by
  unfold LineClock.count
  split <;> rfl

theorem atBoundary_present (p : Part) : (atBoundary b p).lineClock.present = p.lineClock.present := by
  rw [atBoundary_clock]
  split
  · exact count_present _ _ _
  · rfl

/-- A slot that misses its sample does so up to the inputs' work. -/
theorem beforeInputs_misses (hheld : p.held = false) (h : p.Misses k)
    (hcalm : 4 ≤ k.val → p.NoSlotOpen ∧ (p.NoneRetires ∨ standsBefore (worksOf b) .inputs .records = true)) :
    (beforeWork b .inputs p).Misses k := by
  refine Part.Misses.of_view (p := atBoundary b p) ⟨?_, ?_, ?_, fun hk => ?_⟩ (beforeInputs_view b hheld hcalm)
  · rw [Part.running, atBoundary_slot]
    exact h.running
  · rw [atBoundary_input]
    exact h.whole
  · rw [atBoundary_input]
    exact h.none
  · rw [atBoundary_input, atBoundary_present]
    exact h.line hk

theorem beforeInputs_slot (hheld : p.held = false)
    (hcalm : 4 ≤ k.val → p.NoSlotOpen ∧ (p.NoneRetires ∨ standsBefore (worksOf b) .inputs .records = true)) :
    (beforeWork b .inputs p).slot k = p.slot k ∧ (beforeWork b .inputs p).input k = p.input k ∧
      (beforeWork b .inputs p).lineClock = (atBoundary b p).lineClock ∧
      (beforeWork b .inputs p).tb.rawCount = p.tb.raw + p.tb.rawTime (p.tb.lengthNs * 65536) := by
  obtain ⟨hslot, hinput, hclock, hraw⟩ := slotView_eq_iff.1 (beforeInputs_view (k := k) b hheld hcalm)
  refine ⟨hslot.trans (atBoundary_slot b p k), hinput.trans (atBoundary_input b p k), hclock, hraw.trans ?_⟩
  exact (congrArg TimeBase.rawCount (countEdges_tb b.line _)).trans (TimeBase.boundary_rawCount p.tb)

end Boundary

/-! ## SLOT_HOLD_OFF_FAIL at a boundary (R44, R56; log entry 3) -/

theorem exec_of_samples {d : Instr} {b : BoundaryArgs} {test : Part → Part → Bool} {s : State}
    (hexec : exec d s = commandDone (fun p => whenReached (samplesReach b test p) (hubBoundary b) p) s)
    (hfree : s.part.held = false)
    (htest : test (beforeWork b .inputs s.part) (boundarySamples s.part.tb.second (beforeWork b .inputs s.part)) = true) :
    exec d s = .next { s with part := settle s.pending (hubBoundary b s.part) } := by
  rw [hexec, commandDone_next, whenReached, samplesReach, hfree, htest, Bool.not_false, Bool.and_true, if_pos rfl]

theorem retiresNow_iff (r : ServiceRecord) :
    retiresNow r = true ↔ r.state = .silent ∧ r.autoRetire ≠ 0 ∧ r.autoRetire ≤ min (r.silentSeconds + 1) 65535 := by
  simp [retiresNow, nextSilentSeconds, and_assoc]

/-- O18's seventh clause. -/
theorem boundaryFailsTheSlot (s : State) (b : BoundaryArgs) (k : SlotIx) (hheld : s.part.held = false)
    (hrunning : s.part.running k = true) (hwhole : (s.part.input k).wholeSecond = true)
    (hnone : (s.part.input k).completed = false)
    (hline : k = lineSlot → (s.part.input k).lineStart = none ∨ s.part.lineClock.present = false)
    (hcalm : 4 ≤ k.val → s.part.NoSlotOpen ∧ (s.part.NoneRetires ∨ standsBefore (worksOf b) .inputs .records = true))
    (hforced : (s.part.slot k).forced = false) (hqualified : (s.part.slot k).state = .qualified)
    (hover : (s.part.slot k).holdOff < (s.part.slot k).badRun + 1) :
    ∃ t : State, exec (.slotHoldOffFail k (.boundary b)) s = .next t ∧ exec (.hubSecondBoundary b) s = .next t ∧
      t.pending = s.pending ∧ t.part.selected ≠ some k ∧
      (k.val < 4 ∨ s.part.NoneRetires →
        t.part.slot k = { s.part.slot k with state := .failed, goodRun := 0, badRun := 0, outlierRun := 0 } ∧
        hasCondition (t.part.alarm.standingOf (.slot k)) .failed = true) ∧
      ∀ (i : RecordIx) (g : Generation), (s.part.slot k).binding = some (i, g) → retiresNow (s.part.record i) = true →
        BindingsAgree s.part → (t.part.slot k).state = .disabled := by
  obtain ⟨hslot, hinput, _, _⟩ := beforeInputs_slot (k := k) b hheld hcalm
  have hmisses := beforeInputs_misses (k := k) b hheld
    ⟨hrunning, hwhole, hnone, fun hk => by subst hk; exact hline rfl⟩ hcalm
  obtain ⟨hfailed, hoff, hstands⟩ := boundarySamples_fails hmisses s.part.tb.second (by rw [hslot]; exact hforced)
    (by rw [hslot]; exact hqualified) (by rw [hslot]; exact hover)
  have htest : failsOn [.missing, .invalid] k (beforeWork b .inputs s.part)
      (boundarySamples s.part.tb.second (beforeWork b .inputs s.part)) = true := by
    obtain ⟨_, hlast, _⟩ := slotView_eq_iff.1 (boundarySamples_view hmisses s.part.tb.second)
    rw [failsOn, hlast, hfailed, hslot, hqualified]
    simp [SlotRecord.entered, SlotInput.missed, hforced]
  have hslots := inputsBoundary_slot s.part.tb.second (beforeWork b .inputs s.part) k
  obtain ⟨_, hselected, halarm⟩ := inputsBoundary_frame s.part.tb.second (beforeWork b .inputs s.part)
  have hout : (hubBoundary b s.part).Off k (s.part.slot k).binding := by
    rw [hslot] at hoff
    exact hubBoundary_off b hheld (hoff.of_same hslots hselected)
  have hexec : exec (.hubSecondBoundary b) s = .next { s with part := settle s.pending (hubBoundary b s.part) } :=
    completes_of_work (c := .hubSecondBoundary b) rfl
  refine ⟨_, exec_of_samples (test := failsOn [.missing, .invalid] k) rfl hheld htest, hexec, rfl, ?_, fun hk => ?_,
    fun i g hbinding hretires hagree => ?_⟩
  · rw [settle_selected]
    exact hout.unselected
  · obtain ⟨hleft, _, hstanding⟩ := hubBoundary_slot (k := k) b hheld
      (fun h4 => ⟨(hcalm h4).1, hk.resolve_left (by omega)⟩) rfl
    rw [settle_standingOf, settle_slot, hleft, hstanding, hslots, halarm, hfailed, hslot]
    exact ⟨rfl, hstands⟩
  · obtain ⟨_, hgeneration, _⟩ := hagree.2.1 k i g hbinding
    obtain ⟨hsilent, hauto, hdue⟩ := (retiresNow_iff _).1 hretires
    obtain ⟨t, _, ht, _, _, hunbound, _⟩ :=
      boundaryAppliesStagedChangesAndRetires.2 s b i hheld hagree hsilent hauto hdue
    rw [hexec] at ht
    obtain rfl := Host.Outcome.next.inj ht
    rw [settle_slot]
    refine hout.binding.resolve_left fun hkept => hunbound k ?_
    rw [settle_slot, hkept, hbinding, hgeneration]

/-- Settles O18: what a sample makes of the slot's record, the jump check, the characters of a PKT message, and the MISSING
sample of a boundary. -/
theorem slotThresholdsAreReachedByASample : Obligations.SlotThresholdsAreReachedByASample := by
  refine ⟨sampleMovesTheSlot, sampleIsChecked,
    fun s start bytes m h hvalid hsmall hnone hforced hstate hwtr =>
      pktQualifies (start := start) h hvalid hsmall hnone hforced hstate hwtr,
    fun s start bytes m h hvalid hforced hstate hover => ?_,
    fun s start bytes m r h hvalid hsmall hreference hfar hforced hstate hrun => ?_,
    fun s start bytes m r h hvalid hsmall hreference hfar hrun =>
      pktRetakes (start := start) h hvalid hsmall hreference hfar hrun, boundaryFailsTheSlot⟩
  · refine pktFails (outcomes := [.missing, .invalid]) (o := .invalid) (start := start) h rfl
      (if_pos (pktInvalid_eq_true hvalid)) (by simp) hforced hstate ?_
    rw [slotAfter_qualified _ hforced hstate, qualifiedAfter_bad (.inr rfl), if_pos hover]
  · have houtcome : (if pktInvalid m then .invalid
        else jumpOutcome (s.part.input pktSlot).jumpReference (toQ (s.part.slot pktSlot).jumpLimit) m.offset) =
        .outlier := by
      rw [pktInvalid_eq_false hvalid hsmall, if_neg Bool.false_ne_true, hreference]
      exact jumpOutcome_far hfar
    refine pktFails (outcomes := [.outlier]) (o := .outlier) (start := start) h rfl houtcome (by simp) hforced hstate ?_
    rw [slotAfter_qualified _ hforced hstate]
    exact if_pos hrun

end Sys2Proof.Machine

/-! SUPPORT. The LINE sample and the MISSING samples that a boundary completes (R22, R29, R30, R36; log entry 45). -/

namespace Sys2Proof.Machine

/-! ## The LINE sample (R29, R30) -/

section Line

variable {n : Nat} {q : Part} {start : LineReading}

theorem completeLine_measured (hrunning : q.running lineSlot = true) (hpresent : q.lineClock.present = true)
    (hstart : (q.input lineSlot).lineStart = some start) :
    completeLine n q =
      completeRead lineSlot (lineInvalid (lineValue start q.lineReading)) (lineValue start q.lineReading) none none n q := by
  unfold completeLine
  simp only [hstart, hrunning, hpresent, Bool.and_self, if_true]

theorem completeMissing_completed {k : SlotIx} (h : (q.input k).completed = true) (n : Nat) : completeMissing n k q = q := by
  rw [completeMissing, if_neg (by simp [h])]

/-- The samples of a boundary at the LINE slot, when its measurement completes one. -/
theorem boundarySamples_line (hrunning : q.running lineSlot = true) (hpresent : q.lineClock.present = true)
    (hstart : (q.input lineSlot).lineStart = some start) :
    (boundarySamples n q).slotView lineSlot =
      (completeRead lineSlot (lineInvalid (lineValue start q.lineReading)) (lineValue start q.lineReading) none none n
        q).slotView lineSlot := by
  obtain ⟨w, hw, hdone, _⟩ := forEach_at (f := completeMissing n) (get := Part.slotView lineSlot) lineSlot
    (fun j hj r => (completeMissing_frame n j r).slotView hj.symm) (completeLine n q)
  rw [completeLine_measured hrunning hpresent hstart] at hw
  refine hdone.trans (Eq.trans ?_ hw)
  rw [completeMissing_completed]
  rw [(slotView_eq_iff.1 hw).2.1]
  exact congrArg SlotInput.completed (completeRead_input ..)

theorem completeRead_running (k : SlotIx) (invalid : Bool) (v : Int) (accuracy scale : Option Int) (second : Nat) (p : Part) :
    (completeRead k invalid v accuracy scale second p).running k = p.running k := by
  obtain ⟨f, hf⟩ := completeRead_applies k invalid v accuracy scale second p
  obtain ⟨o, ho⟩ : ∃ o, (if invalid then .invalid else jumpOutcome (p.input k).jumpReference (toQ (p.slot k).jumpLimit) v) = o :=
    ⟨_, rfl⟩
  have hdisabled := slotAfter_disabled o (p.slot k)
  rw [hf, ho, Part.running, Part.running, applySample_slot]
  change ((slotAfter o (p.slot k)).state != .disabled) = _
  rw [Bool.eq_iff_iff, bne_iff_ne, bne_iff_ne, not_iff_not]
  exact hdisabled

/-- A LINE measurement over some raw time gives r by rounding to the nearest (R29). -/
theorem lineValue_measured {finish : LineReading} (h : start.raw < finish.raw) :
    lineValue start finish =
      roundDiv (((finish.phase - start.phase) - (finish.raw - start.raw)) * (65536 * 1000000000))
        (finish.raw - start.raw) := by
  unfold lineValue
  exact if_neg (by omega)

/-- The line clock of a running slot at the boundary, the clock present. -/
theorem count_eq {c : LineClock} (h : c.present = true) (raw : Nat) (e : LineEdges) :
    c.count raw e =
      if e.cycles = 0 then c
      else { present := true, cycles := c.cycles + e.cycles, edge := (raw : Int) - (e.since : Int) } := by
  rw [LineClock.count, h]

theorem lineReading_eq {c : LineClock} {raw : Nat} (hclock : q.lineClock = c) (hraw : q.tb.rawCount = raw) :
    q.lineReading = { phase := (c.cycles : Int) * 100 * 65536 + ((raw : Int) - c.edge), raw := (raw : Int) } := by
  simp only [Part.lineReading, LineClock.phase, hclock, hraw, toQ]

/-- The outcome of a LINE sample, by the limit of R30 and the jump check. -/
theorem lineOutcome_eq (reference : Option Int) (limit r : Int) :
    (if lineInvalid r then .invalid else jumpOutcome reference (toQ limit) r) =
      if 301465600 < magnitude r then .invalid
      else match reference with
        | none => SampleOutcome.good
        | some x => if limit * 65536 < magnitude (r - x) then .outlier else .good := by
  have hinvalid : lineInvalid r = decide (301465600 < magnitude r) := rfl
  rw [hinvalid]
  by_cases h : 301465600 < magnitude r
  · rw [if_pos h, decide_eq_true h, if_pos rfl]
  · rw [if_neg h, decide_eq_false h, if_neg Bool.false_ne_true]
    cases reference <;> rfl

end Line

/-- The input of a slot that the hub second event has passed. -/
theorem Part.SlotLeft.used {k : SlotIx} {r : SlotRecord} {x : SlotInput} {m : BitVec 16} {w : Part}
    (h : w.SlotLeft k r x m false) :
    (w.input k).last = x.last.map (fun s => { s with fresh := false }) ∧ (w.input k).lineStart = x.lineStart ∧
      (w.input k).completed = x.completed ∧ (w.input k).wholeSecond = x.wholeSecond := by
  rw [h.input, if_neg Bool.false_ne_true]
  exact ⟨rfl, rfl, rfl, rfl⟩

theorem hubBoundary_clock (b : BoundaryArgs) {p : Part} (hheld : p.held = false) :
    (hubBoundary b p).lineClock = (atBoundary b p).lineClock := by
  rw [hubBoundary_of_free b hheld]
  exact (Within.boundaryEvent (atBoundary b p) p.boundaryContext b).lineClock

theorem exec_hubSecondBoundary (b : BoundaryArgs) (s : State) :
    exec (.hubSecondBoundary b) s = .next { s with part := settle s.pending (hubBoundary b s.part) } :=
  completes_of_work (c := .hubSecondBoundary b) rfl

/-- O17's first clause. -/
theorem boundaryCompletesTheLineSample (s : State) (b : BoundaryArgs) (start finish : LineReading) (raw : Nat)
    (clock : LineClock) (hheld : s.part.held = false) (hrunning : s.part.running lineSlot = true)
    (hpresent : s.part.lineClock.present = true) (hstart : (s.part.input lineSlot).lineStart = some start)
    (hraw : raw = s.part.tb.raw +
      (roundDiv (s.part.tb.lengthNs * 65536 * 65536000000000 : Nat)
        ((65536000000000 : Int) + s.part.tb.applied).toNat).toNat)
    (hclock : clock =
      (if b.line.cycles = 0 then s.part.lineClock
      else
        { present := true, cycles := s.part.lineClock.cycles + b.line.cycles
          edge := (raw : Int) - (b.line.since : Int) }))
    (hfinish : finish =
      { phase := (clock.cycles : Int) * 100 * 65536 + ((raw : Int) - clock.edge), raw := (raw : Int) })
    (hlater : start.raw < finish.raw) :
    ∃ (t : State) (r : Int), exec (.hubSecondBoundary b) s = .next t ∧ t.pending = s.pending ∧
      t.part.lineClock = clock ∧
      r = roundDiv (((finish.phase - start.phase) - (finish.raw - start.raw)) * (65536 * 1000000000))
        (finish.raw - start.raw) ∧
      (t.part.input lineSlot).last =
        some
          { outcome :=
              if 301465600 < magnitude r then .invalid
              else match (s.part.input lineSlot).jumpReference with
                | none => .good
                | some x => if (s.part.slot lineSlot).jumpLimit * 65536 < magnitude (r - x) then .outlier else .good
            value := some r, accuracy := none, scale := none, second := s.part.tb.second, fresh := false } ∧
      (t.part.input lineSlot).lineStart = some finish := by
  have hline : ¬ 4 ≤ lineSlot.val := by decide
  obtain ⟨hslot, hinput, hlineClock, hrawCount⟩ := beforeInputs_slot (k := lineSlot) b hheld fun h => absurd h hline
  have hleft := hubBoundary_slot (k := lineSlot) b hheld (fun h => absurd h hline) rfl
  rw [TimeBase.rawTime_eq, ← hraw] at hrawCount
  rw [atBoundary_clock, if_pos hrunning, TimeBase.rawTime_eq, ← hraw, count_eq hpresent, ← hclock] at hlineClock
  obtain ⟨hlast, _, _, hbegins⟩ := inputsBoundary_input s.part.tb.second (beforeWork b .inputs s.part) lineSlot
  obtain ⟨q, hq⟩ : ∃ q, beforeWork b .inputs s.part = q := ⟨_, rfl⟩
  rw [hq] at hslot hinput hlineClock hrawCount hlast hbegins hleft
  have hclockPresent : clock.present = true := by
    rw [hclock]
    split
    · exact hpresent
    · rfl
  have hreading : q.lineReading = finish := (lineReading_eq hlineClock hrawCount).trans hfinish.symm
  have hruns : q.running lineSlot = true := by
    rw [Part.running, hslot]
    exact hrunning
  have hview := boundarySamples_line (n := s.part.tb.second) hruns (by rw [hlineClock]; exact hclockPresent)
    (by rw [hinput]; exact hstart)
  rw [hreading, lineValue_measured hlater] at hview
  obtain ⟨r, hr⟩ : ∃ r, roundDiv (((finish.phase - start.phase) - (finish.raw - start.raw)) * (65536 * 1000000000))
    (finish.raw - start.raw) = r := ⟨_, rfl⟩
  rw [hr] at hview
  obtain ⟨hsampleSlot, hsampleInput, hsampleClock, hsampleRaw⟩ := slotView_eq_iff.1 hview
  obtain ⟨hframeClock, hframeRaw⟩ := (SampleFrame.completeRead lineSlot (lineInvalid r) r none none s.part.tb.second q).reading
  have hsampleClock := (hsampleClock.trans hframeClock).trans hlineClock
  have hsampleReading : (boundarySamples s.part.tb.second q).lineReading = finish :=
    (lineReading_eq hsampleClock ((hsampleRaw.trans hframeRaw).trans hrawCount)).trans hfinish.symm
  have hsampleRuns : (boundarySamples s.part.tb.second q).running lineSlot = true := by
    rw [Part.running, hsampleSlot]
    exact (completeRead_running ..).trans hruns
  rw [if_pos (by rw [hsampleRuns, hsampleClock, hclockPresent]; rfl), hsampleReading] at hbegins
  rw [hsampleInput] at hlast
  have hsample := hlast.trans (congrArg SlotInput.last (completeRead_input ..))
  obtain ⟨husedLast, husedStart, _⟩ := hleft.used
  refine ⟨_, r, exec_hubSecondBoundary b s, rfl, ?_, hr.symm, ?_, ?_⟩
  · rw [settle_lineClock, hubBoundary_clock b hheld, atBoundary_clock, if_pos hrunning, TimeBase.rawTime_eq, ← hraw,
      count_eq hpresent, ← hclock]
  · rw [settle_input, husedLast, hsample, hslot, hinput, lineOutcome_eq]
    rfl
  · rw [settle_input, husedStart]
    exact hbegins rfl

/-! ## The MISSING sample (R22, R33, R36) -/

/-- O17's second clause. -/
theorem boundaryCompletesTheMissingSample (s : State) (b : BoundaryArgs) (k : SlotIx) (hheld : s.part.held = false)
    (hrunning : s.part.running k = true) (hwhole : (s.part.input k).wholeSecond = true)
    (hnone : (s.part.input k).completed = false)
    (hline : k = lineSlot → (s.part.input k).lineStart = none ∨ s.part.lineClock.present = false)
    (hcalm : 4 ≤ k.val → s.part.NoSlotOpen ∧ s.part.NoneRetires) :
    ∃ t : State, exec (.hubSecondBoundary b) s = .next t ∧ t.pending = s.pending ∧
      (t.part.input k).last = some { outcome := .missing, second := s.part.tb.second, fresh := false } ∧
      (t.part.input k).completed = false ∧ (t.part.input k).wholeSecond = true ∧
      (k = lineSlot → ((t.part.input k).lineStart ≠ none ↔ s.part.lineClock.present = true)) := by
  have hcalmBefore (hk : 4 ≤ k.val) :
      s.part.NoSlotOpen ∧ (s.part.NoneRetires ∨ standsBefore (worksOf b) .inputs .records = true) :=
    ⟨(hcalm hk).1, .inl (hcalm hk).2⟩
  obtain ⟨hslot, hinput, hlineClock, _⟩ := beforeInputs_slot (k := k) b hheld hcalmBefore
  have hmisses := beforeInputs_misses (k := k) b hheld
    ⟨hrunning, hwhole, hnone, fun hk => by subst hk; exact hline rfl⟩ hcalmBefore
  obtain ⟨husedLast, husedStart, husedCompleted, husedSecond⟩ := (hubBoundary_slot (k := k) b hheld hcalm rfl).used
  obtain ⟨hlast, hcompleted, hsecond, hbegins⟩ := inputsBoundary_input s.part.tb.second (beforeWork b .inputs s.part) k
  obtain ⟨hsampleSlot, hsampleInput, hsampleClock, _⟩ :=
    slotView_eq_iff.1 (boundarySamples_view hmisses s.part.tb.second)
  have hruns : (boundarySamples s.part.tb.second (beforeWork b .inputs s.part)).running k = true := by
    rw [Part.running, hsampleSlot, bne_iff_ne, ne_eq, slotAfter_disabled]
    exact bne_iff_ne.1 hmisses.running
  have hpresent : (boundarySamples s.part.tb.second (beforeWork b .inputs s.part)).lineClock.present =
      s.part.lineClock.present := by
    rw [hsampleClock]
    exact (congrArg LineClock.present hlineClock).trans (atBoundary_present b s.part)
  refine ⟨_, exec_hubSecondBoundary b s, rfl, ?_⟩
  rw [settle_input, husedLast, husedStart, husedCompleted, husedSecond]
  refine ⟨?_, hcompleted, hsecond.trans hruns, fun hk => ?_⟩
  · rw [hlast, hsampleInput]
    rfl
  · subst hk
    rw [hbegins rfl, hruns, hpresent, Bool.true_and]
    cases s.part.lineClock.present <;> simp

/-- Settles O17: the LINE sample of a measurement that the boundary ends, and the MISSING sample of a slot that completed
none. -/
theorem boundaryCompletesLineAndMissingSamples : Obligations.BoundaryCompletesLineAndMissingSamples :=
  ⟨boundaryCompletesTheLineSample, boundaryCompletesTheMissingSample⟩

end Sys2Proof.Machine

/-! SUPPORT. The line of a port through a boundary: what its judgement reads, and when that moves it (R131). -/

namespace Sys2Proof.Machine

/-! ## What the judgement of a port second reads -/

/-- A port record without what the judgement neither reads nor writes. -/
def PortRecord.lineOnly (r : PortRecord) : PortRecord :=
  { r with
    state := if r.state = .disabled then .disabled else .running, idleCount := 0, wakeWindow := 0, lastError := .none }

/-- What the judgement of a port second reads: the port and the marks of the frames of that second. -/
structure LineView where
  port    : PortRecord
  aborted : Bool
  sent    : Bool

def Part.lineView (x : PortIx) (q : Part) : LineView := ⟨(q.port x).lineOnly, (q.engine x).aborted, (q.engine x).sent⟩

/-- What a judgement makes of it. -/
def LineView.judged (v : LineView) : LineView :=
  { v with port := v.port.judged (judgementOf v.port { aborted := v.aborted, sent := v.sent }) }

/-- The marks at the start of a port second. -/
def LineView.begun (v : LineView) : LineView := { v with aborted := false, sent := false }

section Views

variable {x y : PortIx} {p q : Part} {v : LineView} {r : PortRecord}

theorem lineOnly_state (r : PortRecord) : r.lineOnly.state = .disabled ↔ r.state = .disabled := by
  by_cases h : r.state = .disabled <;> simp [PortRecord.lineOnly, h]

theorem lineOnly_congr {r s : PortRecord}
    (h : s = { r with state := s.state, idleCount := s.idleCount, wakeWindow := s.wakeWindow, lastError := s.lastError })
    (hstate : s.state = .disabled ↔ r.state = .disabled) : s.lineOnly = r.lineOnly := by
  have hoff : (if s.state = .disabled then PortState.disabled else .running) =
      if r.state = .disabled then .disabled else .running := if_congr hstate rfl rfl
  unfold PortRecord.lineOnly
  rw [hoff, h]

theorem lineOnly_bind (r : PortRecord) : r.bind.lineOnly = r.lineOnly := by
  unfold PortRecord.bind
  split
  · next h => exact lineOnly_congr rfl (by simp [h])
  · next h => exact lineOnly_congr rfl (by simp [h])
  · rfl

theorem lineOnly_counted (r : PortRecord) (bound : Bool) : (r.counted bound).lineOnly = r.lineOnly := by
  unfold PortRecord.counted
  dsimp only
  split
  · next h =>
    refine lineOnly_congr rfl ?_
    have hrunning (c : Prop) [Decidable c] : (if c then PortState.parked else .running) ≠ .disabled := by split <;> nofun
    exact iff_of_false (hrunning _) (by rw [h]; nofun)
  · exact lineOnly_congr rfl Iff.rfl

/-- A judgement writes the line and its runs, by what it reads of them. -/
theorem judged_congr {r s : PortRecord} (hline : s.line = r.line) (hfail : s.failRun = r.failRun)
    (hclean : s.cleanRun = r.cleanRun) (j : Judgement) :
    s.judged j =
      { s with line := (r.judged j).line, failRun := (r.judged j).failRun, cleanRun := (r.judged j).cleanRun } := by
  unfold PortRecord.judged
  rw [hline, hfail, hclean]
  split
  · rw [← hline, ← hfail, ← hclean]
  · next h =>
    split
    · rfl
    · rw [← hclean, ← hline]
  · next h => rw [← hclean, ← hline]
  · rw [← hfail, ← hline]
  · split
    · rfl
    · rw [← hfail, ← hline]

theorem lineOnly_judged (r : PortRecord) (j : Judgement) : (r.judged j).lineOnly = r.lineOnly.judged j := by
  rw [judged_congr (s := r.lineOnly) (r := r) rfl rfl rfl j]
  conv_lhs => rw [judged_congr (s := r) (r := r) rfl rfl rfl j]
  rfl

theorem judgementOf_view (r : PortRecord) (e : Engine) :
    judgementOf r.lineOnly { aborted := e.aborted, sent := e.sent } = judgementOf r e := by
  unfold judgementOf
  simp only [lineOnly_state]

theorem lineView_congr (hport : (q.port x).lineOnly = (p.port x).lineOnly)
    (haborted : (q.engine x).aborted = (p.engine x).aborted) (hsent : (q.engine x).sent = (p.engine x).sent) :
    q.lineView x = p.lineView x := by
  rw [Part.lineView, hport, haborted, hsent, Part.lineView]

theorem lineView_setPort (h : r.lineOnly = (q.port y).lineOnly) : (q.setPort y r).lineView x = q.lineView x := by
  refine lineView_congr ?_ rfl rfl
  by_cases hy : y = x
  · subst hy
    rw [port_setPort_self, h]
  · rw [port_setPort_ne _ hy]

theorem lineView_setPort_ne (hy : y ≠ x) (r : PortRecord) : (q.setPort y r).lineView x = q.lineView x :=
  lineView_congr (by rw [port_setPort_ne _ hy]) rfl rfl

theorem lineView_setEngine_ne (hy : y ≠ x) (e : Engine) : (q.setEngine y e).lineView x = q.lineView x :=
  lineView_congr rfl (by rw [engine_setEngine_ne _ hy]) (by rw [engine_setEngine_ne _ hy])

theorem lineView_withEngine {f : Engine → Engine} (hf : KeepsMarks f) : (withEngine y f q).lineView x = q.lineView x := by
  by_cases hy : y = x
  · subst hy
    obtain ⟨haborted, hsent⟩ := hf (q.engine y)
    exact lineView_congr rfl (by rw [withEngine, engine_setEngine_self, haborted])
      (by rw [withEngine, engine_setEngine_self, hsent])
  · exact lineView_setEngine_ne hy _

theorem Within.lineView {A : Access} (h : Within A p q) (hport : ¬ A.ports x) (hengine : ¬ A.engines x) :
    q.lineView x = p.lineView x :=
  lineView_congr (by rw [h.ports x hport]) (by rw [h.engines x hengine]) (by rw [h.engines x hengine])

theorem setSlotError_lineView (x y : PortIx) (e : SlotError) (q : Part) :
    (setSlotError y e q).lineView x = q.lineView x :=
  lineView_setPort (lineOnly_congr (r := q.port y) (s := { q.port y with lastError := e }) rfl Iff.rfl)

theorem endSlot_lineView (x y : PortIx) (q : Part) : (endSlot y q).lineView x = q.lineView x :=
  endSlot_keeps (R := fun w => w.lineView x = q.lineView x)
    (fun e w h => (setSlotError_lineView x y e w).trans h)
    (fun _ _ hf h => (lineView_withEngine hf).trans h)
    (fun t t1 t4 w h => ((recordOutcome_within y t t1 t4 .missing w).lineView nofun nofun).trans h) q rfl

/-- The judgement of a port, as what it reads shows it. -/
theorem judged_lineView (x : PortIx) (q : Part) :
    (withPort x (fun r => r.judged (judgementOf r (q.engine x))) q).lineView x = (q.lineView x).judged := by
  rw [Part.lineView, withPort, port_setPort_self, lineOnly_judged, ← judgementOf_view]
  rfl

theorem countPort_lineView (l : List PortIx) (x y : PortIx) (q : Part) : (countPort l y q).lineView x = q.lineView x :=
  lineView_setPort (lineOnly_counted _ _)

theorem beginPortSecond_lineView (x : PortIx) (q : Part) : (beginPortSecond x q).lineView x = (q.lineView x).begun := by
  rw [Part.lineView, beginPortSecond, engine_setEngine_self]
  rfl

/-- A property of what the judgement of a port reads, which the pairs leave. -/
theorem pairSteps_lineView (x : PortIx) (K : LineView → Prop) : PairSteps .all (fun q => K (q.lineView x)) where
  pair := fun _ _ _ _ h => h
  move := fun k _ _ q _ _ h => by
    have hbind (w : Part) : (bindPort (protectPort k) w).lineView x = w.lineView x := lineView_setPort (lineOnly_bind _)
    exact (hbind _).symm ▸ h
  block := fun _ _ _ _ _ h => h
  returns := fun k _ i q hs h => by
    rw [returnRecord, if_pos hs]
    exact h
  unblock := fun _ _ _ _ _ h => h
  mark := fun _ _ _ _ _ h => h
  clear := fun _ _ _ _ _ h => h

theorem portSteps_lineView_ne (hy : y ≠ x) (K : LineView → Prop) : PortSteps y (fun q => K (q.lineView x)) :=
  portSteps_of (fun r q h => (lineView_setPort_ne (q := q) hy r).symm ▸ h)
    (fun e q h => (lineView_setEngine_ne (q := q) hy e).symm ▸ h) (fun _ h => h)
    fun t t1 t4 q h => ((recordOutcome_within y t t1 t4 .missing q).lineView (x := x) nofun nofun).symm ▸ h

/-- A property that the judgement and the new second keep is kept by every port's boundary. -/
theorem portSteps_lineView {K : LineView → Prop} (judged : ∀ v, K v → K v.judged) (begun : ∀ v, K v → K v.begun)
    (x y : PortIx) : PortSteps y (fun q => K (q.lineView x)) := by
  by_cases hy : y = x
  · subst hy
    exact
      { ends := fun q h => (endSlot_lineView y y q).symm ▸ h
        judges := fun q h => (judged_lineView y q).symm ▸ judged _ h
        told := fun _ h => h
        counts := fun l q h => (countPort_lineView l y y q).symm ▸ h
        begins := fun q h => (beginPortSecond_lineView y q).symm ▸ begun _ h }
  · exact portSteps_lineView_ne hy K

theorem recordsBoundary_lineView (x : PortIx) (q : Part) : (recordsBoundary q).lineView x = q.lineView x :=
  forEach_induct (R := fun w => w.lineView x = q.lineView x) _
    (fun i w h => ((recordBoundary_within i w).lineView nofun nofun).trans h) _ _ rfl

theorem atBoundary_lineView (b : BoundaryArgs) (x : PortIx) (p : Part) : (atBoundary b p).lineView x = p.lineView x :=
  lineView_congr (by rw [atBoundary_port]) (by rw [atBoundary_engine]) (by rw [atBoundary_engine])

end Views

/-! ## What moves the line (R131) -/

namespace LineView

variable {v : LineView}

/-- The port second just ended takes the line into FAULT. -/
structure Faults (v : LineView) : Prop where
  enabled : v.port.state ≠ .disabled
  line    : v.port.line = .clean
  run     : 3 ≤ v.port.failRun + 1
  aborted : v.aborted = true

/-- The port second just ended takes the line out of FAULT. -/
structure Clears (v : LineView) : Prop where
  enabled : v.port.state ≠ .disabled
  line    : v.port.line = .fault
  run     : 10 ≤ v.port.cleanRun + 1
  aborted : v.aborted = false
  sent    : v.sent = true

/-- A line state with both runs at 0. -/
structure Entered (l : LineState) (v : LineView) : Prop where
  line     : v.port.line = l
  failRun  : v.port.failRun = 0
  cleanRun : v.port.cleanRun = 0

theorem Faults.entered (h : v.Faults) : v.judged.Entered .fault := by
  have hjudgement : judgementOf v.port { aborted := v.aborted, sent := v.sent } = .failing := by
    rw [judgementOf, if_neg h.enabled, h.aborted, if_pos rfl]
  have hport : v.judged.port = { v.port with line := .fault, failRun := 0, cleanRun := 0 } := by
    rw [judged, hjudgement]
    simp only [PortRecord.judged, h.line]
    rw [if_pos h.run]
  exact ⟨by rw [hport], by rw [hport], by rw [hport]⟩

theorem Clears.entered (h : v.Clears) : v.judged.Entered .clean := by
  have hjudgement : judgementOf v.port { aborted := v.aborted, sent := v.sent } = .clean := by
    rw [judgementOf, if_neg h.enabled, h.aborted, if_neg Bool.false_ne_true, h.sent, if_pos rfl]
  have hport : v.judged.port = { v.port with line := .clean, failRun := 0, cleanRun := 0 } := by
    rw [judged, hjudgement]
    simp only [PortRecord.judged, h.line]
    rw [if_pos h.run]
  exact ⟨by rw [hport], by rw [hport], by rw [hport]⟩

/-- A line that enters FAULT has had a frame aborted. -/
theorem aborted_of_enters (hline : v.port.line = .clean) (hjudged : v.judged.port.line = .fault) : v.aborted = true := by
  by_contra haborted
  have hclean := judged_of_not_aborted (r := v.port) (e := { aborted := v.aborted, sent := v.sent })
    (by simpa using haborted) hline
  rw [judged] at hjudged
  rw [hclean] at hjudged
  cases hjudged

/-- A line that leaves FAULT has had a frame sent, and none aborted. -/
theorem sent_of_leaves (hline : v.port.line = .fault) (hjudged : v.judged.port.line = .clean) :
    v.aborted = false ∧ v.sent = true := by
  have hjudgement : judgementOf v.port { aborted := v.aborted, sent := v.sent } = .clean := by
    cases h : judgementOf v.port { aborted := v.aborted, sent := v.sent } with
    | clean => rfl
    | failing =>
      rw [judged, h] at hjudged
      simp [PortRecord.judged, hline] at hjudged
    | neither =>
      rw [judged, h] at hjudged
      simp [PortRecord.judged, hline] at hjudged
  unfold judgementOf at hjudgement
  split at hjudgement
  · cases hjudgement
  · split at hjudgement
    · cases hjudgement
    · split at hjudgement
      · next haborted hsent => exact ⟨by simpa using haborted, hsent⟩
      · cases hjudgement

/-- A line that is CLEAN does not enter FAULT. -/
def Spared (v : LineView) : Prop := v.port.line = .clean → v.aborted = false

/-- A line in FAULT does not leave it. -/
def Stuck (v : LineView) : Prop := v.port.line = .fault → v.aborted = true ∨ v.sent = false

theorem line_cases (l : LineState) : l = .clean ∨ l = .fault := by cases l <;> simp

theorem Spared.judged_line (h : v.Spared) (hline : v.port.line = .clean) : v.judged.port.line = .clean :=
  (line_cases _).resolve_right fun hfault => by
    have := aborted_of_enters hline hfault
    rw [h hline] at this
    cases this

theorem Stuck.judged_line (h : v.Stuck) (hline : v.port.line = .fault) : v.judged.port.line = .fault :=
  (line_cases _).resolve_left fun hclean => by
    obtain ⟨haborted, hsent⟩ := sent_of_leaves hline hclean
    obtain hfailed | hidle := h hline
    · rw [haborted] at hfailed
      cases hfailed
    · rw [hsent] at hidle
      cases hidle

theorem Spared.judged (h : v.Spared) : v.judged.Spared := fun hline => by
  obtain hclean | hfault := line_cases v.port.line
  · exact h hclean
  · exact (sent_of_leaves hfault hline).1

theorem Stuck.judged (h : v.Stuck) : v.judged.Stuck := fun hline => by
  obtain hclean | hfault := line_cases v.port.line
  · exact .inl (aborted_of_enters (v := v) hclean hline)
  · exact h hfault

theorem begun_spared (v : LineView) : v.begun.Spared := fun _ => rfl
theorem begun_stuck (v : LineView) : v.begun.Stuck := fun _ => .inr rfl

/-- A line keeps its state. -/
structure Steady (l : LineState) (v : LineView) : Prop where
  line   : v.port.line = l
  spared : v.Spared
  stuck  : v.Stuck

theorem Steady.judged {l : LineState} (h : v.Steady l) : v.judged.Steady l := by
  refine ⟨?_, h.spared.judged, h.stuck.judged⟩
  cases l with
  | clean => exact h.spared.judged_line h.line
  | fault => exact h.stuck.judged_line h.line

theorem Steady.begun {l : LineState} (h : v.Steady l) : v.begun.Steady l := ⟨h.line, begun_spared v, begun_stuck v⟩

end LineView

section Stays

variable {x : PortIx} {p : Part}

theorem Part.Faulting.view (h : p.Faulting x) : (p.lineView x).Faults := by
  obtain ⟨hstate, hline, hrun, haborted⟩ := h
  exact ⟨fun hoff => hstate ((lineOnly_state _).1 hoff), hline, hrun, haborted⟩

theorem Part.Clearing.view (h : p.Clearing x) : (p.lineView x).Clears := by
  obtain ⟨hstate, hline, hrun, haborted, hsent⟩ := h
  exact ⟨fun hoff => hstate ((lineOnly_state _).1 hoff), hline, hrun, haborted, hsent⟩

theorem Part.StaysClean.view (h : p.StaysClean x) : (p.lineView x).Steady .clean := by
  obtain ⟨hline, haborted⟩ := h
  exact ⟨hline, fun _ => haborted, fun hfault => LineState.noConfusion (Eq.trans (Eq.symm hline) hfault)⟩

theorem Part.StaysFaulted.view (h : p.StaysFaulted x) : (p.lineView x).Steady .fault := by
  obtain ⟨hline, haborted⟩ := h
  exact ⟨hline, fun hclean => LineState.noConfusion (Eq.trans (Eq.symm hline) hclean), fun _ => .inl haborted⟩

end Stays

/-! ## The judgement of a port (R131) -/

/-- A judgement that moves the line reports it, and one that does not reports nothing. -/
theorem judgePort_cases (x : PortIx) (q : Part) {w : Part}
    (hw : w = withPort x (fun r => r.judged (judgementOf r (q.engine x))) q) :
    ((w.port x).line = (q.port x).line ∧ judgePort x q = w) ∨
      ((q.port x).line = .clean ∧ (w.port x).line = .fault ∧ judgePort x q = portEntersFault x (reportPortFault w)) ∨
      ((q.port x).line = .fault ∧ (w.port x).line = .clean ∧ judgePort x q = portLeavesFault x (reportPortFault w)) := by
  subst hw
  unfold judgePort
  dsimp only
  split
  · next hbefore hafter => exact .inr (.inl ⟨hbefore, hafter, rfl⟩)
  · next hbefore hafter => exact .inr (.inr ⟨hbefore, hafter, rfl⟩)
  · next hbefore hafter => exact .inl ⟨hafter.trans hbefore.symm, rfl⟩
  · next hbefore hafter => exact .inl ⟨hafter.trans hbefore.symm, rfl⟩

end Sys2Proof.Machine

/-! SUPPORT. A boundary seen from one port, its line, and the hub's PORT_FAULT (R131; log entries 3 and 4). -/

namespace Sys2Proof.Machine

/-! ## The place of one port among the works -/

/-- What the works of a boundary but the records' and the ports' keep. -/
structure BlocksKeep (p : Part) (R : Part → Prop) : Prop where
  steers : ∀ q w, Within .steering q w → R q → R w
  waits  : ∀ q, R q → R (pairWaits p.waitingPairs q)
  sweeps : ∀ q, R q → R (sweepBoundary q)

theorem BlocksKeep.and {p : Part} {R S : Part → Prop} (h : BlocksKeep p R) (g : BlocksKeep p S) :
    BlocksKeep p (fun q => R q ∧ S q) where
  steers := fun q w hw ⟨hr, hs⟩ => ⟨h.steers q w hw hr, g.steers q w hw hs⟩
  waits := fun q ⟨hr, hs⟩ => ⟨h.waits q hr, g.waits q hs⟩
  sweeps := fun q ⟨hr, hs⟩ => ⟨h.sweeps q hr, g.sweeps q hs⟩

/-- No record of a part at a boundary auto-retires, when none does at the start and no slot is open there. -/
abbrev Part.RetiresAs (p q : Part) : Prop := p.NoSlotOpen → p.NoneRetires → q.NoneRetires

/-- A boundary, split at one port's among the ports'. -/
theorem hubBoundary_port (b : BoundaryArgs) (x : PortIx) {p : Part} (hheld : p.held = false) {R S : Part → Prop}
    (start : R (atBoundary b p)) (blocksR : BlocksKeep p R) (records : ∀ q, p.RetiresAs q → R q → R (recordsBoundary q))
    (portsR : ∀ l y, y ≠ x → ∀ q, R q → R (portBoundary l y q)) (work : ∀ l q, R q → S (portBoundary l x q))
    (blocksS : BlocksKeep p S) (portsS : ∀ l y, y ≠ x → ∀ q, S q → S (portBoundary l y q)) :
    R (beforeWork b .ports p) ∧ S (boundaryWork p.boundaryContext b .ports (beforeWork b .ports p)) ∧ S (hubBoundary b p) := by
  obtain ⟨⟨_, _, hbefore⟩, ⟨_, hwork⟩, hafter⟩ := hubBoundary_through b .ports hheld
    (R := fun rest q => (p.NoSlotOpen → p.Settled rest q) ∧ R q) (S := fun _ q => S q) ⟨settled_start b, start⟩
    (fun v rest q hv hstands ⟨hsettled, hr⟩ => ⟨fun hopen => settled_work _ b (hsettled hopen), by
      cases v with
      | inputs => exact blocksR.steers q _ (inputsBoundary_within _ q) hr
      | discipline => exact blocksR.steers q _ (hubSecondEvent_within q) hr
      | records => exact records q (fun hopen hretires => (hsettled hopen).noneRetires hretires) hr
      | ports => exact absurd rfl hv
      | pairWait => exact blocksR.waits q hr
      | sweep => exact blocksR.sweeps q hr⟩)
    (fun rest ⟨_, hr⟩ => portsBoundary_at (portsOf_nodup b) (mem_portsOf b x) (fun y hy q => portsR _ y hy q)
      (fun q => work _ q) (fun y hy q => portsS _ y hy q) hr)
    (fun v rest q hv hstands hs => by
      cases v with
      | inputs => exact blocksS.steers q _ (inputsBoundary_within _ q) hs
      | discipline => exact blocksS.steers q _ (hubSecondEvent_within q) hs
      | records => exact absurd hstands (by simp [(worksOf_order b).2.1])
      | ports => exact absurd rfl hv
      | pairWait => exact blocksS.waits q hs
      | sweep => exact blocksS.sweeps q hs)
  exact ⟨hbefore, hwork, hafter⟩

/-- What the pairs and the steering blocks keep. -/
theorem PairSteps.blocksKeep {R : Part → Prop} (steps : PairSteps .all R) (steers : ∀ q w, Within .steering q w → R q → R w)
    (p : Part) : BlocksKeep p R where
  steers := steers
  waits := fun _ h => steps.pairWaits (fun k _ => PairLeave.all_pair k) h
  sweeps := fun _ h => steps.sweepBoundary (fun _ => trivial) (fun _ _ _ _ => trivial) h

theorem PairSteps.portBoundary {R : Part → Prop} (steps : PairSteps .all R) {y : PortIx} (ports : PortSteps y R)
    (l : List PortIx) {q : Part} (h : R q) : R (Machine.portBoundary l y q) :=
  ports.portBoundary (fun _ h => steps.portEntersFault (PairLeave.all_pair _) trivial h)
    (fun _ h => steps.portLeavesFault (PairLeave.all_pair _) trivial h) l h

/-! ## The line of a port -/

section Line

variable {x y : PortIx} {p q : Part}

theorem blocksKeep_lineView (x : PortIx) (K : LineView → Prop) (p : Part) : BlocksKeep p (fun q => K (q.lineView x)) :=
  (pairSteps_lineView x K).blocksKeep (fun _ _ hw h => (hw.lineView (x := x) nofun nofun).symm ▸ h) p

theorem judgePort_lineView (x : PortIx) (q : Part) : (judgePort x q).lineView x = (q.lineView x).judged := by
  have hjudged := judged_lineView x q
  obtain ⟨w, hw⟩ : ∃ w, withPort x (fun r => r.judged (judgementOf r (q.engine x))) q = w := ⟨_, rfl⟩
  rw [hw] at hjudged
  have steps := pairSteps_lineView x (· = (q.lineView x).judged)
  obtain ⟨_, hsame⟩ | ⟨_, _, henters⟩ | ⟨_, _, hleaves⟩ := judgePort_cases x q hw.symm
  · rw [hsame]
    exact hjudged
  · rw [henters]
    exact steps.portEntersFault (PairLeave.all_pair _) trivial (q := reportPortFault w) hjudged
  · rw [hleaves]
    exact steps.portLeavesFault (PairLeave.all_pair _) trivial (q := reportPortFault w) hjudged

/-- A port's own boundary judges it and begins its port second. -/
theorem portBoundary_lineView (l : List PortIx) (x : PortIx) (q : Part) :
    (portBoundary l x q).lineView x = (q.lineView x).judged.begun := by
  rw [portBoundary, beginPortSecond_lineView, countPort_lineView, judgePort_lineView, endSlot_lineView]

theorem portBoundary_lineView_ne (l : List PortIx) (hy : y ≠ x) (q : Part) :
    (portBoundary l y q).lineView x = q.lineView x :=
  (pairSteps_lineView x (· = q.lineView x)).portBoundary (portSteps_lineView_ne hy (· = q.lineView x)) l rfl

/-- The line of a port, judged once at a boundary. -/
theorem hubBoundary_lineView {b : BoundaryArgs} (hheld : p.held = false) :
    (beforeWork b .ports p).lineView x = p.lineView x ∧
      (boundaryWork p.boundaryContext b .ports (beforeWork b .ports p)).lineView x = (p.lineView x).judged.begun ∧
      (hubBoundary b p).lineView x = (p.lineView x).judged.begun :=
  hubBoundary_port b x hheld (R := fun q => q.lineView x = p.lineView x)
    (S := fun q => q.lineView x = (p.lineView x).judged.begun) (atBoundary_lineView b x p)
    (blocksKeep_lineView x (· = p.lineView x) p) (fun q _ h => (recordsBoundary_lineView x q).trans h)
    (fun l y hy q h => (portBoundary_lineView_ne l hy q).trans h)
    (fun l q h => by rw [portBoundary_lineView, h])
    (blocksKeep_lineView x (· = (p.lineView x).judged.begun) p) (fun l y hy q h => (portBoundary_lineView_ne l hy q).trans h)

end Line

/-! ## The hub's PORT_FAULT (R131) -/

section PortFault

variable {x y : PortIx} {p q : Part}

theorem faulted_iff (q : Part) (x : PortIx) : q.faulted x = true ↔ (q.port x).line = .fault := beq_iff_eq

/-- The hub holds PORT_FAULT exactly when some port is in FAULT. -/
def Part.FaultAgrees (q : Part) : Prop :=
  hasCondition q.alarm.hubStanding .portFault = true ↔ ∃ x, (q.port x).line = .fault

/-- What leaves the lines and the hub's PORT_FAULT. -/
theorem Part.FaultAgrees.of_same (h : p.FaultAgrees) (hlines : ∀ x, (q.port x).line = (p.port x).line)
    (hhub : hasCondition q.alarm.hubStanding .portFault = hasCondition p.alarm.hubStanding .portFault) :
    q.FaultAgrees := by
  unfold Part.FaultAgrees
  rw [hhub]
  simp only [hlines]
  exact h

theorem Within.portFault {A : Access} (h : Within A p q) (hA : ¬ A.marks .hub 5) :
    hasCondition q.alarm.hubStanding .portFault = hasCondition p.alarm.hubStanding .portFault := h.alarm.marks .hub 5 hA

theorem line_of_lineView (h : q.lineView x = p.lineView x) : (q.port x).line = (p.port x).line :=
  congrArg (fun v : LineView => v.port.line) h

theorem portMask_ne_zero : ∀ x : PortIx, portMask x ≠ 0#12 := by decide

theorem foldl_portMask (has : PortIx → Bool) :
    ∀ (l : List PortIx) (m : BitVec 12),
      l.foldl (fun m x => if has x then m ||| portMask x else m) m ≠ 0#12 ↔ m ≠ 0#12 ∨ ∃ x ∈ l, has x = true
  | [], m => by simp
  | x :: l, m => by
    rw [List.foldl_cons, foldl_portMask has l]
    by_cases hx : has x = true
    · simp [hx, BitVec.or_eq_zero_iff, portMask_ne_zero x]
    · simp [hx]

theorem faultMask_ne_zero (q : Part) : (q.faultMask != 0) = true ↔ ∃ x, (q.port x).line = .fault := by
  rw [bne_iff_ne, Part.faultMask]
  refine (foldl_portMask q.faulted allPorts 0#12).trans ?_
  simp [faulted_iff, allPorts]

/-- The report at a change of line state. -/
theorem reportPortFault_agrees (q : Part) : (reportPortFault q).FaultAgrees := by
  have hlines : (∃ x, ((reportPortFault q).port x).line = .fault) ↔ (q.faultMask != 0) = true := (faultMask_ne_zero q).symm
  unfold Part.FaultAgrees
  rw [hlines]
  obtain ⟨r, hr⟩ : ∃ r : Report, { q.hubReport .portFault (q.faultMask != 0) with ports := some q.faultMask } = r := ⟨_, rfl⟩
  have howner : r.owner = .hub := by rw [← hr]; rfl
  have hcondition : r.condition = .portFault := by rw [← hr]; rfl
  have hraise : r.isRaise = (q.faultMask != 0) := by rw [← hr]; rfl
  have htold : (reportPortFault q).alarm.hubStanding = (q.alarm.take r).standingOf r.owner := by
    rw [howner, ← hr]
    rfl
  rw [htold, ← hcondition, ← hraise]
  cases hcase : r.isRaise with
  | true => simp [take_raised (a := q.alarm) hcase (by rw [hcondition]; rfl)]
  | false => simp [take_cleared (a := q.alarm) hcase (by rw [hcondition]; rfl)]

/-- A report of a record's owner leaves the hub's conditions. -/
theorem report_hubStanding {r : Report} {i : RecordIx} (h : r.owner = .record i) (q : Part) (c : Condition) :
    hasCondition (report r q).alarm.hubStanding c = hasCondition q.alarm.hubStanding c :=
  take_other (a := q.alarm) (o := .hub) fun _ ⟨howner, _⟩ => by rw [h] at howner; cases howner

theorem pairSteps_faultAgrees : PairSteps .all Part.FaultAgrees where
  pair := fun _ _ _ _ h => h
  move := fun k _ i q _ _ h =>
    h.of_same (fun x => line_of_lineView ((pairSteps_lineView x (· = q.lineView x)).move k trivial i q ‹_› ‹_› rfl))
      (((Within.refl _ q).moveRecord (Access.pairing_pair k) i).portFault nofun)
  block := fun _ _ _ _ _ h => h
  returns := fun k _ i q hs h => by
    rw [returnRecord, if_pos hs]
    exact h.of_same (fun _ => rfl) ((report_hubStanding rfl _ _).trans (report_hubStanding rfl _ _))
  unblock := fun _ _ _ _ _ h => h
  mark := fun _ _ _ _ _ h => h.of_same (fun _ => rfl) (report_hubStanding rfl _ _)
  clear := fun _ _ _ _ _ h => h.of_same (fun _ => rfl) (report_hubStanding rfl _ _)

/-- Leave for a missing outcome of a record, with the hub's conditions apart from those of a choice left. -/
def Access.missing (i : RecordIx) : Access :=
  { Access.ending i with
    marks := fun o n => (o = .hub ∧ n ≤ 4) ∨ o = .slot 4 ∨ o = .slot 5 ∨ o = .record i }

theorem Access.missing_record (i : RecordIx) : (missing i).Record i :=
  ⟨rfl, .inr (.inr (.inr rfl)), fun _ => .inr (.inr (.inr rfl))⟩

theorem Access.missing_returns (i : RecordIx) : (missing i).Returns where
  choice := ⟨trivial, .inl rfl, fun _ hn => .inl ⟨rfl, hn⟩⟩
  slot4 := ⟨.inl rfl, .inr (.inl rfl), fun _ => .inr (.inl rfl)⟩
  slot5 := ⟨.inr rfl, .inr (.inr (.inl rfl)), fun _ => .inr (.inr (.inl rfl))⟩

theorem recordOutcome_portFault (y : PortIx) (t : SlotTarget) (t1 t4 : Option Stamp) (o : SlotOutcome) (q : Part) :
    hasCondition (recordOutcome y t t1 t4 o q).alarm.hubStanding .portFault =
      hasCondition q.alarm.hubStanding .portFault :=
  ((Within.refl _ q).recordOutcome (Access.missing_record t.record) (Access.missing_returns t.record) rfl y t1 t4
    o).portFault (by simp [Access.missing])

theorem endSlot_portFault (y : PortIx) (q : Part) :
    hasCondition (endSlot y q).alarm.hubStanding .portFault = hasCondition q.alarm.hubStanding .portFault :=
  endSlot_keeps (R := fun w => hasCondition w.alarm.hubStanding .portFault = hasCondition q.alarm.hubStanding .portFault)
    (fun _ _ h => h) (fun _ _ _ h => h) (fun t t1 t4 w h => (recordOutcome_portFault y t t1 t4 .missing w).trans h) q rfl

/-- A port's judgement: the hub's condition agrees with the lines if it did before or the line moves. -/
theorem judgePort_faultAgrees
    (h : q.FaultAgrees ∨ (q.lineView y).judged.port.line ≠ (q.lineView y).port.line) : (judgePort y q).FaultAgrees := by
  have hjudged := judged_lineView y q
  obtain ⟨w, hw⟩ : ∃ w, withPort y (fun r => r.judged (judgementOf r (q.engine y))) q = w := ⟨_, rfl⟩
  rw [hw] at hjudged
  obtain ⟨hline, hsame⟩ | ⟨_, _, henters⟩ | ⟨_, _, hleaves⟩ := judgePort_cases y q hw.symm
  · rw [hsame]
    have hagrees := h.resolve_right fun hmoved => hmoved ?_
    · refine hagrees.of_same (fun x => ?_) (by rw [← hw]; rfl)
      by_cases hx : y = x
      · subst hx
        exact hline
      · rw [← hw, withPort, port_setPort_ne _ hx]
    · rw [← hjudged]
      exact hline
  · rw [henters]
    exact pairSteps_faultAgrees.portEntersFault (PairLeave.all_pair _) trivial (reportPortFault_agrees w)
  · rw [hleaves]
    exact pairSteps_faultAgrees.portLeavesFault (PairLeave.all_pair _) trivial (reportPortFault_agrees w)

theorem portBoundary_faultAgrees (l : List PortIx)
    (h : q.FaultAgrees ∨ (q.lineView y).judged.port.line ≠ (q.lineView y).port.line) :
    (portBoundary l y q).FaultAgrees := by
  have hended : (endSlot y q).FaultAgrees ∨
      ((endSlot y q).lineView y).judged.port.line ≠ ((endSlot y q).lineView y).port.line := by
    rw [endSlot_lineView]
    exact h.imp_left fun hagrees =>
      hagrees.of_same (fun x => line_of_lineView (endSlot_lineView x y q)) (endSlot_portFault y q)
  have hjudged := judgePort_faultAgrees hended
  obtain ⟨w, hw⟩ : ∃ w, judgePort y (endSlot y q) = w := ⟨_, rfl⟩
  rw [hw] at hjudged
  rw [portBoundary, hw]
  have hcounted : (countPort l y w).FaultAgrees :=
    hjudged.of_same (fun x => line_of_lineView (countPort_lineView l x y w)) rfl
  exact hcounted.of_same (fun _ => rfl) rfl

theorem blocksKeep_faultAgrees (p : Part) : BlocksKeep p Part.FaultAgrees :=
  pairSteps_faultAgrees.blocksKeep (fun _ _ hw h =>
    h.of_same (fun x => by rw [hw.ports x nofun]) (hw.portFault (by simp [Access.steering]))) p

/-- After a port whose line moves at a boundary the hub holds PORT_FAULT exactly when some port is in FAULT (R131). -/
theorem hubBoundary_faultAgrees {b : BoundaryArgs} (hheld : p.held = false)
    (hmoves : (p.lineView x).judged.port.line ≠ (p.lineView x).port.line) : (hubBoundary b p).FaultAgrees :=
  (hubBoundary_port b x hheld (R := fun q => q.lineView x = p.lineView x) (S := Part.FaultAgrees) (atBoundary_lineView b x p)
    (blocksKeep_lineView x (· = p.lineView x) p) (fun q _ h => (recordsBoundary_lineView x q).trans h)
    (fun l y hy q h => (portBoundary_lineView_ne l hy q).trans h)
    (fun l q h => portBoundary_faultAgrees l (.inr (by rw [h]; exact hmoves))) (blocksKeep_faultAgrees p)
    (fun l y _ q h => portBoundary_faultAgrees l (.inl h))).2.2

end PortFault

end Sys2Proof.Machine

/-! SUPPORT. LINE_FAULT on the records of a port whose line has moved (R159). -/

namespace Sys2Proof.Machine

/-- A record holds LINE_FAULT. -/
def Part.lineFaulted (i : RecordIx) (q : Part) : Bool := hasCondition (q.alarm.standingOf (.record i)) .lineFault

/-- The records on a port hold LINE_FAULT, or none does. -/
def Part.Marked (x : PortIx) (v : Bool) (q : Part) : Prop := ∀ i, (q.record i).on x = true → q.lineFaulted i = v

/-- The line state that goes with it. -/
def lineOf (v : Bool) : LineState := if v then .fault else .clean

section Marks

variable {x y : PortIx} {v : Bool} {i j : RecordIx} {p q : Part} {r : Report}

theorem report_lineFaulted (h : r.owner = .record j) (hr : r.condition.standing = true → r.condition.bit = 3 → i ≠ j) (q : Part) :
    (report r q).lineFaulted i = q.lineFaulted i :=
  take_other (a := q.alarm) (o := .record i) (c := .lineFault) fun hs ⟨howner, hbit⟩ =>
    hr hs hbit (Owner.record.inj (howner.symm.trans h))

theorem raiseRecord_lineFaulted_ne (hi : i ≠ j) (c : Condition) (y : PortIx) (q : Part) :
    (raiseRecord c y j q).lineFaulted i = q.lineFaulted i := report_lineFaulted (j := j) rfl (fun _ _ => hi) q

theorem clearRecord_lineFaulted_ne (hi : i ≠ j) (c : Condition) (y : PortIx) (q : Part) :
    (clearRecord c y j q).lineFaulted i = q.lineFaulted i := report_lineFaulted (j := j) rfl (fun _ _ => hi) q

theorem raiseRecord_lineFaulted (i : RecordIx) (y : PortIx) (q : Part) :
    (raiseRecord .lineFault y i q).lineFaulted i = true :=
  take_raised (a := q.alarm) (r := recordPortReport .lineFault true y i q) rfl rfl

theorem clearRecord_lineFaulted (i : RecordIx) (y : PortIx) (q : Part) :
    (clearRecord .lineFault y i q).lineFaulted i = false :=
  take_cleared (a := q.alarm) (r := recordPortReport .lineFault false y i q) rfl rfl

theorem raiseSwitched_lineFaulted (i : RecordIx) (y : PortIx) (q : Part) :
    (raiseRecord .switched y i q).lineFaulted i = q.lineFaulted i :=
  report_lineFaulted (j := i) rfl (fun hs => Bool.noConfusion hs) q

/-- Records that come to a port hold LINE_FAULT as its others do. -/
theorem Part.Marked.of (h : p.Marked x v)
    (hq : ∀ i, (q.record i).on x = true → ((p.record i).on x = true ∧ q.lineFaulted i = p.lineFaulted i) ∨ q.lineFaulted i = v) :
    q.Marked x v := fun i hi => by
  obtain ⟨hon, hsame⟩ | hmarked := hq i hi
  · rw [hsame]
    exact h i hon
  · exact hmarked

/-- A move or a return of one record, told by the clear of LINE_FAULT and by SWITCHED. -/
theorem switched_marked (h : p.Marked x v) (hrecord : ∀ j, j ≠ i → q.record j = p.record j)
    (hother : ∀ j, j ≠ i → q.lineFaulted j = p.lineFaulted j) (hi : q.lineFaulted i = false)
    (hx : v = true → (q.record i).currentPort ≠ x) : q.Marked x v :=
  h.of fun j hj => by
    by_cases hji : j = i
    · subst hji
      refine .inr ?_
      cases v with
      | false => exact hi
      | true => exact absurd ((on_iff _ _).1 hj).2 (hx rfl)
    · rw [hrecord j hji] at hj
      exact .inl ⟨hj, hother j hji⟩

theorem moveRecord_lineFaulted (k : PairIx) (i j : RecordIx) (q : Part) :
    (moveRecord k i q).lineFaulted j = if j = i then false else q.lineFaulted j := by
  obtain ⟨w, hw⟩ : ∃ w, withRecord i (fun r =>
    { reseed (toQ r.protectOffset) r with currentPort := protectPort k, blocked := false }) q = w := ⟨_, rfl⟩
  have halarm : w.alarm = q.alarm := by
    rw [← hw]
    rfl
  have htold : (moveRecord k i q).lineFaulted j =
      (raiseRecord .switched (protectPort k) i (clearRecord .lineFault (workingPort k) i w)).lineFaulted j := by
    rw [← hw]
    rfl
  rw [htold]
  split
  · next hj =>
    subst hj
    rw [raiseSwitched_lineFaulted, clearRecord_lineFaulted]
  · next hj => rw [raiseRecord_lineFaulted_ne hj, clearRecord_lineFaulted_ne hj, Part.lineFaulted, halarm, Part.lineFaulted]

theorem returnRecord_lineFaulted (k : PairIx) (i j : RecordIx) (hs : (q.record i).switched k = true) :
    (returnRecord k i q).lineFaulted j = if j = i then false else q.lineFaulted j := by
  rw [returnRecord, if_pos hs]
  split
  · next hj =>
    subst hj
    rw [raiseSwitched_lineFaulted, clearRecord_lineFaulted]
  · next hj =>
    rw [raiseRecord_lineFaulted_ne hj, clearRecord_lineFaulted_ne hj]
    rfl

/-- The line of a port and the marks of its records, which the pairs' steps keep: a port in FAULT with no return to it and no
clear on it, a CLEAN one with no mark on it. -/
theorem pairSteps_marked {L : PairLeave} (x : PortIx) (v : Bool) (hreturns : v = true → ∀ k, L.returns k → workingPort k ≠ x)
    (hmarks : v = false → ∀ y, L.marks y → y ≠ x) (hclears : v = true → ∀ y, L.clears y → y ≠ x) :
    PairSteps L (fun q => (q.lineView x).port.line = lineOf v ∧ q.Marked x v) := by
  have kept (flag : Bool) (i : RecordIx) (q : Part) (h : q.Marked x v) :
      (withRecord i (fun r => { r with blocked := flag }) q).Marked x v := by
    refine h.of fun j hj => .inl ⟨?_, rfl⟩
    by_cases hij : i = j
    · subst hij
      rw [record_withRecord, if_pos rfl] at hj
      exact hj
    · rw [record_withRecord, if_neg hij] at hj
      exact hj
  have line := pairSteps_lineView x (fun w => w.port.line = lineOf v)
  exact
    { pair := fun _ _ _ _ h => h
      move := fun k _ i q hc hm ⟨hline, h⟩ => by
        refine ⟨line.move k trivial i q hc hm hline, switched_marked h (i := i)
          (fun j hj => by rw [moveRecord_record, if_neg hj.symm])
          (fun j hj => by rw [moveRecord_lineFaulted, if_neg hj]) (by rw [moveRecord_lineFaulted, if_pos rfl])
          fun hv hport => ?_⟩
        rw [moveRecord_record, if_pos rfl] at hport
        have hport : protectPort k = x := hport
        have hclean : (q.port (protectPort k)).line = .clean := ((usablePort_iff _ _).1 ((movable_iff _ _ _).1 hm).1).2
        subst hport hv
        exact LineState.noConfusion (hclean.symm.trans hline)
      block := fun _ _ i q _ ⟨hline, h⟩ => ⟨hline, kept _ i q h⟩
      returns := fun k hk i q hs ⟨hline, h⟩ => by
        refine ⟨line.returns k trivial i q hs hline, switched_marked h (i := i)
          (fun j hj => by rw [returnRecord_record, if_neg hj.symm])
          (fun j hj => by rw [returnRecord_lineFaulted k i j hs, if_neg hj])
          (by rw [returnRecord_lineFaulted k i i hs, if_pos rfl]) fun hv hport => ?_⟩
        rw [returnRecord_record, if_pos rfl, returnedIf, if_pos hs] at hport
        exact hreturns hv k hk hport
      unblock := fun _ _ i q _ ⟨hline, h⟩ => ⟨hline, kept _ i q h⟩
      mark := fun y hy i q hon ⟨hline, h⟩ => ⟨hline, h.of fun j hj => by
        by_cases hji : j = i
        · subst hji
          refine .inr ((raiseRecord_lineFaulted j y q).trans ?_)
          cases v with
          | true => rfl
          | false => exact absurd (((on_iff _ _).1 hon).2.symm.trans ((on_iff _ _).1 hj).2) (hmarks rfl y hy)
        · exact .inl ⟨hj, raiseRecord_lineFaulted_ne hji _ _ q⟩⟩
      clear := fun y hy i q hon ⟨hline, h⟩ => ⟨hline, h.of fun j hj => by
        by_cases hji : j = i
        · subst hji
          refine .inr ((clearRecord_lineFaulted j y q).trans ?_)
          cases v with
          | false => rfl
          | true => exact absurd (((on_iff _ _).1 hon).2.symm.trans ((on_iff _ _).1 hj).2) (hclears rfl y hy)
        · exact .inl ⟨hj, clearRecord_lineFaulted_ne hji _ _ q⟩⟩ }

/-! ## The steps of the other ports -/

/-- Leave for a record and its reports but LINE_FAULT. -/
def Access.counting (i : RecordIx) : Access :=
  { hub := False, step := False, slots := fun _ => False, records := fun j => j = i, ports := fun _ => False
    engines := fun _ => False, pairs := fun _ => False, owners := fun _ => True, marks := fun _ n => n ≠ 3 }

theorem counting_reports {r : Report} {i : RecordIx} (h : r.condition.bit ≠ 3) : (Access.counting i).Reports r :=
  ⟨trivial, fun _ => trivial, fun _ => h⟩

theorem reportVerdict_counting {i : RecordIx} (h : Within (.counting i) p q) (before verdict : TeState) (te : Int)
    (ancillary : Bool) (y : PortIx) : Within (.counting i) p (reportVerdict before verdict te ancillary y i q) := by
  have raised (c : Condition) (hc : c.bit ≠ 3) (w : Part) :
      (Access.counting i).Reports { recordPortReport c true y i w with te := some te, ancillary := ancillary } :=
    counting_reports hc
  have cleared (c : Condition) (hc : c.bit ≠ 3) (w : Part) :
      (Access.counting i).Reports { recordPortReport c false y i w with te := some te } := counting_reports hc
  have marginal : Condition.teMarginal.bit ≠ 3 := by decide
  have exceeded : Condition.teExceeded.bit ≠ 3 := by decide
  unfold reportVerdict
  split
  · exact h.report (raised _ marginal q)
  · exact h.report (raised _ marginal q)
  · exact h.report (raised _ exceeded q)
  · exact h.report (raised _ exceeded q)
  · exact h.report (cleared _ marginal q)
  · exact h.reportPair _ (raised _ exceeded q) (cleared _ marginal q)
  · exact h.reportPair _ (raised _ marginal q) (cleared _ exceeded q)
  · exact h.report (cleared _ exceeded q)
  all_goals exact h

theorem missing_counting (y : PortIx) (i : RecordIx) (q : Part) :
    Within (.counting i) q (countMissing y i (measureMissing y i q)) := by
  have hrecord : (Access.counting i).records i := rfl
  have hmeasured : Within (.counting i) q (measureMissing y i q) := by
    have hcounted := (Within.refl (.counting i) q).withRecord hrecord (countSlot .missed)
    unfold measureMissing judgeTe
    dsimp only
    split
    · exact hcounted
    · exact reportVerdict_counting (hcounted.withRecord hrecord _) _ _ _ _ _
  unfold countMissing
  dsimp only
  split
  · split
    · exact (hmeasured.withRecord hrecord _).report (counting_reports (show Condition.silent.bit ≠ 3 by decide))
    · exact hmeasured.withRecord hrecord _
  · exact hmeasured

/-- A missing outcome leaves the marks of a port's records, and ends a record or leaves its place. -/
theorem recordOutcome_marked (h : q.Marked x v) (y : PortIx) (t : SlotTarget) (t1 t4 : Option Stamp) :
    (recordOutcome y t t1 t4 .missing q).Marked x v := by
  have hplace (j : RecordIx) (hj : ((recordOutcome y t t1 t4 .missing q).record j).on x = true) : (q.record j).on x = true := by
    obtain hended | ⟨_, _, _, _, _, _, _, _, state, hvacant, hkept⟩ := recordOutcome_missing_record y t t1 t4 q j
    · rw [hended] at hj
      exact absurd rfl ((on_iff _ _).1 hj).1
    · rw [hkept] at hj
      obtain ⟨hstate, hport⟩ := (on_iff _ _).1 hj
      exact (on_iff _ _).2 ⟨fun hv => hstate (hvacant.2 hv), hport⟩
  refine h.of fun j hj => .inl ⟨hplace j hj, ?_⟩
  obtain hsame | ⟨_, _, _, _, hended⟩ | ⟨_, hcounted⟩ := recordOutcome_missing_cases y t t1 t4 q
  · rw [hsame]
  · by_cases hjt : j = t.record
    · rw [hended, hjt, endRetired_record] at hj
      exact absurd rfl ((on_iff _ _).1 hj).1
    · rw [hended]
      exact (endRetired_within _ _ q).alarm.marks (.record j) 3 (by simp [Access.ending, hjt])
  · rw [hcounted]
    exact (missing_counting y t.record q).alarm.marks (.record j) 3 (by simp [Access.counting])

theorem Part.Marked.of_same (h : p.Marked x v) (hrecord : ∀ i, q.record i = p.record i) (hmarks : ∀ i, q.lineFaulted i = p.lineFaulted i) :
    q.Marked x v := h.of fun i hi => .inl ⟨by rw [← hrecord]; exact hi, hmarks i⟩

theorem portSteps_marked (hy : y ≠ x) (K : LineView → Prop) (v : Bool) :
    PortSteps y (fun q => K (q.lineView x) ∧ q.Marked x v) := by
  have line := portSteps_lineView_ne hy K
  have marks : PortSteps y (Part.Marked x v) :=
    portSteps_of (fun _ _ h => h) (fun _ _ h => h)
      (fun _ h => h.of_same (fun _ => rfl) fun _ => take_other fun _ ⟨howner, _⟩ => by cases howner)
      fun t t1 t4 _ h => recordOutcome_marked h y t t1 t4
  exact line.and marks

theorem steers_marked {w : Part} (hw : Within .steering q w) (h : q.Marked x v) : w.Marked x v :=
  h.of_same (fun i => hw.records i nofun) fun i => hw.alarm.marks (.record i) 3 (by simp [Access.steering])

/-! ## The marks that a change of line leaves (R159) -/

theorem markFaulted_marked (x : PortIx) (q : Part) : (markFaulted x q).Marked x true := by
  intro i
  refine forEach_through i (R := fun _ => True) (S := fun w => (w.record i).on x = true → w.lineFaulted i = true)
    (fun _ _ _ _ => trivial) (fun w _ hon => ?_) (fun j hj w h => ?_) (p := q) trivial
  · split at hon
    · next hmarks => rw [if_pos hmarks]; exact raiseRecord_lineFaulted i x w
    · next hmarks =>
      rw [if_neg hmarks]
      by_contra hunmarked
      exact hmarks (Bool.and_eq_true_iff.2 ⟨hon, by simpa [Part.lineFaulted, Part.standingOfRecord] using hunmarked⟩)
  · split
    · exact fun hon => (raiseRecord_lineFaulted_ne hj.symm _ _ w).trans (h hon)
    · exact h

theorem clearFaulted_marked (x : PortIx) (q : Part) : (clearFaulted x q).Marked x false := by
  intro i
  refine forEach_through i (R := fun _ => True) (S := fun w => (w.record i).on x = true → w.lineFaulted i = false)
    (fun _ _ _ _ => trivial) (fun w _ hon => ?_) (fun j hj w h => ?_) (p := q) trivial
  · split at hon
    · next hclears => rw [if_pos hclears]; exact clearRecord_lineFaulted i x w
    · next hclears => exact absurd hon hclears
  · split
    · exact fun hon => (clearRecord_lineFaulted_ne hj.symm _ _ w).trans (h hon)
    · exact h

end Marks

end Sys2Proof.Machine

/-! SUPPORT. A line that enters or leaves FAULT at a boundary, with the hub and the records on the port (R131, R159). -/

namespace Sys2Proof.Machine

/-! ## The two ports of a pair -/

theorem port_cases (y : PortIx) : y = workingPort (pairOf y) ∨ y = protectPort (pairOf y) := by
  rw [Fin.ext_iff, Fin.ext_iff]
  simp only [workingPort, protectPort, pairOf]
  omega

theorem isWorking_workingPort (k : PairIx) : isWorking (workingPort k) = true := by
  simp [isWorking, pairOf_workingPort]

theorem isWorking_protectPort (k : PairIx) : isWorking (protectPort k) = false := by
  simp [isWorking, pairOf_protectPort, (workingPort_ne_protectPort k k).symm]

theorem portEntersFault_working (k : PairIx) (q : Part) :
    portEntersFault (workingPort k) q = markFaulted (workingPort k) (workingFault k q) := by
  rw [portEntersFault, isWorking_workingPort, if_pos rfl, pairOf_workingPort]

theorem portEntersFault_protect (k : PairIx) (q : Part) :
    portEntersFault (protectPort k) q = markFaulted (protectPort k) (protectFault k q) := by
  rw [portEntersFault, isWorking_protectPort, if_neg Bool.false_ne_true, pairOf_protectPort]

theorem portLeavesFault_working (k : PairIx) (q : Part) :
    portLeavesFault (workingPort k) q = workingClean k (clearFaulted (workingPort k) q) := by
  rw [portLeavesFault, isWorking_workingPort, if_pos rfl, pairOf_workingPort]

theorem portLeavesFault_protect (k : PairIx) (q : Part) :
    portLeavesFault (protectPort k) q = clearFaulted (protectPort k) q := by
  rw [portLeavesFault, isWorking_protectPort, if_neg Bool.false_ne_true]

/-! ## A port's boundary, by what its line does -/

/-- A port's boundary keeps what its steps keep, and what the change of line keeps where the line changes. -/
theorem PortSteps.portBoundary_line {y : PortIx} {R : Part → Prop} (ports : PortSteps y R) (l : List PortIx) {q : Part}
    (enters : (q.lineView y).port.line = .clean → (q.lineView y).judged.port.line = .fault →
      ∀ w, w.lineView y = (q.lineView y).judged → R w → R (portEntersFault y w))
    (leaves : (q.lineView y).port.line = .fault → (q.lineView y).judged.port.line = .clean →
      ∀ w, w.lineView y = (q.lineView y).judged → R w → R (portLeavesFault y w)) (h : R q) :
    R (Machine.portBoundary l y q) := by
  refine ports.begins _ (ports.counts l _ ?_)
  have hended := ports.ends q h
  have hview := endSlot_lineView y y q
  rw [← hview] at enters leaves
  generalize endSlot y q = q at hended enters leaves
  have hjudges := ports.judges q hended
  have hjudged := judged_lineView y q
  obtain ⟨w, hw⟩ : ∃ w, withPort y (fun r => r.judged (judgementOf r (q.engine y))) q = w := ⟨_, rfl⟩
  rw [hw] at hjudged hjudges
  have hline : (q.lineView y).judged.port.line = (w.port y).line := congrArg (fun v : LineView => v.port.line) hjudged.symm
  obtain ⟨_, hsame⟩ | ⟨hbefore, hafter, hjudge⟩ | ⟨hbefore, hafter, hjudge⟩ := judgePort_cases y q hw.symm
  · rw [hsame]
    exact hjudges
  · rw [hjudge]
    exact enters hbefore (hline.trans hafter) _ hjudged (ports.told w hjudges)
  · rw [hjudge]
    exact leaves hbefore (hline.trans hafter) _ hjudged (ports.told w hjudges)

/-- The boundary of a port whose line enters FAULT. -/
theorem PortSteps.enters {x : PortIx} {R : Part → Prop} (ports : PortSteps x R) (l : List PortIx) {q : Part}
    (hbefore : (q.lineView x).port.line = .clean) (hafter : (q.lineView x).judged.port.line = .fault) (h : R q) :
    ∃ w, w.lineView x = (q.lineView x).judged ∧ R w ∧
      Machine.portBoundary l x q = beginPortSecond x (countPort l x (portEntersFault x w)) := by
  have hview := endSlot_lineView x x q
  have hjudged := judged_lineView x (endSlot x q)
  have hkept := ports.told _ (ports.judges _ (ports.ends q h))
  rw [hview] at hjudged
  obtain ⟨w, hw⟩ : ∃ w, withPort x (fun r => r.judged (judgementOf r ((endSlot x q).engine x))) (endSlot x q) = w := ⟨_, rfl⟩
  rw [hw] at hjudged hkept
  have hwline : (w.port x).line = .fault := (congrArg (fun v : LineView => v.port.line) hjudged).trans hafter
  have hqline : ((endSlot x q).port x).line = .clean := (line_of_lineView hview).trans hbefore
  refine ⟨reportPortFault w, hjudged, hkept, ?_⟩
  rw [Machine.portBoundary]
  obtain ⟨hsame, _⟩ | ⟨_, _, henters⟩ | ⟨hfault, _⟩ := judgePort_cases x (endSlot x q) hw.symm
  · rw [hwline, hqline] at hsame
    cases hsame
  · rw [henters]
  · rw [hqline] at hfault
    cases hfault

/-- The boundary of a port whose line leaves FAULT. -/
theorem PortSteps.leaves {x : PortIx} {R : Part → Prop} (ports : PortSteps x R) (l : List PortIx) {q : Part}
    (hbefore : (q.lineView x).port.line = .fault) (hafter : (q.lineView x).judged.port.line = .clean) (h : R q) :
    ∃ w, w.lineView x = (q.lineView x).judged ∧ R w ∧
      Machine.portBoundary l x q = beginPortSecond x (countPort l x (portLeavesFault x w)) := by
  have hview := endSlot_lineView x x q
  have hjudged := judged_lineView x (endSlot x q)
  have hkept := ports.told _ (ports.judges _ (ports.ends q h))
  rw [hview] at hjudged
  obtain ⟨w, hw⟩ : ∃ w, withPort x (fun r => r.judged (judgementOf r ((endSlot x q).engine x))) (endSlot x q) = w := ⟨_, rfl⟩
  rw [hw] at hjudged hkept
  have hwline : (w.port x).line = .clean := (congrArg (fun v : LineView => v.port.line) hjudged).trans hafter
  have hqline : ((endSlot x q).port x).line = .fault := (line_of_lineView hview).trans hbefore
  refine ⟨reportPortFault w, hjudged, hkept, ?_⟩
  rw [Machine.portBoundary]
  obtain ⟨hsame, _⟩ | ⟨hclean, _⟩ | ⟨_, _, hleaves⟩ := judgePort_cases x (endSlot x q) hw.symm
  · rw [hwline, hqline] at hsame
    cases hsame
  · rw [hqline] at hclean
    cases hclean
  · rw [hleaves]

theorem portSteps_true (x : PortIx) : PortSteps x (fun _ => True) :=
  portSteps_of (fun _ _ _ => trivial) (fun _ _ _ => trivial) (fun _ _ => trivial) fun _ _ _ _ _ => trivial

/-! ## A line that enters FAULT -/

section Enters

variable {x y : PortIx} {p q : Part}

/-- A pair is switched. -/
def PairRecord.isSwitched (r : PairRecord) : Prop := r.state = .switchedAuto ∨ r.state = .switchedManual

theorem workingFault_pair (k : PairIx) (q : Part) : ((workingFault k q).pair k).isSwitched := by
  unfold workingFault
  split
  · exact .inl (congrArg PairRecord.state (pair_setPair_self ..))
  · next h => exact .inl ((congrArg PairRecord.state (switchPass_pair k k q)).trans h)
  · next h => exact .inr ((congrArg PairRecord.state (switchPass_pair k k q)).trans h)
  · exact .inl (congrArg PairRecord.state (pair_setPair_self ..))

/-- Leave for the pairs whose working port is another one. -/
def PairLeave.keeping (x : PortIx) : PairLeave :=
  { pairs := fun k => workingPort k ≠ x, moves := fun _ => True, returns := fun k => workingPort k ≠ x
    marks := fun _ => True, clears := fun y => y ≠ x }

/-- A port in FAULT whose records hold LINE_FAULT. -/
def Part.Down (x : PortIx) (q : Part) : Prop := (q.lineView x).port.line = lineOf true ∧ q.Marked x true

/-- A pair that a port works for is switched. -/
def Part.PairSwitched (x : PortIx) (q : Part) : Prop := ∀ k, workingPort k = x → (q.pair k).isSwitched

theorem pairSteps_down (x : PortIx) : PairSteps (.keeping x) (fun q => q.Down x ∧ q.PairSwitched x) := by
  have pairs : PairSteps (.keeping x) (Part.PairSwitched x) :=
    { pair := fun k hk f q h j hj => by
        have hkj : k ≠ j := fun hkj => hk (hkj ▸ hj)
        rw [withPair, pair_setPair_ne _ hkj]
        exact h j hj
      move := fun _ _ _ _ _ _ h => h
      block := fun _ _ _ _ _ h => h
      returns := fun k _ i q _ h j hj => by
        rw [returnRecord_pair]
        exact h j hj
      unblock := fun _ _ _ _ _ h => h
      mark := fun _ _ _ _ _ h => h
      clear := fun _ _ _ _ _ h => h }
  exact (pairSteps_marked x true (fun _ _ hk => hk) nofun (fun _ _ hy => hy)).and pairs

theorem portSteps_down (hy : y ≠ x) : PortSteps y (fun q => q.Down x ∧ q.PairSwitched x) :=
  (portSteps_marked hy (fun v => v.port.line = lineOf true) true).and
    (portSteps_of (fun _ _ h => h) (fun _ _ h => h) (fun _ h => h) fun t t1 t4 q h k hk => by
      rw [(recordOutcome_within y t t1 t4 .missing q).pairs k nofun]
      exact h k hk)

theorem protectFault_switched {k : PairIx} (hfault : (q.port (workingPort k)).line = .fault) : protectFault k q = q := by
  unfold protectFault
  split
  · rfl
  all_goals rw [if_pos ((faulted_iff _ _).2 hfault)]

theorem down_portBoundary (hy : y ≠ x) (l : List PortIx) (h : q.Down x ∧ q.PairSwitched x) :
    (portBoundary l y q).Down x ∧ (portBoundary l y q).PairSwitched x := by
  have steps := pairSteps_down x
  have leave (k : PairIx) (hk : workingPort k ≠ x) : (PairLeave.keeping x).Pair k := ⟨hk, trivial, hk⟩
  refine (portSteps_down hy).portBoundary_line l (fun _ _ w _ hw => ?_) (fun _ _ w _ hw => ?_) h
  · by_cases hk : workingPort (pairOf y) = x
    · obtain hyk | hyk := port_cases y
      · exact absurd (hyk.trans hk) hy
      · rw [hyk, portEntersFault_protect, protectFault_switched (by rw [hk]; exact hw.1.1)]
        exact steps.markFaulted trivial hw
    · exact steps.portEntersFault (leave _ hk) trivial hw
  · by_cases hk : workingPort (pairOf y) = x
    · obtain hyk | hyk := port_cases y
      · exact absurd (hyk.trans hk) hy
      · rw [hyk, portLeavesFault_protect]
        exact steps.clearFaulted (x := protectPort (pairOf y)) (hyk ▸ hy) hw
    · exact steps.portLeavesFault (leave _ hk) hy hw

theorem pairWaitStep_idle {k : PairIx} (h : (q.pair k).state ≠ .restoreWait) : pairWaitStep k q = q := if_neg h

theorem PairRecord.isSwitched.not_waiting {r : PairRecord} (h : r.isSwitched) : r.state ≠ .restoreWait := by
  rintro hwait
  obtain hs | hs := h <;> rw [hwait] at hs <;> cases hs

theorem blocksKeep_down (x : PortIx) (p : Part) : BlocksKeep p (fun q => q.Down x ∧ q.PairSwitched x) where
  steers := fun q w hw ⟨⟨hline, hmarked⟩, hpair⟩ =>
    ⟨⟨(hw.lineView (x := x) nofun nofun).symm ▸ hline, steers_marked hw hmarked⟩, fun k hk => by
      rw [hw.pairs k nofun]
      exact hpair k hk⟩
  waits := fun q h => forEach_induct (R := fun q => q.Down x ∧ q.PairSwitched x) _ (fun k w hw => by
    by_cases hk : workingPort k = x
    · rw [pairWaitStep_idle (hw.2 k hk).not_waiting]
      exact hw
    · exact (pairSteps_down x).pairWaitStep ⟨hk, trivial, hk⟩ hw) _ _ h
  sweeps := fun q h => (pairSteps_down x).sweepBoundary (fun _ => trivial) (fun _ _ _ _ => trivial) h

theorem markFaulted_pair (x : PortIx) (q : Part) (k : PairIx) : (markFaulted x q).pair k = q.pair k :=
  forEach_keeps (get := fun w => w.pair k) fun i _ w => by split <;> rfl

/-- The boundary of a port whose line enters FAULT. -/
theorem portBoundary_down (l : List PortIx) (hfaults : (q.lineView x).Faults) :
    (portBoundary l x q).Down x ∧ (portBoundary l x q).PairSwitched x := by
  have hline := portBoundary_lineView l x q
  have hentered : ((portBoundary l x q).lineView x).port.line = lineOf true := by
    rw [hline]
    exact hfaults.entered.line
  obtain ⟨w, _, _, hboundary⟩ := (portSteps_true x).enters l hfaults.line hfaults.entered.line trivial
  have hmarked : (portEntersFault x w).Marked x true := markFaulted_marked x _
  have hpairs : (portEntersFault x w).PairSwitched x := fun k hk => by
    rw [← hk, portEntersFault_working, markFaulted_pair]
    exact workingFault_pair k _
  rw [hboundary] at hentered ⊢
  generalize portEntersFault x w = u at hmarked hpairs hentered
  exact ⟨⟨hentered, hmarked⟩, hpairs⟩

/-- A boundary at which a line enters FAULT. -/
theorem hubBoundary_down {b : BoundaryArgs} (hheld : p.held = false) (hfaults : (p.lineView x).Faults) :
    (hubBoundary b p).Down x :=
  (hubBoundary_port b x hheld (R := fun q => q.lineView x = p.lineView x) (S := fun q => q.Down x ∧ q.PairSwitched x)
    (atBoundary_lineView b x p) (blocksKeep_lineView x (· = p.lineView x) p)
    (fun q _ h => (recordsBoundary_lineView x q).trans h) (fun l _ hy q h => (portBoundary_lineView_ne l hy q).trans h)
    (fun l _ h => portBoundary_down l (h.symm ▸ hfaults)) (blocksKeep_down x p)
    (fun l _ hy _ h => down_portBoundary hy l h)).2.2.1

end Enters

/-! ## A line that leaves FAULT -/

section Leaves

variable {x y : PortIx} {p q : Part}

/-- A CLEAN port with no record that holds LINE_FAULT. -/
def Part.Up (x : PortIx) (q : Part) : Prop := (q.lineView x).port.line = lineOf false ∧ q.Marked x false

/-- Leave for all but a mark of one port. -/
def PairLeave.unmarking (x : PortIx) : PairLeave := { PairLeave.all with marks := fun y => y ≠ x }

theorem PairLeave.unmarking_pair (x : PortIx) (k : PairIx) : (unmarking x).Pair k := ⟨trivial, trivial, trivial⟩

theorem pairSteps_up (x : PortIx) : PairSteps (.unmarking x) (Part.Up x) :=
  pairSteps_marked x false nofun (fun _ _ hy => hy) nofun

theorem up_portBoundary (hy : y ≠ x) (l : List PortIx) (h : q.Up x) : (portBoundary l y q).Up x :=
  (portSteps_marked hy (fun v => v.port.line = lineOf false) false).portBoundary
    (fun _ hw => (pairSteps_up x).portEntersFault (PairLeave.unmarking_pair x _) hy hw)
    (fun _ hw => (pairSteps_up x).portLeavesFault (PairLeave.unmarking_pair x _) trivial hw) l h

theorem blocksKeep_up (x : PortIx) (p : Part) : BlocksKeep p (Part.Up x) where
  steers := fun _ _ hw ⟨hline, hmarked⟩ => ⟨(hw.lineView (x := x) nofun nofun).symm ▸ hline, steers_marked hw hmarked⟩
  waits := fun _ h => (pairSteps_up x).pairWaits (fun k _ => PairLeave.unmarking_pair x k) h
  sweeps := fun _ h => (pairSteps_up x).sweepBoundary (fun _ => trivial) (fun y w ⟨hline, _⟩ hfault => by
    rintro rfl
    exact LineState.noConfusion (hline.symm.trans ((faulted_iff _ _).1 hfault))) h

/-- The boundary of a port whose line leaves FAULT. -/
theorem portBoundary_up (l : List PortIx) (hclears : (q.lineView x).Clears) : (portBoundary l x q).Up x := by
  obtain ⟨w, hw, _, hboundary⟩ := (portSteps_true x).leaves l hclears.line hclears.entered.line trivial
  have hcleared : (clearFaulted x w).Up x := by
    have hview : (clearFaulted x w).lineView x = w.lineView x :=
      (pairSteps_lineView x (· = w.lineView x)).clearFaulted (x := x) trivial rfl
    refine ⟨?_, clearFaulted_marked x w⟩
    rw [hview, hw]
    exact hclears.entered.line
  have hleft : (portLeavesFault x w).Up x := by
    unfold portLeavesFault
    dsimp only
    split
    · exact (pairSteps_up x).workingClean (PairLeave.unmarking_pair x _) hcleared
    · exact hcleared
  rw [hboundary]
  generalize portLeavesFault x w = u at hleft
  obtain ⟨hline, hmarked⟩ := hleft
  refine ⟨?_, hmarked⟩
  rw [beginPortSecond_lineView, countPort_lineView]
  exact hline

/-- A boundary at which a line leaves FAULT. -/
theorem hubBoundary_up {b : BoundaryArgs} (hheld : p.held = false) (hclears : (p.lineView x).Clears) :
    (hubBoundary b p).Up x :=
  (hubBoundary_port b x hheld (R := fun q => q.lineView x = p.lineView x) (S := Part.Up x)
    (atBoundary_lineView b x p) (blocksKeep_lineView x (· = p.lineView x) p)
    (fun q _ h => (recordsBoundary_lineView x q).trans h) (fun l _ hy q h => (portBoundary_lineView_ne l hy q).trans h)
    (fun l _ h => portBoundary_up l (h.symm ▸ hclears)) (blocksKeep_up x p)
    (fun l _ hy _ h => up_portBoundary hy l h)).2.2

end Leaves

/-! ## LINE_FAULT_ENTRY and LINE_CLEAN_ENTRY (R131, R159; log entry 3) -/

/-- O44's first clause. -/
theorem boundaryMovesTheLine (s : State) (b : BoundaryArgs) (x : PortIx) (hheld : s.part.held = false) :
    (s.part.Faulting x →
      ∃ t : State, exec (.lineFaultEntry x b) s = .next t ∧ exec (.hubSecondBoundary b) s = .next t ∧
        t.pending = s.pending ∧ (t.part.port x).line = .fault ∧ (t.part.port x).failRun = 0 ∧
        (t.part.port x).cleanRun = 0 ∧ hasCondition t.part.alarm.hubStanding .portFault = true ∧
        ∀ i : RecordIx, (t.part.record i).state ≠ .vacant → (t.part.record i).currentPort = x →
          hasCondition (t.part.alarm.standingOf (.record i)) .lineFault = true) ∧
    (s.part.Clearing x →
      ∃ t : State, exec (.lineCleanEntry x b) s = .next t ∧ exec (.hubSecondBoundary b) s = .next t ∧
        t.pending = s.pending ∧ (t.part.port x).line = .clean ∧ (t.part.port x).failRun = 0 ∧
        (t.part.port x).cleanRun = 0 ∧
        (hasCondition t.part.alarm.hubStanding .portFault = true ↔ ∃ j : PortIx, (t.part.port j).line = .fault) ∧
        ∀ i : RecordIx, (t.part.record i).state ≠ .vacant → (t.part.record i).currentPort = x →
          hasCondition (t.part.alarm.standingOf (.record i)) .lineFault = false) := by
  obtain ⟨hbefore, hwork, hafter⟩ := hubBoundary_lineView (b := b) (x := x) hheld
  have hline (q : Part) : (q.port x).line = (q.lineView x).port.line := rfl
  have hfail (q : Part) : (q.port x).failRun = (q.lineView x).port.failRun := rfl
  have hclean (q : Part) : (q.port x).cleanRun = (q.lineView x).port.cleanRun := rfl
  have hmarks (v : Bool) (q : Part) (h : q.Marked x v) (i : RecordIx) (hstate : (q.record i).state ≠ .vacant)
      (hport : (q.record i).currentPort = x) :
      hasCondition ((settle s.pending q).alarm.standingOf (.record i)) .lineFault = v := by
    rw [settle_standingOf]
    exact h i ((on_iff _ _).2 ⟨hstate, hport⟩)
  have hhub (q : Part) : (settle s.pending q).alarm.hubStanding = q.alarm.hubStanding := settle_standingOf s.pending q .hub
  refine ⟨fun hfaulting => ?_, fun hclearing => ?_⟩
  · have hfaults := hfaulting.view
    have hmoves : (s.part.lineView x).judged.port.line ≠ (s.part.lineView x).port.line := by
      rw [hfaults.entered.line, hfaults.line]
      nofun
    refine ⟨_, exec_of_work (test := lineMoves .clean .fault x) rfl hheld ?_, exec_hubSecondBoundary b s, rfl, ?_, ?_, ?_, ?_,
      fun i => ?_⟩
    · rw [lineMoves, hline, hline, hbefore, hwork, hfaults.line]
      exact beq_iff_eq.2 hfaults.entered.line
    · rw [settle_port, hline, hafter]
      exact hfaults.entered.line
    · rw [settle_port, hfail, hafter]
      exact hfaults.entered.failRun
    · rw [settle_port, hclean, hafter]
      exact hfaults.entered.cleanRun
    · rw [hhub]
      refine (hubBoundary_faultAgrees (b := b) hheld hmoves).2 ⟨x, ?_⟩
      rw [hline, hafter]
      exact hfaults.entered.line
    · rw [settle_record]
      exact hmarks true _ (hubBoundary_down hheld hfaults).2 i
  · have hclears := hclearing.view
    have hmoves : (s.part.lineView x).judged.port.line ≠ (s.part.lineView x).port.line := by
      rw [hclears.entered.line, hclears.line]
      nofun
    refine ⟨_, exec_of_work (test := lineMoves .fault .clean x) rfl hheld ?_, exec_hubSecondBoundary b s, rfl, ?_, ?_, ?_, ?_,
      fun i => ?_⟩
    · rw [lineMoves, hline, hline, hbefore, hwork, hclears.line]
      exact beq_iff_eq.2 hclears.entered.line
    · rw [settle_port, hline, hafter]
      exact hclears.entered.line
    · rw [settle_port, hfail, hafter]
      exact hclears.entered.failRun
    · rw [settle_port, hclean, hafter]
      exact hclears.entered.cleanRun
    · rw [hhub]
      simp only [settle_port]
      exact hubBoundary_faultAgrees (b := b) hheld hmoves
    · rw [settle_record]
      exact hmarks false _ (hubBoundary_up hheld hclears).2 i

end Sys2Proof.Machine

/-! SUPPORT. A pair through a boundary at which one of its ports' lines moves (R160, R163, R164, R167; log entries 3 and 4). -/

namespace Sys2Proof.Machine

/-! ## What a boundary keeps of one pair, its ports' reports apart -/

/-- What the other pairs' steps, the ports' own steps, the steering blocks and the pair's sweep keep. -/
structure PairFact (k : PairIx) (R : Part → Prop) : Prop where
  steps  : PairSteps (.others k) R
  ports  : ∀ y, PortSteps y R
  steers : ∀ q w, Within .steering q w → R q → R w
  sweep  : ∀ q, R q → R (sweepPair k q)

theorem PairFact.and {k : PairIx} {R S : Part → Prop} (h : PairFact k R) (g : PairFact k S) :
    PairFact k (fun q => R q ∧ S q) where
  steps := h.steps.and g.steps
  ports := fun y => (h.ports y).and (g.ports y)
  steers := fun q w hw ⟨hr, hs⟩ => ⟨h.steers q w hw hr, g.steers q w hw hs⟩
  sweep := fun q ⟨hr, hs⟩ => ⟨h.sweep q hr, g.sweep q hs⟩

/-- What the wait of a pair keeps, where it is due at a boundary (R164). -/
def WaitKeeps (p : Part) (k : PairIx) (R : Part → Prop) : Prop :=
  k ∈ p.waitingPairs → ∀ q, R q → R (pairWaitStep k q)

theorem PairFact.blocksKeep {p : Part} {k : PairIx} {R : Part → Prop} (h : PairFact k R) (hwait : WaitKeeps p k R) :
    BlocksKeep p R where
  steers := h.steers
  waits := fun q hr => forEach_induct_mem (fun j hj w hw => by
    by_cases hjk : j = k
    · subst hjk
      exact hwait hj w hw
    · exact h.steps.pairWaitStep (PairLeave.others_pair hjk) hw) hr
  sweeps := fun q hr => h.steps.sweepMarks (fun _ _ _ _ => trivial) (forEach_induct (R := R) _ (fun j w hw => by
    by_cases hjk : j = k
    · subst hjk
      exact h.sweep w hw
    · exact h.steps.sweepPair (k := j) hjk hw) _ _ hr)

/-- A line that never enters FAULT, and a working port's that never leaves it. -/
structure LineView.Mute (y : PortIx) (v : LineView) : Prop where
  spared : v.Spared
  stuck  : isWorking y = true → v.Stuck

theorem PairFact.portBoundary_mute {k : PairIx} {R : Part → Prop} (h : PairFact k R) {y : PortIx}
    (l : List PortIx) {q : Part} (hmute : (q.lineView y).Mute y) (hr : R q) : R (Machine.portBoundary l y q) := by
  refine (h.ports y).portBoundary_line l (fun hclean hfault => ?_) (fun hfault hclean w _ hw => ?_) hr
  · exact absurd ((hmute.spared.judged_line hclean).symm.trans hfault) nofun
  · obtain hy | hy := port_cases y
    · have hstuck := hmute.stuck (by rw [hy]; exact isWorking_workingPort _)
      exact absurd ((hstuck.judged_line hfault).symm.trans hclean) nofun
    · rw [hy, portLeavesFault_protect]
      exact h.steps.clearFaulted trivial hw

theorem PairFact.portBoundary_other {k : PairIx} {R : Part → Prop} (h : PairFact k R) {y : PortIx}
    (hy : pairOf y ≠ k) (l : List PortIx) {q : Part} (hr : R q) : R (Machine.portBoundary l y q) :=
  (h.ports y).portBoundary (fun _ hw => h.steps.portEntersFault (PairLeave.others_pair hy) trivial hw)
    (fun _ hw => h.steps.portLeavesFault (PairLeave.others_pair hy) trivial hw) l hr

/-- The two ports of a pair, in either order. -/
def PairPorts (k : PairIx) (x y : PortIx) : Prop :=
  (x = workingPort k ∧ y = protectPort k) ∨ (x = protectPort k ∧ y = workingPort k)

theorem PairPorts.eq_of_ne {k : PairIx} {x y z : PortIx} (h : PairPorts k x y) (hz : pairOf z = k) (hzx : z ≠ x) : z = y := by
  subst hz
  obtain ⟨rfl, rfl⟩ | ⟨rfl, rfl⟩ := h
  · exact (port_cases z).resolve_left hzx
  · exact (port_cases z).resolve_right hzx

theorem PairPorts.ne {k : PairIx} {x y : PortIx} (h : PairPorts k x y) : y ≠ x := by
  obtain ⟨rfl, rfl⟩ | ⟨rfl, rfl⟩ := h
  · exact (workingPort_ne_protectPort k k).symm
  · exact workingPort_ne_protectPort k k

/-- What a boundary keeps of a line that is mute. -/
structure MuteFact (y : PortIx) (K : LineView → Prop) : Prop where
  judged : ∀ v, K v → K v.judged
  begun  : ∀ v, K v → K v.begun
  mute   : ∀ v, K v → v.Mute y

/-- A boundary at which one port of a pair moves its line and the other is mute. -/
theorem hubBoundary_pair (b : BoundaryArgs) {k : PairIx} {x y : PortIx} {p : Part} (hheld : p.held = false)
    (hxy : PairPorts k x y) {K : LineView → Prop} (hK : MuteFact y K) (hy : K (p.lineView y)) {R S : Part → Prop}
    (hR : PairFact k R) (hS : PairFact k S) (records : ∀ q, p.RetiresAs q → R q → R (recordsBoundary q))
    (waitR : WaitKeeps p k R) (waitS : WaitKeeps p k S) (start : R (atBoundary b p))
    (work : ∀ l q, q.lineView x = p.lineView x → K (q.lineView y) → R q → S (portBoundary l x q)) :
    S (hubBoundary b p) := by
  have hother (K' : LineView → Prop) (hjudged : ∀ v, K' v → K' v.judged) (hbegun : ∀ v, K' v → K' v.begun) (l : List PortIx)
      (z : PortIx) (q : Part) (h : K' (q.lineView y)) : K' ((portBoundary l z q).lineView y) :=
    (pairSteps_lineView y K').portBoundary (portSteps_lineView hjudged hbegun y z) l h
  exact (hubBoundary_port b x hheld
    (R := fun q => (q.lineView x = p.lineView x ∧ K (q.lineView y)) ∧ R q) (S := fun q => K (q.lineView y) ∧ S q)
    ⟨⟨atBoundary_lineView b x p, (atBoundary_lineView b y p).symm ▸ hy⟩, start⟩
    (((blocksKeep_lineView x (· = p.lineView x) p).and (blocksKeep_lineView y K p)).and (hR.blocksKeep waitR))
    (fun q hretires ⟨⟨hx, hk⟩, hr⟩ => ⟨⟨(recordsBoundary_lineView x q).trans hx, (recordsBoundary_lineView y q).symm ▸ hk⟩,
      records q hretires hr⟩)
    (fun l z hz q ⟨⟨hx, hk⟩, hr⟩ => ⟨⟨(portBoundary_lineView_ne l hz q).trans hx, hother K hK.judged hK.begun l z q hk⟩, by
      by_cases hpair : pairOf z = k
      · obtain rfl := hxy.eq_of_ne hpair hz
        exact hR.portBoundary_mute l (hK.mute _ hk) hr
      · exact hR.portBoundary_other hpair l hr⟩)
    (fun l q ⟨⟨hx, hk⟩, hr⟩ => ⟨hother K hK.judged hK.begun l x q hk, work l q hx hk hr⟩)
    ((blocksKeep_lineView y K p).and (hS.blocksKeep waitS))
    (fun l z hz q ⟨hk, hs⟩ => ⟨hother K hK.judged hK.begun l z q hk, by
      by_cases hpair : pairOf z = k
      · obtain rfl := hxy.eq_of_ne hpair hz
        exact hS.portBoundary_mute l (hK.mute _ hk) hs
      · exact hS.portBoundary_other hpair l hs⟩)).2.2.2

/-- The working port's line enters FAULT. -/
theorem hubBoundary_workingFaults (b : BoundaryArgs) {k : PairIx} {p : Part} (hheld : p.held = false)
    (hfaults : (p.lineView (workingPort k)).Faults) {K : LineView → Prop} (hK : MuteFact (protectPort k) K)
    (hprotect : K (p.lineView (protectPort k))) {R S : Part → Prop} (hR : PairFact k R) (hS : PairFact k S)
    (records : ∀ q, p.RetiresAs q → R q → R (recordsBoundary q)) (waitR : WaitKeeps p k R) (waitS : WaitKeeps p k S)
    (start : R (atBoundary b p)) (work : ∀ w, K (w.lineView (protectPort k)) → R w → S (workingFault k w)) :
    S (hubBoundary b p) :=
  hubBoundary_pair b hheld (.inl ⟨rfl, rfl⟩) hK hprotect hR hS records waitR waitS start fun l q hx hk hr => by
    rw [← hx] at hfaults
    obtain ⟨w, _, ⟨hkw, hrw⟩, hboundary⟩ := ((portSteps_lineView hK.judged hK.begun (protectPort k) (workingPort k)).and
      (hR.ports (workingPort k))).enters l hfaults.line hfaults.entered.line ⟨hk, hr⟩
    rw [hboundary, portEntersFault_working]
    exact (hS.ports _).begins _ ((hS.ports _).counts l _ (hS.steps.markFaulted trivial (work w hkw hrw)))

/-- The working port's line leaves FAULT. -/
theorem hubBoundary_workingClears (b : BoundaryArgs) {k : PairIx} {p : Part} (hheld : p.held = false)
    (hclears : (p.lineView (workingPort k)).Clears) {K : LineView → Prop} (hK : MuteFact (protectPort k) K)
    (hprotect : K (p.lineView (protectPort k))) {R S : Part → Prop} (hR : PairFact k R) (hS : PairFact k S)
    (records : ∀ q, p.RetiresAs q → R q → R (recordsBoundary q)) (waitR : WaitKeeps p k R) (waitS : WaitKeeps p k S)
    (start : R (atBoundary b p)) (work : ∀ w, K (w.lineView (protectPort k)) → R w → S (workingClean k w)) :
    S (hubBoundary b p) :=
  hubBoundary_pair b hheld (.inl ⟨rfl, rfl⟩) hK hprotect hR hS records waitR waitS start fun l q hx hk hr => by
    rw [← hx] at hclears
    obtain ⟨w, _, ⟨hkw, hrw⟩, hboundary⟩ := ((portSteps_lineView hK.judged hK.begun (protectPort k) (workingPort k)).and
      (hR.ports (workingPort k))).leaves l hclears.line hclears.entered.line ⟨hk, hr⟩
    rw [hboundary, portLeavesFault_working]
    refine (hS.ports _).begins _ ((hS.ports _).counts l _ (work _ ?_ (hR.steps.clearFaulted trivial hrw)))
    exact (pairSteps_lineView (protectPort k) K).clearFaulted (x := workingPort k) trivial hkw

/-- The protect port's line enters FAULT. -/
theorem hubBoundary_protectFaults (b : BoundaryArgs) {k : PairIx} {p : Part} (hheld : p.held = false)
    (hfaults : (p.lineView (protectPort k)).Faults) {K : LineView → Prop} (hK : MuteFact (workingPort k) K)
    (hworking : K (p.lineView (workingPort k))) {R S : Part → Prop} (hR : PairFact k R) (hS : PairFact k S)
    (records : ∀ q, p.RetiresAs q → R q → R (recordsBoundary q)) (waitR : WaitKeeps p k R) (waitS : WaitKeeps p k S)
    (start : R (atBoundary b p)) (work : ∀ w, K (w.lineView (workingPort k)) → R w → S (protectFault k w)) :
    S (hubBoundary b p) :=
  hubBoundary_pair b hheld (.inr ⟨rfl, rfl⟩) hK hworking hR hS records waitR waitS start fun l q hx hk hr => by
    rw [← hx] at hfaults
    obtain ⟨w, _, ⟨hkw, hrw⟩, hboundary⟩ := ((portSteps_lineView hK.judged hK.begun (workingPort k) (protectPort k)).and
      (hR.ports (protectPort k))).enters l hfaults.line hfaults.entered.line ⟨hk, hr⟩
    rw [hboundary, portEntersFault_protect]
    exact (hS.ports _).begins _ ((hS.ports _).counts l _ (hS.steps.markFaulted trivial (work w hkw hrw)))

end Sys2Proof.Machine

/-! SUPPORT. What a pair makes of the lines of its ports at a boundary (R160, R163, R164, R167). -/

namespace Sys2Proof.Machine

section Facts

variable {k : PairIx} {p q : Part} {r : PairRecord}

/-! ## Facts of one pair -/

theorem PairSteps.or {L : PairLeave} {R S : Part → Prop} (h : PairSteps L R) (g : PairSteps L S) :
    PairSteps L (fun q => R q ∨ S q) where
  pair := fun k hk f q => Or.imp (h.pair k hk f q) (g.pair k hk f q)
  move := fun k hk i q hc hm => Or.imp (h.move k hk i q hc hm) (g.move k hk i q hc hm)
  block := fun k hk i q hc => Or.imp (h.block k hk i q hc) (g.block k hk i q hc)
  returns := fun k hk i q hs => Or.imp (h.returns k hk i q hs) (g.returns k hk i q hs)
  unblock := fun k hk i q hhome => Or.imp (h.unblock k hk i q hhome) (g.unblock k hk i q hhome)
  mark := fun x hx i q hon => Or.imp (h.mark x hx i q hon) (g.mark x hx i q hon)
  clear := fun x hx i q hon => Or.imp (h.clear x hx i q hon) (g.clear x hx i q hon)

theorem PortSteps.or {x : PortIx} {R S : Part → Prop} (h : PortSteps x R) (g : PortSteps x S) :
    PortSteps x (fun q => R q ∨ S q) where
  ends := fun q => Or.imp (h.ends q) (g.ends q)
  judges := fun q => Or.imp (h.judges q) (g.judges q)
  told := fun q => Or.imp (h.told q) (g.told q)
  counts := fun l q => Or.imp (h.counts l q) (g.counts l q)
  begins := fun q => Or.imp (h.begins q) (g.begins q)

theorem PairFact.or {R S : Part → Prop} (h : PairFact k R) (g : PairFact k S) : PairFact k (fun q => R q ∨ S q) where
  steps := h.steps.or g.steps
  ports := fun y => (h.ports y).or (g.ports y)
  steers := fun q w hw => Or.imp (h.steers q w hw) (g.steers q w hw)
  sweep := fun q => Or.imp (h.sweep q) (g.sweep q)

theorem sweepPair_pair (j k : PairIx) (q : Part) : (sweepPair j q).pair k = q.pair k := by
  have hstale : (clearStale j q).pair k = q.pair k :=
    forEach_keeps (get := fun w => w.pair k) fun i _ w => by
      dsimp only
      split <;> rfl
  unfold sweepPair
  split
  · rw [switchPass_pair, hstale]
  · rw [switchPass_pair, hstale]
  · rfl
  · rfl

theorem recordsBoundary_pair (q : Part) (k : PairIx) : (recordsBoundary q).pair k = q.pair k :=
  forEach_keeps (get := fun w => w.pair k) fun i _ w => (recordBoundary_within i w).pairs k nofun

theorem recordsBoundary_keepsPair (T : PairRecord → Prop) (q : Part) (h : T (q.pair k)) : T ((recordsBoundary q).pair k) :=
  (recordsBoundary_pair q k).symm ▸ h

/-- A fact of the pair record alone. -/
theorem pairFact_pair (k : PairIx) (T : PairRecord → Prop) : PairFact k (fun q => T (q.pair k)) where
  steps :=
    { pair := fun j hj f q h => by
        rw [withPair, pair_setPair_ne _ hj]
        exact h
      move := fun _ _ _ _ _ _ h => h
      block := fun _ _ _ _ _ h => h
      returns := fun _ _ _ _ _ h => by
        rw [returnRecord_pair]
        exact h
      unblock := fun _ _ _ _ _ h => h
      mark := fun _ _ _ _ _ h => h
      clear := fun _ _ _ _ _ h => h }
  ports := fun y => portSteps_of (fun _ _ h => h) (fun _ _ h => h) (fun _ h => h) fun t t1 t4 q h => by
    rw [(recordOutcome_within y t t1 t4 .missing q).pairs k nofun]
    exact h
  steers := fun q w hw h => by
    rw [hw.pairs k nofun]
    exact h
  sweep := fun q h => by
    rw [sweepPair_pair]
    exact h

/-- A pair that is not switched does not sweep (R162). -/
theorem sweepPair_unswitched (h : ¬ (q.pair k).isSwitched) : sweepPair k q = q := by
  unfold sweepPair
  split
  · next hs => exact absurd (.inl hs) h
  · next hs => exact absurd (.inr hs) h
  · rfl
  · rfl

/-- A fact of the records, beside one of a pair that is not switched. -/
theorem pairFact_unswitched {T : PairRecord → Prop} (hT : ∀ r, T r → ¬ r.isSwitched) {R : Part → Prop}
    (steps : PairSteps (.others k) R) (ports : ∀ y, PortSteps y R)
    (same : ∀ q w : Part, (∀ i, w.record i = q.record i) → R q → R w) :
    PairFact k (fun q => T (q.pair k) ∧ R q) where
  steps := (pairFact_pair k T).steps.and steps
  ports := fun y => ((pairFact_pair k T).ports y).and (ports y)
  steers := fun q w hw ⟨ht, hr⟩ => ⟨(pairFact_pair k T).steers q w hw ht, same q w (fun i => hw.records i nofun) hr⟩
  sweep := fun q ⟨ht, hr⟩ => by
    rw [sweepPair_unswitched (hT _ ht)]
    exact ⟨ht, hr⟩

theorem pairFact_noneSwitched {T : PairRecord → Prop} (hT : ∀ r, T r → ¬ r.isSwitched) :
    PairFact k (fun q => T (q.pair k) ∧ q.NoneSwitched k) :=
  pairFact_unswitched hT (pairSteps_noneSwitched k) (fun y => portSteps_noneSwitched y k)
    fun _ _ hsame h i => by rw [hsame]; exact h i

/-- No record of the pair is blocked. -/
def Part.NoneBlocked (k : PairIx) (q : Part) : Prop := ∀ i, pairOf (q.record i).homePort = k → (q.record i).blocked = false

theorem Part.NoneBlocked.set (h : q.NoneBlocked k) (i : RecordIx) {s : ServiceRecord}
    (hs : pairOf s.homePort = k → s.blocked = false) : (q.setRecord i s).NoneBlocked k := fun j hj => by
  by_cases hij : i = j
  · subst hij
    rw [record_setRecord_self] at hj ⊢
    exact hs hj
  · rw [record_setRecord_ne _ hij] at hj ⊢
    exact h j hj

theorem Part.NoneBlocked.of_record (h : p.NoneBlocked k)
    (hq : ∀ i, (q.record i).blocked = false ∨
      ((q.record i).homePort = (p.record i).homePort ∧ (q.record i).blocked = (p.record i).blocked)) : q.NoneBlocked k :=
  fun i hi => by
    obtain hfree | ⟨hhome, hblocked⟩ := hq i
    · exact hfree
    · rw [hblocked]
      exact h i (by rw [← hhome]; exact hi)

theorem pairSteps_noneBlocked (k : PairIx) : PairSteps (.others k) (Part.NoneBlocked k) where
  pair := fun _ _ _ _ h => h
  move := fun j _ i q _ _ h => h.of_record fun n => by
    rw [moveRecord_record]
    split
    · exact .inl rfl
    · exact .inr ⟨rfl, rfl⟩
  block := fun j hj i q hc h => h.set i fun hhome => by
    have hw : (q.record i).homePort = workingPort j := ((candidate_iff _ _).1 hc).2.1
    have hhome : pairOf (q.record i).homePort = k := hhome
    rw [hw, pairOf_workingPort] at hhome
    exact absurd hhome hj
  returns := fun j _ i q _ h => h.of_record fun n => by
    rw [returnRecord_record]
    split
    · unfold returnedIf
      split
      · exact .inl rfl
      · exact .inr ⟨rfl, rfl⟩
    · exact .inr ⟨rfl, rfl⟩
  unblock := fun _ _ i q _ h => h.set i fun _ => rfl
  mark := fun _ _ _ _ _ h => h
  clear := fun _ _ _ _ _ h => h

theorem pairFact_noneBlocked {T : PairRecord → Prop} (hT : ∀ r, T r → ¬ r.isSwitched) :
    PairFact k (fun q => T (q.pair k) ∧ q.NoneBlocked k) :=
  pairFact_unswitched hT (pairSteps_noneBlocked k)
    (fun y => portSteps_of (fun _ _ h => h) (fun _ _ h => h) (fun _ h => h) fun t t1 t4 q h => h.of_record fun i => by
      obtain hended | ⟨_, _, _, _, _, _, _, _, _, _, hkept⟩ := recordOutcome_missing_record y t t1 t4 q i
      · rw [hended]
        exact .inl rfl
      · rw [hkept]
        exact .inr ⟨rfl, rfl⟩)
    fun _ _ hsame h => h.of_record fun i => .inr ⟨by rw [hsame], by rw [hsame]⟩

/-! ## Lines that are mute -/

theorem muteFact_steady (y : PortIx) (l : LineState) : MuteFact y (LineView.Steady l) :=
  ⟨fun _ h => h.judged, fun _ h => h.begun, fun _ h => ⟨h.spared, fun _ => h.stuck⟩⟩

theorem muteFact_spared (k : PairIx) : MuteFact (protectPort k) LineView.Spared where
  judged := fun _ h => h.judged
  begun := fun v _ => LineView.begun_spared v
  mute := fun _ h => ⟨h, fun hworking => by rw [isWorking_protectPort] at hworking; cases hworking⟩

end Facts

end Sys2Proof.Machine

/-! SUPPORT. The pair that follows its ports' lines at a boundary (R160, R163, R164, R167). -/

namespace Sys2Proof.Machine

section Follows

variable {k : PairIx} {p q : Part} {r : PairRecord} {b : BoundaryArgs}

theorem waitKeeps_pair {T : PairRecord → Prop} {R : Part → Prop} (hR : ∀ q, R q → T (q.pair k))
    (hT : k ∈ p.waitingPairs → ∀ r, T r → r.state ≠ .restoreWait) : WaitKeeps p k R := fun hk q h => by
  rw [pairWaitStep_idle (hT hk _ (hR q h))]
  exact h

theorem not_waiting (h : (p.pair k).state ≠ .restoreWait) : k ∉ p.waitingPairs := fun hk =>
  h (by simpa using (List.mem_filter.1 hk).2)

theorem waitKeeps_of_not {R : Part → Prop} (h : (p.pair k).state ≠ .restoreWait) : WaitKeeps p k R :=
  fun hk => absurd hk (not_waiting h)

/-! ## The working port enters FAULT (R160) -/

/-- What a working port's entry into FAULT makes of its pair's record. -/
def PairRecord.faulted (r : PairRecord) : PairRecord :=
  match r.state with
  | .normal => { r with state := .switchedAuto }
  | .restoreWait => { r with state := .switchedAuto, waitCount := 0 }
  | .switchedAuto => r
  | .switchedManual => r

theorem faulted_isSwitched (r : PairRecord) : r.faulted.isSwitched := by
  unfold PairRecord.faulted
  split
  · exact .inl rfl
  · exact .inl rfl
  · next h => exact .inl h
  · next h => exact .inr h

theorem workingFault_record (k : PairIx) (q : Part) : (workingFault k q).pair k = (q.pair k).faulted := by
  unfold workingFault PairRecord.faulted
  cases h : (q.pair k).state <;> simp [withPair, switchPass_pair]

/-- A pair record that waits, or has returned. -/
def PairRecord.WaitsOrReturned (r r' : PairRecord) : Prop :=
  (∃ c, r' = { r with waitCount := c }) ∨ r' = { r with state := .normal, waitCount := 0 }

theorem waitsOrReturned_faulted {r' : PairRecord} (hr : r.state = .restoreWait) (h : r.WaitsOrReturned r') :
    r'.faulted = r.faulted := by
  have hfaulted : r.faulted = { r with state := .switchedAuto, waitCount := 0 } := by simp [PairRecord.faulted, hr]
  obtain ⟨c, rfl⟩ | rfl := h
  · rw [hfaulted]
    simp [PairRecord.faulted, hr]
  · rw [hfaulted]
    rfl

theorem pairWaitStep_record (k : PairIx) (q : Part) : (q.pair k).WaitsOrReturned ((pairWaitStep k q).pair k) := by
  unfold pairWaitStep
  dsimp only
  split
  · split
    · refine .inr ?_
      rw [returnPair_pair, withPair, pair_setPair_self]
    · refine .inl ⟨(q.pair k).waitCount + 1, ?_⟩
      rw [withPair, pair_setPair_self]
  · exact .inl ⟨(q.pair k).waitCount, rfl⟩

theorem pairWaitStep_waits (h : r.WaitsOrReturned (q.pair k)) : r.WaitsOrReturned ((pairWaitStep k q).pair k) := by
  obtain ⟨c, hwaits⟩ | hreturned := h
  · have hstep := pairWaitStep_record k q
    rw [hwaits] at hstep
    obtain ⟨d, hd⟩ | hd := hstep
    · exact .inl ⟨d, hd⟩
    · exact .inr hd
  · rw [pairWaitStep_idle (by rw [hreturned]; nofun)]
    exact .inr hreturned

/-- The pair follows a working port that enters FAULT. -/
theorem pairFollows_workingFault (hheld : p.held = false) (hfaults : p.Faulting (workingPort k))
    (hprotect : (p.engine (protectPort k)).aborted = false) : (hubBoundary b p).pair k = (p.pair k).faulted := by
  have hspared : (p.lineView (protectPort k)).Spared := fun _ => hprotect
  have hS := pairFact_pair k (· = (p.pair k).faulted)
  have waitS : WaitKeeps p k (fun q => q.pair k = (p.pair k).faulted) :=
    waitKeeps_pair (T := (· = (p.pair k).faulted)) (fun _ h => h) fun _ _ h => by
      rw [h]
      exact (faulted_isSwitched _).not_waiting
  by_cases hwait : (p.pair k).state = .restoreWait
  · exact hubBoundary_workingFaults b hheld hfaults.view (muteFact_spared k) hspared
      (pairFact_pair k (p.pair k).WaitsOrReturned) hS (fun q _ => recordsBoundary_keepsPair _ q) (fun _ _ h => pairWaitStep_waits h) waitS
      (.inl ⟨(p.pair k).waitCount, atBoundary_pair b p k⟩) fun w _ hw => by
        rw [workingFault_record, waitsOrReturned_faulted hwait hw]
  · exact hubBoundary_workingFaults b hheld hfaults.view (muteFact_spared k) hspared (pairFact_pair k (· = p.pair k)) hS
      (fun q _ => recordsBoundary_keepsPair (· = p.pair k) q) (waitKeeps_of_not hwait) waitS
      (atBoundary_pair b p k) fun w _ hw => by rw [workingFault_record, hw]

/-! ## The working port leaves FAULT (R163) -/

theorem workingClean_other (h : (q.pair k).state ≠ .switchedAuto) : workingClean k q = q := by
  unfold workingClean
  split
  · next hs => exact absurd hs h
  all_goals rfl

theorem workingClean_faulted (h : (q.pair k).state = .switchedAuto) (hfault : (q.port (protectPort k)).line = .fault) :
    workingClean k q = returnPair k q := by
  simp only [workingClean, h]
  rw [if_pos ((faulted_iff _ _).2 hfault)]

theorem workingClean_clean (h : (q.pair k).state = .switchedAuto) (hclean : (q.port (protectPort k)).line = .clean) :
    workingClean k q = if (q.pair k).revertive then enterWait k q else q := by
  have hnot : ¬ q.faulted (protectPort k) = true := by
    rw [faulted_iff, hclean]
    nofun
  simp only [workingClean, h]
  rw [if_neg hnot]

/-- A pair record after a return (R165). -/
def PairRecord.returned (r : PairRecord) : PairRecord := { r with state := .normal, waitCount := 0 }

theorem returnPair_rests (k : PairIx) (q : Part) :
    (returnPair k q).pair k = (q.pair k).returned ∧ (returnPair k q).NoneSwitched k :=
  ⟨returnPair_pair k q, fun i => returnPair_none_switched k i q⟩

theorem enterWait_returns (h : (q.pair k).wtr ≤ 0) :
    (enterWait k q).pair k = (q.pair k).returned ∧ (enterWait k q).NoneSwitched k := by
  rw [enterWait_eq, if_pos h]
  obtain ⟨hpair, hnone⟩ := returnPair_rests k (waitEntered k q)
  refine ⟨?_, hnone⟩
  rw [hpair, waitEntered_pair]
  rfl

theorem enterWait_waits (h : 0 < (q.pair k).wtr) :
    (enterWait k q).pair k = { q.pair k with state := .restoreWait, waitCount := 0 } ∧ (enterWait k q).NoneBlocked k := by
  rw [enterWait_eq, if_neg (by omega)]
  refine ⟨waitEntered_pair k q, fun i hi => ?_⟩
  rw [waitEntered_record] at hi ⊢
  exact if_pos hi

theorem pairFact_rests (k : PairIx) (r : PairRecord) : PairFact k (fun q => q.pair k = r.returned ∧ q.NoneSwitched k) :=
  pairFact_noneSwitched (T := (· = r.returned)) fun r' h => by
    rw [h]
    rintro (hs | hs) <;> cases hs

/-- The pair follows a working port that leaves FAULT, by what the pair makes of it. -/
theorem pairFollows_workingClean (hheld : p.held = false) (hclears : p.Clearing (workingPort k))
    (hstate : (p.pair k).state ≠ .restoreWait) {K : LineView → Prop} (hK : MuteFact (protectPort k) K)
    (hprotect : K (p.lineView (protectPort k))) {S : Part → Prop} (hS : PairFact k S)
    (work : ∀ w, K (w.lineView (protectPort k)) → w.pair k = p.pair k → S (workingClean k w)) : S (hubBoundary b p) :=
  hubBoundary_workingClears b hheld hclears.view hK hprotect (pairFact_pair k (· = p.pair k)) hS
    (fun q _ => recordsBoundary_keepsPair (· = p.pair k) q) (waitKeeps_of_not hstate)
    (waitKeeps_of_not hstate) (atBoundary_pair b p k) work

/-! ## The protect port enters FAULT (R167) -/

theorem protectFault_normal (h : (q.pair k).state = .normal) : protectFault k q = q := by simp only [protectFault, h]

theorem protectFault_clean (h : (q.pair k).state ≠ .normal) (hclean : (q.port (workingPort k)).line = .clean) :
    protectFault k q = returnPair k q := by
  have hnot : ¬ q.faulted (workingPort k) = true := by
    rw [faulted_iff, hclean]
    nofun
  unfold protectFault
  split
  · next hs => exact absurd hs h
  all_goals rw [if_neg hnot]

theorem pairWaitStep_rests (h : (∃ c, q.pair k = { r with waitCount := c }) ∨ (q.pair k = r.returned ∧ q.NoneSwitched k)) :
    (∃ c, (pairWaitStep k q).pair k = { r with waitCount := c }) ∨
      ((pairWaitStep k q).pair k = r.returned ∧ (pairWaitStep k q).NoneSwitched k) := by
  obtain ⟨c, hwaits⟩ | hrests := h
  · unfold pairWaitStep
    dsimp only
    split
    · split
      · refine .inr ?_
        obtain ⟨hpair, hnone⟩ := returnPair_rests k (withPair k (fun r => { r with waitCount := r.waitCount + 1 }) q)
        refine ⟨?_, hnone⟩
        rw [hpair, withPair, pair_setPair_self, hwaits]
        rfl
      · refine .inl ⟨c + 1, ?_⟩
        rw [withPair, pair_setPair_self, hwaits]
    · exact .inl ⟨c, hwaits⟩
  · rw [pairWaitStep_idle (by rw [hrests.1]; nofun)]
    exact .inr hrests

/-- A pair that is not NORMAL returns when its protect port enters FAULT, its working port CLEAN. -/
theorem pairFollows_protectFault (hheld : p.held = false) (hfaults : p.Faulting (protectPort k))
    (hworking : p.StaysClean (workingPort k)) (hstate : (p.pair k).state ≠ .normal) :
    (hubBoundary b p).pair k = (p.pair k).returned ∧ (hubBoundary b p).NoneSwitched k := by
  have hrests := pairFact_rests k (p.pair k)
  refine hubBoundary_protectFaults b hheld hfaults.view (muteFact_steady _ .clean) hworking.view
    (R := fun q => (∃ c, q.pair k = { p.pair k with waitCount := c }) ∨
      (q.pair k = (p.pair k).returned ∧ q.NoneSwitched k))
    ((pairFact_pair k fun r => ∃ c, r = { p.pair k with waitCount := c }).or hrests) hrests
    (fun q _ => Or.imp (recordsBoundary_keepsPair (fun r => ∃ c, r = { p.pair k with waitCount := c }) q) fun ⟨hpair, hnone⟩ =>
      ⟨(recordsBoundary_pair q k).trans hpair, noneSwitched_recordsBoundary hnone⟩)
    (fun _ _ h => pairWaitStep_rests h) (fun _ w hw => ?_) (.inl ⟨(p.pair k).waitCount, atBoundary_pair b p k⟩)
    fun w hsteady hw => ?_
  · rw [pairWaitStep_idle (by rw [hw.1]; nofun)]
    exact hw
  · obtain ⟨c, hwaits⟩ | hdone := hw
    · rw [protectFault_clean (by rw [hwaits]; exact hstate) hsteady.line]
      obtain ⟨hpair, hnone⟩ := returnPair_rests k w
      refine ⟨?_, hnone⟩
      rw [hpair, hwaits]
      rfl
    · rw [protectFault_normal (by rw [hdone.1]; rfl)]
      exact hdone

end Follows

/-- O44's second clause. -/
theorem pairFollowsItsPorts (s : State) (b : BoundaryArgs) (k : PairIx) (r : PairRecord) (hheld : s.part.held = false)
    (hr : r = s.part.pair k) :
    ∃ t : State, exec (.hubSecondBoundary b) s = .next t ∧ t.pending = s.pending ∧
      (s.part.Faulting (workingPort k) → (s.part.engine (protectPort k)).aborted = false →
        t.part.pair k =
          match r.state with
          | .normal => { r with state := .switchedAuto }
          | .restoreWait => { r with state := .switchedAuto, waitCount := 0 }
          | .switchedAuto => r
          | .switchedManual => r) ∧
      (s.part.Clearing (workingPort k) → r.state = .switchedAuto →
        (s.part.StaysClean (protectPort k) → r.revertive = true → 0 < r.wtr →
          t.part.pair k = { r with state := .restoreWait, waitCount := 0 } ∧
          ∀ i : RecordIx, pairOf (t.part.record i).homePort = k → (t.part.record i).blocked = false) ∧
        ((s.part.StaysClean (protectPort k) ∧ r.revertive = true ∧ r.wtr ≤ 0) ∨
            s.part.StaysFaulted (protectPort k) →
          t.part.pair k = { r with state := .normal, waitCount := 0 } ∧
          ∀ i : RecordIx, (t.part.record i).switched k = false) ∧
        (s.part.StaysClean (protectPort k) → r.revertive = false → t.part.pair k = r)) ∧
      (s.part.Clearing (workingPort k) → r.state = .switchedManual →
        (s.part.engine (protectPort k)).aborted = false → t.part.pair k = r) ∧
      (s.part.Faulting (protectPort k) →
        (s.part.StaysClean (workingPort k) → r.state ≠ .normal →
          t.part.pair k = { r with state := .normal, waitCount := 0 } ∧
          ∀ i : RecordIx, (t.part.record i).switched k = false) ∧
        (s.part.StaysFaulted (workingPort k) → r.state ≠ .restoreWait → t.part.pair k = r)) := by
  subst hr
  refine ⟨_, exec_hubSecondBoundary b s, rfl, fun hfaults hprotect => ?_, fun hclears hauto => ⟨fun hclean hrevertive hwtr => ?_,
    fun hreturns => ?_, fun hclean hkeeps => ?_⟩, fun hclears hmanual hprotect => ?_,
    fun hfaults => ⟨fun hworking hstate => ?_, fun hworking hstate => ?_⟩⟩
  · rw [settle_pair, pairFollows_workingFault hheld hfaults hprotect]
    rfl
  · have hwaits : ¬ ({ s.part.pair k with state := .restoreWait, waitCount := 0 } : PairRecord).isSwitched := by
      rintro (hs | hs) <;> cases hs
    obtain ⟨hpair, hfree⟩ := pairFollows_workingClean (b := b) hheld hclears (by rw [hauto]; nofun)
      (muteFact_steady _ .clean) hclean.view
      (pairFact_noneBlocked (k := k) (T := (· = { s.part.pair k with state := .restoreWait, waitCount := 0 }))
        fun r h => by rw [h]; exact hwaits)
      (fun w hsteady hw => by
        rw [workingClean_clean (by rw [hw]; exact hauto) hsteady.line, if_pos (by rw [hw]; exact hrevertive)]
        obtain ⟨hwpair, hwfree⟩ := enterWait_waits (q := w) (k := k) (by rw [hw]; exact hwtr)
        exact ⟨by rw [hwpair, hw], hwfree⟩)
    refine ⟨by rw [settle_pair, hpair], fun i => ?_⟩
    rw [settle_record]
    exact hfree i
  · have hrests : (hubBoundary b s.part).pair k = (s.part.pair k).returned ∧ (hubBoundary b s.part).NoneSwitched k := by
      obtain ⟨hclean, hrevertive, hwtr⟩ | hfaulted := hreturns
      · refine pairFollows_workingClean hheld hclears (by rw [hauto]; nofun) (muteFact_steady _ .clean) hclean.view
          (pairFact_rests k (s.part.pair k)) fun w hsteady hw => ?_
        rw [workingClean_clean (by rw [hw]; exact hauto) hsteady.line, if_pos (by rw [hw]; exact hrevertive)]
        obtain ⟨hwpair, hwnone⟩ := enterWait_returns (q := w) (k := k) (by rw [hw]; exact hwtr)
        exact ⟨by rw [hwpair, hw], hwnone⟩
      · refine pairFollows_workingClean hheld hclears (by rw [hauto]; nofun) (muteFact_steady _ .fault) hfaulted.view
          (pairFact_rests k (s.part.pair k)) fun w hsteady hw => ?_
        rw [workingClean_faulted (by rw [hw]; exact hauto) hsteady.line]
        obtain ⟨hwpair, hwnone⟩ := returnPair_rests k w
        exact ⟨by rw [hwpair, hw], hwnone⟩
    refine ⟨by rw [settle_pair]; exact hrests.1, fun i => ?_⟩
    rw [settle_record]
    exact hrests.2 i
  · rw [settle_pair]
    refine pairFollows_workingClean hheld hclears (by rw [hauto]; nofun) (muteFact_steady _ .clean) hclean.view
      (pairFact_pair k (· = s.part.pair k)) fun w hsteady hw => ?_
    rw [workingClean_clean (by rw [hw]; exact hauto) hsteady.line, if_neg (by rw [hw, hkeeps]; nofun)]
    exact hw
  · rw [settle_pair]
    refine pairFollows_workingClean hheld hclears (by rw [hmanual]; nofun) (muteFact_spared k) (fun _ => hprotect)
      (pairFact_pair k (· = s.part.pair k)) fun w _ hw => ?_
    rw [workingClean_other (by rw [hw, hmanual]; nofun)]
    exact hw
  · obtain ⟨hpair, hnone⟩ := pairFollows_protectFault (b := b) hheld hfaults hworking hstate
    refine ⟨by rw [settle_pair]; exact hpair, fun i => ?_⟩
    rw [settle_record]
    exact hnone i
  · rw [settle_pair]
    refine hubBoundary_protectFaults b hheld hfaults.view (muteFact_steady _ .fault) hworking.view
      (pairFact_pair k (· = s.part.pair k)) (pairFact_pair k (· = s.part.pair k))
      (fun q _ => recordsBoundary_keepsPair (· = s.part.pair k) q) (waitKeeps_of_not hstate)
      (waitKeeps_of_not hstate) (atBoundary_pair b s.part k) fun w hsteady hw => ?_
    rw [protectFault_switched hsteady.line]
    exact hw

end Sys2Proof.Machine

/-! SUPPORT. A switched pair through a boundary, with its sweep (R157, R160, R162; log entries 3 and 4). -/

namespace Sys2Proof.Machine

section Switched

variable {k : PairIx} {p q : Part}

/-! ## Facts that a switched pair keeps -/

/-- What a switched pair and all others keep, the working port's entry into FAULT with its switch pass too. -/
structure SwitchedFact (k : PairIx) (R : Part → Prop) : Prop where
  fact   : PairFact k R
  faults : ∀ q, R q → R (workingFault k q)

/-- A line that never enters FAULT on the protect port, and one that never leaves it on the working port. -/
structure Part.Firm (k : PairIx) (q : Part) : Prop where
  protect : (q.lineView (protectPort k)).Spared
  working : (q.lineView (workingPort k)).Stuck

theorem Part.Firm.same (h : p.Firm k) (hview : ∀ x, q.lineView x = p.lineView x) : q.Firm k :=
  ⟨(hview _).symm ▸ h.protect, (hview _).symm ▸ h.working⟩

theorem portBoundary_firm (l : List PortIx) (y : PortIx) (h : q.Firm k) : (portBoundary l y q).Firm k :=
  ⟨(pairSteps_lineView _ LineView.Spared).portBoundary
      (portSteps_lineView (fun _ h => h.judged) (fun v _ => LineView.begun_spared v) (protectPort k) y) l h.protect,
    (pairSteps_lineView _ LineView.Stuck).portBoundary
      (portSteps_lineView (fun _ h => h.judged) (fun v _ => LineView.begun_stuck v) (workingPort k) y) l h.working⟩

theorem blocksKeep_firm (p : Part) (k : PairIx) : BlocksKeep p (Part.Firm k) where
  steers := fun _ _ hw h => h.same fun _ => hw.lineView nofun nofun
  waits := fun q h => ⟨(blocksKeep_lineView _ LineView.Spared p).waits q h.protect,
    (blocksKeep_lineView _ LineView.Stuck p).waits q h.working⟩
  sweeps := fun q h => ⟨(blocksKeep_lineView _ LineView.Spared p).sweeps q h.protect,
    (blocksKeep_lineView _ LineView.Stuck p).sweeps q h.working⟩

/-- A port's boundary keeps the facts of a switched pair. -/
theorem SwitchedFact.portBoundary {R : Part → Prop} (h : SwitchedFact k R) (l : List PortIx) (y : PortIx)
    (hfirm : q.Firm k) (hr : R q) : R (Machine.portBoundary l y q) := by
  by_cases hpair : pairOf y = k
  · obtain hy | hy := port_cases y
    · rw [hpair] at hy
      subst hy
      refine (h.fact.ports _).portBoundary_line l (fun _ _ w _ hw => ?_) (fun hfault hclean _ _ _ => ?_) hr
      · rw [portEntersFault_working]
        exact h.fact.steps.markFaulted trivial (h.faults w hw)
      · exact absurd ((hfirm.working.judged_line hfault).symm.trans hclean) nofun
    · rw [hpair] at hy
      subst hy
      exact h.fact.portBoundary_mute l ((muteFact_spared k).mute _ hfirm.protect) hr
  · exact h.fact.portBoundary_other hpair l hr

/-- The works of a boundary but the records' keep the facts of a pair that was switched when it came. -/
theorem SwitchedFact.work {R : Part → Prop} (h : SwitchedFact k R) (hstate : (p.pair k).isSwitched) (b : BoundaryArgs)
    {v : BoundaryWork} (hv : v ≠ .records) (hq : q.Firm k ∧ R q) :
    (boundaryWork p.boundaryContext b v q).Firm k ∧ R (boundaryWork p.boundaryContext b v q) := by
  have keep := (blocksKeep_firm p k).and (h.fact.blocksKeep (p := p) (waitKeeps_of_not hstate.not_waiting))
  cases v with
  | inputs => exact keep.steers q _ (inputsBoundary_within _ q) hq
  | discipline => exact keep.steers q _ (hubSecondEvent_within q) hq
  | records => exact absurd rfl hv
  | ports =>
    exact forEach_induct (R := fun w => w.Firm k ∧ R w) _
      (fun y w ⟨hfirm, hr⟩ => ⟨portBoundary_firm _ y hfirm, h.portBoundary _ y hfirm hr⟩) _ _ hq
  | pairWait => exact keep.waits q hq
  | sweep => exact keep.sweeps q hq

/-- The sweep of one pair among the sweeps of all. -/
theorem sweepBoundary_sweeps {R S : Part → Prop} (hR : SwitchedFact k R) (hS : SwitchedFact k S)
    (work : ∀ q, R q → S (sweepPair k q)) (h : R q) : S (sweepBoundary q) :=
  hS.fact.steps.sweepMarks (fun _ _ _ _ => trivial) (forEach_through k (R := R) (S := S)
    (fun j hj _ hw => hR.fact.steps.sweepPair (k := j) hj hw) work
    (fun j hj _ hw => hS.fact.steps.sweepPair (k := j) hj hw) h)

/-- A boundary at which a switched pair sweeps: what its sweep brings about stays. -/
theorem hubBoundary_sweeps (b : BoundaryArgs) (hheld : p.held = false) (hstate : (p.pair k).isSwitched) (hfirm : p.Firm k)
    {R S : Part → Prop} (hR : SwitchedFact k R) (hS : SwitchedFact k S)
    (records : ∀ q, p.RetiresAs q → R q → R (recordsBoundary q)) (start : R (atBoundary b p))
    (work : ∀ q, R q → S (sweepPair k q)) : S (hubBoundary b p) := by
  refine (hubBoundary_through b .sweep hheld
    (R := fun rest q => (p.NoSlotOpen → p.Settled rest q) ∧ q.Firm k ∧ R q) (S := fun _ q => q.Firm k ∧ S q)
    ⟨settled_start b, hfirm.same fun x => atBoundary_lineView b x p, start⟩
    (fun v rest q _ _ ⟨hsettled, hq⟩ => ⟨fun hopen => settled_work _ b (hsettled hopen), ?_⟩)
    (fun rest ⟨_, hq⟩ => ⟨(blocksKeep_firm p k).sweeps _ hq.1, ?_⟩)
    (fun v rest q _ hstands hq => hS.work hstate b (fun hv => ?_) hq)).2.2.2
  · by_cases hv : v = .records
    · subst hv
      exact ⟨hq.1.same fun x => recordsBoundary_lineView x q,
        records q (fun hopen hretires => (hsettled hopen).noneRetires hretires) hq.2⟩
    · exact hR.work hstate b hv hq
  · exact sweepBoundary_sweeps hR hS work hq.2
  · subst hv
    exact absurd hstands (by simp [(worksOf_order b).2.2])

end Switched

end Sys2Proof.Machine

/-! SUPPORT. A candidate of a pair on its way to a switch pass, and after it (R157, R158, R162). -/

namespace Sys2Proof.Machine

/-! ## The record of a candidate -/

/-- A record that a boundary's own work leaves: no staged change, and not SILENT (R101, R109). -/
structure ServiceRecord.Plain (r : ServiceRecord) : Prop where
  offset : r.stagedOffset = none
  share  : r.stagedShare = none
  live   : r.state ≠ .silent

/-- A record is still the candidate that it was, its blocked flag apart. -/
structure ServiceRecord.Remains (c : ServiceRecord) (k : PairIx) (r : ServiceRecord) : Prop where
  candidate : r.candidate k = true
  address   : r.address = c.address
  same      : c.Plain → ∃ b, r = { c with blocked := b }

/-- A candidate has been moved. -/
structure ServiceRecord.Crossed (c : ServiceRecord) (k : PairIx) (r : ServiceRecord) : Prop where
  switched : r.switched k = true
  same     : c.Plain → r = movedRecord k c

/-- What a switch pass asks of a record: whether it is a candidate, whether it counts against the protect port, and its
address (R157). -/
structure ServiceRecord.SameStand (k : PairIx) (r r' : ServiceRecord) : Prop where
  candidate : r'.candidate k = r.candidate k
  counts    : r'.counts (protectPort k) = r.counts (protectPort k)
  address   : r'.address = r.address

section Records

variable {k j : PairIx} {c r r' r'' : ServiceRecord}

theorem counted_plain (h : r.Plain) : counted r = r := by
  have happlied : applyStaged r = r := by
    have hsame : { r with stagedShare := none, stagedOffset := none } = r := by
      obtain ⟨hoffset, hshare, _⟩ := h
      cases r
      dsimp only at hoffset hshare
      rw [hoffset, hshare]
    simpa only [applyStaged, h.offset, h.share, Option.getD_none, Option.isSome_none, Bool.false_eq_true, if_false]
  simp only [counted, happlied, if_neg h.live]

theorem counted_eligible (r : ServiceRecord) : (counted r).eligible = r.eligible := by
  unfold counted applyStaged
  dsimp only
  split <;> split <;> rfl

theorem candidate_congr (hstate : r'.state = r.state) (hhome : r'.homePort = r.homePort)
    (hport : r'.currentPort = r.currentPort) (heligible : r'.eligible = r.eligible) : r'.candidate k = r.candidate k := by
  rw [ServiceRecord.candidate, ServiceRecord.candidate, hstate, hhome, hport, heligible]

theorem switched_congr (hstate : r'.state = r.state) (hhome : r'.homePort = r.homePort)
    (hport : r'.currentPort = r.currentPort) : r'.switched k = r.switched k := by
  rw [ServiceRecord.switched, ServiceRecord.switched, hstate, hhome, hport]

theorem candidate_counted (k : PairIx) (r : ServiceRecord) : (counted r).candidate k = r.candidate k := by
  obtain ⟨hhome, hport, hstate⟩ := counted_place r
  exact candidate_congr hstate hhome hport (counted_eligible r)

theorem switched_counted (k : PairIx) (r : ServiceRecord) : (counted r).switched k = r.switched k := by
  obtain ⟨hhome, hport, hstate⟩ := counted_place r
  exact switched_congr hstate hhome hport

theorem candidate_switched (h : r.candidate k = true) : r.switched j = false := by
  obtain ⟨_, _, hport, _⟩ := (candidate_iff _ _).1 h
  refine switched_eq_false ?_
  rw [hport]
  exact workingPort_ne_protectPort k j

theorem switched_candidate (h : r.switched k = true) : r.candidate j = false := by
  rw [Bool.eq_false_iff]
  intro hcandidate
  rw [candidate_switched hcandidate] at h
  cases h

theorem switched_pair (h : r.switched k = true) (g : r.switched j = true) : j = k := by
  obtain ⟨_, hk, _⟩ := (switched_iff _ _).1 h
  obtain ⟨_, hj, _⟩ := (switched_iff _ _).1 g
  rw [← pairOf_workingPort j, ← hj, hk, pairOf_workingPort]

namespace ServiceRecord.Remains

theorem refl (h : c.candidate k = true) : c.Remains k c := ⟨h, rfl, fun _ => ⟨c.blocked, rfl⟩⟩

theorem withBlocked (h : c.Remains k r) (b : Bool) : c.Remains k { r with blocked := b } :=
  ⟨h.candidate, h.address, fun hplain => by
    obtain ⟨_, rfl⟩ := h.same hplain
    exact ⟨b, rfl⟩⟩

theorem counted (h : c.Remains k r) : c.Remains k (counted r) := by
  refine ⟨(candidate_counted k r).trans h.candidate, ?_, fun hplain => ?_⟩
  · obtain ⟨_, _, _, _, _, _, haddress, _⟩ := counted_fields r
    exact haddress.trans h.address
  · obtain ⟨b, rfl⟩ := h.same hplain
    exact ⟨b, counted_plain ⟨hplain.offset, hplain.share, hplain.live⟩⟩

theorem moved (h : c.Remains k r) : c.Crossed k (movedRecord k r) := by
  obtain ⟨hstate, hhome, _⟩ := (candidate_iff _ _).1 h.candidate
  refine ⟨(switched_iff _ _).2 ⟨hstate, hhome, rfl⟩, fun hplain => ?_⟩
  obtain ⟨_, rfl⟩ := h.same hplain
  rfl

end ServiceRecord.Remains

namespace ServiceRecord.Crossed

theorem unblocked (h : c.Crossed k r) : c.Crossed k { r with blocked := false } :=
  ⟨h.switched, fun hplain => by rw [h.same hplain]; rfl⟩

theorem counted (h : c.Crossed k r) : c.Crossed k (counted r) :=
  ⟨(switched_counted k r).trans h.switched, fun hplain => by
    rw [h.same hplain]
    exact counted_plain ⟨hplain.offset, hplain.share, hplain.live⟩⟩

end ServiceRecord.Crossed

namespace ServiceRecord.SameStand

theorem refl (k : PairIx) (r : ServiceRecord) : r.SameStand k r := ⟨rfl, rfl, rfl⟩

theorem trans (h : SameStand k r r') (g : SameStand k r' r'') : SameStand k r r'' :=
  ⟨g.candidate.trans h.candidate, g.counts.trans h.counts, g.address.trans h.address⟩

theorem withBlocked (h : SameStand k r r') (b : Bool) : SameStand k r { r' with blocked := b } := h.trans ⟨rfl, rfl, rfl⟩

theorem counted (h : SameStand k r r') : SameStand k r (counted r') := by
  obtain ⟨hhome, hport, hstate⟩ := counted_place r'
  obtain ⟨_, _, _, _, _, _, haddress, _⟩ := counted_fields r'
  refine h.trans ⟨candidate_counted k r', ?_, haddress⟩
  rw [ServiceRecord.counts, ServiceRecord.counts, hstate, hhome, hport]

/-- A record of another pair that comes from one of that pair's ports to the other. -/
theorem away (h : SameStand k r r') (hj : j ≠ k) (hhome : r'.homePort = workingPort j)
    (hfrom : pairOf r'.currentPort = j) (hkeeps : r''.homePort = r'.homePort) (hto : pairOf r''.currentPort = j)
    (haddress : r''.address = r'.address) : SameStand k r r'' := by
  have stands (s : ServiceRecord) (hs : s.homePort = workingPort j) (hport : pairOf s.currentPort = j) :
      s.candidate k = false ∧ s.counts (protectPort k) = false := by
    rw [Bool.eq_false_iff, Bool.eq_false_iff]
    refine ⟨fun hc => ?_, fun hc => ?_⟩
    · obtain ⟨_, hk, _⟩ := (candidate_iff _ _).1 hc
      exact workingPort_ne hj (hs.symm.trans hk)
    · obtain ⟨_, hk | hk⟩ := (counts_iff _ _).1 hc
      · exact workingPort_ne_protectPort j k (hs.symm.trans hk)
      · rw [hk, pairOf_protectPort] at hport
        exact hj hport.symm
  obtain ⟨hcandidate, hcounts⟩ := stands r' hhome hfrom
  obtain ⟨hcandidate', hcounts'⟩ := stands r'' (hkeeps.trans hhome) hto
  exact h.trans ⟨hcandidate'.trans hcandidate.symm, hcounts'.trans hcounts.symm, haddress⟩

end ServiceRecord.SameStand

theorem returned_address (k : PairIx) (r : ServiceRecord) : (returned k r).address = r.address := by
  unfold returned
  split <;> rfl

theorem returned_currentPort (k : PairIx) (r : ServiceRecord) : (returned k r).currentPort = workingPort k := by
  unfold returned
  split <;> rfl

end Records

/-! ## The candidate in the part -/

/-- A candidate that a pass comes to first, with the protect port ready for it: usable, with room, and its address free
there (R157). -/
structure Part.First (p : Part) (k : PairIx) (i : RecordIx) : Prop where
  waits   : (p.pair k).state ≠ .restoreWait
  enabled : (p.port (protectPort k)).enabled = true
  clean   : (p.port (protectPort k)).line = .clean
  room    : p.portCount (protectPort k) < 4
  free    : p.addressFree (protectPort k) (p.record i).address = true
  first   : ∀ j, j < i → (p.record j).candidate k = false

/-- A line that stays CLEAN, of a port that is enabled. -/
structure LineView.Usable (v : LineView) : Prop where
  spared  : v.Spared
  clean   : v.port.line = .clean
  enabled : v.port.enabled = true

/-- What a pass also needs: the alarm settings, and a protect port that stays usable. -/
def Part.Beside (p : Part) (k : PairIx) (i : RecordIx) (q : Part) : Prop :=
  q.alarm.settings = p.alarm.settings ∧ (p.First k i → (q.lineView (protectPort k)).Usable)

/-- A candidate that waits for a pass. -/
structure Part.Waits (p : Part) (k : PairIx) (i : RecordIx) (q : Part) : Prop where
  record : (p.record i).Remains k (q.record i)
  stands : p.First k i → ∀ n, (p.record n).SameStand k (q.record n)

/-- A candidate that a pass has blocked, which it is not when the pass comes to it first. -/
structure Part.Stopped (p : Part) (k : PairIx) (i : RecordIx) (q : Part) : Prop where
  later   : ¬ p.First k i
  record  : (p.record i).Remains k (q.record i)
  blocked : (q.record i).blocked = true

/-- The news of a move. -/
def Entry.TellsMove (k : PairIx) (e : Entry) : Prop :=
  hasCondition e.raised .switched = true ∧ e.ports = some (portMask (protectPort k))

/-- A candidate that a pass has moved, with its news. -/
structure Part.Moved (p : Part) (k : PairIx) (i : RecordIx) (q : Part) : Prop where
  record : (p.record i).Crossed k (q.record i)
  news   : p.alarm.settings.recordThreshold = some .note → q.Carries (.record i) (Entry.TellsMove k)

/-- Leave for all but the returns of one pair. -/
def PairLeave.forward (k : PairIx) : PairLeave := { PairLeave.all with returns := fun j => j ≠ k }

theorem PairSteps.others_of_forward {k : PairIx} {R : Part → Prop} (h : PairSteps (.forward k) R) :
    PairSteps (.others k) R where
  pair := fun j _ => h.pair j trivial
  move := fun j _ => h.move j trivial
  block := fun j _ => h.block j trivial
  returns := fun j hj => h.returns j hj
  unblock := fun j _ => h.unblock j trivial
  mark := fun x _ => h.mark x trivial
  clear := fun x _ => h.clear x trivial

theorem PairSteps.others_of_all {k : PairIx} {R : Part → Prop} (h : PairSteps .all R) : PairSteps (.others k) R where
  pair := fun j _ => h.pair j trivial
  move := fun j _ => h.move j trivial
  block := fun j _ => h.block j trivial
  returns := fun j _ => h.returns j trivial
  unblock := fun j _ => h.unblock j trivial
  mark := fun x _ => h.mark x trivial
  clear := fun x _ => h.clear x trivial

/-! ## With no slot open -/

/-- With no slot open a port's own steps keep what its registers and PORT_FAULT do not touch. -/
theorem portSteps_quiet {R : Part → Prop} (x : PortIx) (port : ∀ r q, R q → R (q.setPort x r))
    (engine : ∀ e q, R q → R (q.setEngine x e)) (told : ∀ q, R q → R (reportPortFault q)) :
    PortSteps x (fun q => R q ∧ q.NoSlotOpen) where
  ends := fun q ⟨hr, hq⟩ => by
    refine ⟨?_, (endSlot_noSlotOpen hq).2⟩
    have decided (e : SlotError) : R (decideSlot x .missing e q) := by
      have hnone : ((setSlotError x e q).engine x).target = none := hq x
      simp only [decideSlot, reportOutcome, hnone]
      exact engine _ _ (port _ _ hr)
    unfold endSlot
    dsimp only
    split
    · exact hr
    · exact decided _
    · exact decided _
    · split
      · exact decided _
      · exact engine _ _ hr
  judges := fun q ⟨hr, hq⟩ => ⟨port _ q hr, hq⟩
  told := fun q ⟨hr, hq⟩ => ⟨told q hr, hq⟩
  counts := fun _ q ⟨hr, hq⟩ => ⟨port _ q hr, hq⟩
  begins := fun q ⟨hr, hq⟩ =>
    ⟨engine _ q hr, ((portSteps_untargeted x (R := fun _ => True) fun _ _ _ h => h).begins q ⟨trivial, hq⟩).2⟩

end Sys2Proof.Machine

/-! SUPPORT. What the steps of a boundary keep of a candidate, and the pass that moves or blocks it (R157, R158, R162). -/

namespace Sys2Proof.Machine

section Candidate

variable {p q q' : Part} {k : PairIx} {i n : RecordIx}

/-! ## What stands beside the candidate -/

theorem pairSteps_settings (v : AlarmSettings) : PairSteps .all (fun q => q.alarm.settings = v) where
  pair := fun _ _ _ _ h => h
  move := fun _ _ _ _ _ _ h => ((told_settings _ _).trans (told_settings _ _)).trans h
  block := fun _ _ _ _ _ h => h
  returns := fun k _ i q _ h => (returnRecord_settings k i q).trans h
  unblock := fun _ _ _ _ _ h => h
  mark := fun _ _ _ _ _ h => (told_settings _ _).trans h
  clear := fun _ _ _ _ _ h => (told_settings _ _).trans h

theorem portSteps_settings (x : PortIx) (v : AlarmSettings) : PortSteps x (fun q => q.alarm.settings = v) :=
  portSteps_of (fun _ _ h => h) (fun _ _ h => h) (fun _ h => (told_settings _ _).trans h)
    fun t t1 t4 q h => (recordOutcome_within x t t1 t4 .missing q).alarm.settings.trans h

theorem judged_enabled (r : PortRecord) (j : Judgement) : (r.judged j).enabled = r.enabled := by
  rw [judged_congr (s := r) (r := r) rfl rfl rfl j]

theorem LineView.Usable.judged {v : LineView} (h : v.Usable) : v.judged.Usable :=
  ⟨h.spared.judged, h.spared.judged_line h.clean, (judged_enabled _ _).trans h.enabled⟩

theorem LineView.Usable.begun {v : LineView} (h : v.Usable) : v.begun.Usable := ⟨begun_spared v, h.clean, h.enabled⟩

theorem pairSteps_beside (p : Part) (k : PairIx) (i : RecordIx) : PairSteps .all (p.Beside k i) :=
  (pairSteps_settings p.alarm.settings).and (pairSteps_lineView (protectPort k) fun v => p.First k i → v.Usable)

theorem portSteps_beside (p : Part) (k : PairIx) (i : RecordIx) (x : PortIx) : PortSteps x (p.Beside k i) :=
  (portSteps_settings x p.alarm.settings).and (portSteps_lineView (K := fun v => p.First k i → v.Usable)
    (fun _ h hfirst => (h hfirst).judged) (fun _ h hfirst => (h hfirst).begun) (protectPort k) x)

theorem Part.Beside.within {A : Access} (h : p.Beside k i q) (hwithin : Within A q q') (hport : ¬ A.ports (protectPort k))
    (hengine : ¬ A.engines (protectPort k)) : p.Beside k i q' :=
  ⟨hwithin.alarm.settings.trans h.1, fun hfirst => (hwithin.lineView hport hengine).symm ▸ h.2 hfirst⟩

theorem Part.Beside.usable (h : p.Beside k i q) (hfirst : p.First k i) : q.usablePort (protectPort k) = true := by
  obtain ⟨_, hclean, henabled⟩ := h.2 hfirst
  exact (usablePort_iff _ _).2 ⟨henabled, hclean⟩

/-! ## A record of one pair under the steps of the others -/

theorem pairSteps_record {T : ServiceRecord → Prop} (hT : ∀ r, T r → pairOf r.homePort = k) (i : RecordIx) :
    PairSteps (.others k) (fun q => T (q.record i)) where
  pair := fun _ _ _ _ h => h
  move := fun j hj n q hc _ h => by
    rw [moveRecord_record]
    split
    · next hn =>
      subst hn
      obtain ⟨_, hhome, _⟩ := (candidate_iff _ _).1 hc
      exact absurd (hT _ h) (by rw [hhome, pairOf_workingPort]; exact hj)
    · exact h
  block := fun j hj n q hc h => by
    rw [record_withRecord]
    split
    · next hn =>
      subst hn
      obtain ⟨_, hhome, _⟩ := (candidate_iff _ _).1 hc
      exact absurd (hT _ h) (by rw [hhome, pairOf_workingPort]; exact hj)
    · exact h
  returns := fun j hj n q hs h => by
    rw [returnRecord_record]
    split
    · next hn =>
      subst hn
      obtain ⟨_, hhome, _⟩ := (switched_iff _ _).1 hs
      exact absurd (hT _ h) (by rw [hhome, pairOf_workingPort]; exact hj)
    · exact h
  unblock := fun j hj n q hhome h => by
    rw [record_withRecord]
    split
    · next hn =>
      subst hn
      exact absurd (hT _ h) (by rw [hhome]; exact hj)
    · exact h
  mark := fun _ _ _ _ _ h => h
  clear := fun _ _ _ _ _ h => h

theorem candidate_home {r : ServiceRecord} (h : r.candidate k = true) : pairOf r.homePort = k := by
  obtain ⟨_, hhome, _⟩ := (candidate_iff _ _).1 h
  rw [hhome, pairOf_workingPort]

/-- What other pairs do leaves what a pass asks of the records. -/
theorem pairSteps_stand (k : PairIx) (r : ServiceRecord) (n : RecordIx) :
    PairSteps (.others k) (fun q => r.SameStand k (q.record n)) where
  pair := fun _ _ _ _ h => h
  move := fun j hj m q hc _ h => by
    rw [moveRecord_record]
    split
    · next hm =>
      subst hm
      obtain ⟨_, hhome, hport, _⟩ := (candidate_iff _ _).1 hc
      exact h.away hj hhome (by rw [hport, pairOf_workingPort]) rfl (pairOf_protectPort j) rfl
    · exact h
  block := fun _ _ m q _ h => by
    rw [record_withRecord]
    split
    · next hm => subst hm; exact h.withBlocked true
    · exact h
  returns := fun j hj m q hs h => by
    rw [returnRecord_record]
    split
    · next hm =>
      subst hm
      obtain ⟨_, hhome, hport⟩ := (switched_iff _ _).1 hs
      rw [returnedIf, if_pos hs]
      exact h.away hj hhome (by rw [hport, pairOf_protectPort]) (returned_homePort j _)
        (by rw [returned_currentPort, pairOf_workingPort]) (returned_address j _)
    · exact h
  unblock := fun _ _ m q _ h => by
    rw [record_withRecord]
    split
    · next hm => subst hm; exact h.withBlocked false
    · exact h
  mark := fun _ _ _ _ _ h => h
  clear := fun _ _ _ _ _ h => h

/-! ## A candidate that waits -/

theorem Part.Waits.same (h : p.Waits k i q) (hrecord : ∀ n, q'.record n = q.record n) : p.Waits k i q' :=
  ⟨(hrecord i).symm ▸ h.record, fun hfirst n => (hrecord n).symm ▸ h.stands hfirst n⟩

theorem pairSteps_waits (p : Part) (k : PairIx) (i : RecordIx) : PairSteps (.others k) (p.Waits k i) := by
  have record := pairSteps_record (T := (p.record i).Remains k) (fun _ h => candidate_home h.candidate) i
  have stands (n : RecordIx) := pairSteps_stand k (p.record n) n
  exact
    { pair := fun _ _ _ _ h => h.same fun _ => rfl
      move := fun j hj m q hc hm h =>
        ⟨record.move j hj m q hc hm h.record, fun hfirst n => (stands n).move j hj m q hc hm (h.stands hfirst n)⟩
      block := fun j hj m q hc h =>
        ⟨record.block j hj m q hc h.record, fun hfirst n => (stands n).block j hj m q hc (h.stands hfirst n)⟩
      returns := fun j hj m q hs h =>
        ⟨record.returns j hj m q hs h.record, fun hfirst n => (stands n).returns j hj m q hs (h.stands hfirst n)⟩
      unblock := fun j hj m q hhome h =>
        ⟨record.unblock j hj m q hhome h.record, fun hfirst n => (stands n).unblock j hj m q hhome (h.stands hfirst n)⟩
      mark := fun _ _ _ _ _ h => h.same fun _ => rfl
      clear := fun _ _ _ _ _ h => h.same fun _ => rfl }

theorem Part.Waits.unblock (h : p.Waits k i q) (n : RecordIx) :
    p.Waits k i (withRecord n (fun r => { r with blocked := false }) q) := by
  refine ⟨?_, fun hfirst m => ?_⟩
  · rw [record_withRecord]
    split
    · next hn => subst hn; exact h.record.withBlocked false
    · exact h.record
  · rw [record_withRecord]
    split
    · next hn => subst hn; exact (h.stands hfirst n).withBlocked false
    · exact h.stands hfirst m

theorem Part.Waits.clearStale (h : p.Waits k i q) : p.Waits k i (clearStale k q) :=
  forEach_induct (R := p.Waits k i) _ (fun n w hw => by
    dsimp only
    split
    · exact hw.unblock n
    · exact hw) _ _ h

/-- The wait of the candidate's own pair, where no pass comes to the candidate first. -/
theorem Part.Waits.pairWaitStep (h : p.Waits k i q) (hlater : ¬ p.First k i) : p.Waits k i (pairWaitStep k q) := by
  refine ⟨?_, fun hfirst => absurd hfirst hlater⟩
  unfold Machine.pairWaitStep
  dsimp only
  split
  · split
    · rw [returnPair_unswitched (p := withPair k _ q) (candidate_switched h.record.candidate)]
      split
      · exact h.record.withBlocked false
      · exact h.record
    · exact h.record
  · exact h.record

theorem Part.Waits.records (h : p.Waits k i q) (hretires : q.NoneRetires) : p.Waits k i (recordsBoundary q) := by
  have hrecord (n : RecordIx) : (recordsBoundary q).record n = counted (q.record n) := by
    rw [recordsBoundary_record, if_neg (by simp [hretires n])]
  exact ⟨by rw [hrecord]; exact h.record.counted, fun hfirst n => by rw [hrecord]; exact (h.stands hfirst n).counted⟩

/-! ## A candidate that has been moved -/

/-- A report on another record leaves the news of a record. -/
theorem Part.Carries.reportOther {shows : Entry → Prop} {r : Report} (h : q.Carries (.record i) shows)
    (howner : r.owner = .record n) (hn : n ≠ i) : (Machine.report r q).Carries (.record i) shows :=
  h.report (fun ho => absurd (Owner.record.inj (howner.symm.trans ho)) hn) nofun

theorem returnRecord_carries {shows : Entry → Prop} {j : PairIx} (h : q.Carries (.record i) shows) (hn : n ≠ i) :
    (returnRecord j n q).Carries (.record i) shows := by
  unfold returnRecord
  split
  · exact Part.Carries.reportOther (n := n)
      (Part.Carries.reportOther (q := withRecord n (returned j) q) (n := n) h rfl hn) rfl hn
  · exact h

theorem moveRecord_carries {shows : Entry → Prop} {j : PairIx} (h : q.Carries (.record i) shows) (hn : n ≠ i) :
    (moveRecord j n q).Carries (.record i) shows :=
  Part.Carries.reportOther (n := n) (Part.Carries.reportOther (q := withRecord n _ q) (n := n) h rfl hn) rfl hn

/-- A report on the moved record, or on another, leaves the news of the move. -/
theorem Part.Moved.told {x : PortIx} {r : Report} (h : p.Moved k i q) (hon : (q.record n).on x = true)
    (howner : r.owner = .record n) (hports : r.ports = some (portMask x)) : p.Moved k i (report r q) := by
  refine ⟨h.record, fun hthreshold => ?_⟩
  by_cases hn : n = i
  · subst hn
    obtain ⟨_, _, hport⟩ := (switched_iff _ _).1 h.record.switched
    have hx : x = protectPort k := ((on_iff _ _).1 hon).2.symm.trans hport
    exact (h.news hthreshold).reportPorted (stableAt_raised (protectPort k) .switched) (hx ▸ hports)
  · exact (h.news hthreshold).reportOther howner hn

theorem pairSteps_moved (p : Part) (k : PairIx) (i : RecordIx) : PairSteps (.forward k) (p.Moved k i) where
  pair := fun _ _ _ _ h => ⟨h.record, h.news⟩
  move := fun j _ n q hc _ h => by
    have hn : n ≠ i := fun hn => by
      subst hn
      exact absurd hc (by rw [switched_candidate h.record.switched]; nofun)
    exact ⟨by rw [moveRecord_record, if_neg hn]; exact h.record, fun hthreshold => moveRecord_carries (h.news hthreshold) hn⟩
  block := fun j _ n q hc h => by
    have hn : n ≠ i := fun hn => by
      subst hn
      exact absurd hc (by rw [switched_candidate h.record.switched]; nofun)
    exact ⟨by rw [record_withRecord, if_neg hn]; exact h.record, h.news⟩
  returns := fun j hj n q hs h => by
    have hn : n ≠ i := fun hn => by
      subst hn
      exact hj (switched_pair h.record.switched hs)
    exact ⟨by rw [returnRecord_record, if_neg hn]; exact h.record,
      fun hthreshold => returnRecord_carries (h.news hthreshold) hn⟩
  unblock := fun _ _ n q _ h => by
    refine ⟨?_, h.news⟩
    rw [record_withRecord]
    split
    · next hn => subst hn; exact h.record.unblocked
    · exact h.record
  mark := fun _ _ _ _ hon h => h.told hon rfl rfl
  clear := fun _ _ _ _ hon h => h.told hon rfl rfl

theorem Part.Moved.records (h : p.Moved k i q) (hretires : q.NoneRetires) : p.Moved k i (recordsBoundary q) := by
  refine ⟨?_, fun hthreshold => ?_⟩
  · rw [recordsBoundary_record, if_neg (by simp [hretires i])]
    exact h.record.counted
  · have halarm : (recordsBoundary q).alarm = q.alarm := recordsBoundary_keeps (get := Part.alarm) (fun _ _ => rfl) hretires
    rw [Part.Carries, halarm]
    exact h.news hthreshold

/-- A move brings the news of it. -/
theorem moveRecord_reported (h : q.alarm.settings.recordThreshold = some .note) (k : PairIx) (i : RecordIx) :
    (moveRecord k i q).Carries (.record i) (Entry.TellsMove k) := by
  obtain ⟨w, hw⟩ : ∃ w, clearRecord .lineFault (workingPort k) i
      (withRecord i (fun r => { reseed (toQ r.protectOffset) r with currentPort := protectPort k, blocked := false }) q) = w :=
    ⟨_, rfl⟩
  have hsettings : w.alarm.settings.recordThreshold = some .note := by
    rw [← hw, clearRecord, told_settings]
    exact h
  have hmove : (moveRecord k i q).alarm = (raiseRecord .switched (protectPort k) i w).alarm := by
    rw [← hw]
    rfl
  rw [Part.Carries, hmove]
  exact (reported_report (r := recordPortReport .switched true (protectPort k) i w) rfl rfl
    (atThreshold_of_note hsettings rfl (show Severity.note.code ≤ Condition.switched.severity.code by decide))).mono
      fun _ shown => shown.ports _ rfl

/-! ## The pass (R157) -/

/-- A pass has moved the candidate or blocked it. -/
def Part.Passed (p : Part) (k : PairIx) (i : RecordIx) (q : Part) : Prop := p.Stopped k i q ∨ p.Moved k i q

theorem Part.Stopped.same (h : p.Stopped k i q) (hrecord : q'.record i = q.record i) : p.Stopped k i q' :=
  ⟨h.later, hrecord.symm ▸ h.record, by rw [hrecord]; exact h.blocked⟩

theorem Part.Passed.waits (h : p.Passed k i q) : p.Waits k i q ∨ p.Moved k i q :=
  h.imp_left fun hstopped => ⟨hstopped.record, fun hfirst => absurd hfirst hstopped.later⟩

theorem considerRecord_ne (hn : n ≠ i) : (considerRecord k n q).record i = q.record i := by
  rw [considerRecord_record, if_neg fun h => hn h.1]

theorem Part.Moved.considered (h : p.Moved k i q) (n : RecordIx) : p.Moved k i (considerRecord k n q) :=
  (pairSteps_moved p k i).considerRecord (k := k) trivial n h

/-- What a pass does before it comes to the candidate. -/
theorem considerRecord_below (hn : n < i) (h : p.Waits k i q ∨ p.Moved k i q) :
    p.Waits k i (considerRecord k n q) ∨ p.Moved k i (considerRecord k n q) := by
  refine h.imp (fun hwaits => ?_) fun hmoved => hmoved.considered n
  by_cases hfirst : p.First k i
  · rw [considerRecord_idle ((hwaits.stands hfirst n).candidate.trans (hfirst.first n hn))]
    exact hwaits
  · exact ⟨(considerRecord_ne (k := k) (Fin.ne_of_lt hn)).symm ▸ hwaits.record, fun hf => absurd hf hfirst⟩

/-- A candidate that the pass comes to first can be moved. -/
theorem Part.Waits.movable (h : p.Waits k i q) (hbeside : p.Beside k i q) (hfirst : p.First k i) : q.movable k i = true := by
  have hsame := h.stands hfirst
  refine (movable_iff _ _ _).2 ⟨hbeside.usable hfirst, ?_, (addressFree_iff _ _ _).2 fun n hn => ?_⟩
  · have hcount : q.portCount (protectPort k) = p.portCount (protectPort k) := by
      simp only [Part.portCount, (hsame _).counts]
    rw [hcount]
    exact hfirst.room
  · rw [(hsame n).address, (hsame i).address]
    exact (addressFree_iff _ _ _).1 hfirst.free n ((hsame n).counts.symm.trans hn)

/-- The pass comes to the candidate. -/
theorem considerRecord_decides (hbeside : p.Beside k i q) (h : p.Waits k i q ∨ p.Moved k i q) :
    p.Passed k i (considerRecord k i q) := by
  obtain hwaits | hmoved := h
  · have hcandidate := hwaits.record.candidate
    rw [considerRecord, if_pos hcandidate]
    split
    · refine .inr ⟨?_, fun hthreshold => moveRecord_reported (by rw [hbeside.1]; exact hthreshold) k i⟩
      rw [moveRecord_record, if_pos rfl]
      exact hwaits.record.moved
    · next hmovable =>
      refine .inl ⟨fun hfirst => hmovable (hwaits.movable hbeside hfirst), ?_, ?_⟩
      · rw [record_withRecord, if_pos rfl]
        exact hwaits.record.withBlocked true
      · rw [record_withRecord, if_pos rfl]
  · exact .inr (hmoved.considered i)

/-- A pass moves the candidate or blocks it. -/
theorem switchPass_passes (hbeside : p.Beside k i q) (h : p.Waits k i q ∨ p.Moved k i q) : p.Passed k i (switchPass k q) := by
  obtain ⟨below, above, hsplit, hbelow, habove⟩ := finRange_split i
  rw [switchPass, allRecords, hsplit, forEach_append, forEach_cons]
  have hreached : p.Beside k i (forEach below (considerRecord k) q) ∧
      (p.Waits k i (forEach below (considerRecord k) q) ∨ p.Moved k i (forEach below (considerRecord k) q)) :=
    forEach_induct_mem (R := fun w => p.Beside k i w ∧ (p.Waits k i w ∨ p.Moved k i w))
      (fun n hn w ⟨hb, hw⟩ => ⟨(pairSteps_beside p k i).considerRecord (k := k) trivial n hb,
        considerRecord_below (hbelow n hn) hw⟩)
      ⟨hbeside, h⟩
  refine forEach_induct_mem (R := p.Passed k i) (fun n hn w hw => ?_) (considerRecord_decides hreached.1 hreached.2)
  exact hw.imp (fun hstopped => hstopped.same (considerRecord_ne (Fin.ne_of_gt (habove n hn)))) fun hmoved => hmoved.considered n

theorem Part.Passed.withPair (h : p.Passed k i q) (f : PairRecord → PairRecord) : p.Passed k i (withPair k f q) :=
  h.imp (fun hstopped => hstopped.same rfl) fun hmoved => ⟨hmoved.record, hmoved.news⟩

/-- So does the working port's entry into FAULT. -/
theorem workingFault_passes (hbeside : p.Beside k i q) (h : p.Waits k i q ∨ p.Moved k i q) :
    p.Passed k i (workingFault k q) := by
  have passed := switchPass_passes hbeside h
  unfold workingFault
  split
  · exact passed.withPair _
  · exact passed
  · exact passed
  · exact passed.withPair _

/-- And the sweep of a switched pair (R162). -/
theorem sweepPair_passes (hswitched : (q.pair k).isSwitched) (hbeside : p.Beside k i q) (h : p.Waits k i q ∨ p.Moved k i q) :
    p.Passed k i (sweepPair k q) := by
  have hsweep : sweepPair k q = switchPass k (clearStale k q) := by
    obtain hs | hs := hswitched <;> simp only [sweepPair, hs]
  rw [hsweep]
  exact switchPass_passes ((pairSteps_beside p k i).clearStale (k := k) trivial hbeside)
    (h.imp Part.Waits.clearStale fun hmoved => (pairSteps_moved p k i).clearStale (k := k) trivial hmoved)

end Candidate

end Sys2Proof.Machine

/-! SUPPORT. The obligation on the lines of the ports and the pairs that follow them (R131, R157 to R167; log entry 3). -/

namespace Sys2Proof.Machine

theorem PairSteps.congr {L : PairLeave} {R S : Part → Prop} (h : PairSteps L R) (hiff : ∀ q, R q ↔ S q) :
    PairSteps L S := by
  obtain rfl : R = S := funext fun q => propext (hiff q)
  exact h

section Passes

variable {p q q' : Part} {k : PairIx} {i n : RecordIx} {b : BoundaryArgs}

/-! ## A candidate of a switched pair -/

theorem Part.Waits.steers (h : p.Waits k i q) (hw : Within .steering q q') : p.Waits k i q' :=
  h.same fun n => hw.records n nofun

theorem Part.Moved.steers (h : p.Moved k i q) (hw : Within .steering q q') : p.Moved k i q' :=
  ⟨(hw.records i nofun).symm ▸ h.record, fun hthreshold => (h.news hthreshold).within hw nofun⟩

theorem Part.Moved.toldFault (h : p.Moved k i q) : p.Moved k i (reportPortFault q) :=
  ⟨h.record, fun hthreshold => (h.news hthreshold).report nofun nofun⟩

theorem pairSteps_stopped (p : Part) (k : PairIx) (i : RecordIx) : PairSteps (.others k) (p.Stopped k i) :=
  (pairSteps_record (T := fun r => ¬ p.First k i ∧ (p.record i).Remains k r ∧ r.blocked = true)
    (fun _ ⟨_, h, _⟩ => candidate_home h.candidate) i).congr fun _ =>
      ⟨fun ⟨hlater, hrecord, hblocked⟩ => ⟨hlater, hrecord, hblocked⟩, fun h => ⟨h.later, h.record, h.blocked⟩⟩

/-- A candidate of a switched pair at a boundary: what waits for a pass or has been through one, or what has. -/
structure CandidateFact (p : Part) (k : PairIx) (i : RecordIx) (C : Part → Prop) : Prop where
  waits  : ∀ q, C q → p.Waits k i q ∨ p.Moved k i q
  passed : ∀ q, p.Passed k i q → C q
  steps  : PairSteps (.others k) C
  ports  : ∀ y, PortSteps y (fun q => C q ∧ q.NoSlotOpen)
  steers : ∀ q w, Within .steering q w → C q → C w

theorem candidateFact_waits (p : Part) (k : PairIx) (i : RecordIx) :
    CandidateFact p k i (fun q => p.Waits k i q ∨ p.Moved k i q) where
  waits := fun _ h => h
  passed := fun _ h => h.waits
  steps := (pairSteps_waits p k i).or (pairSteps_moved p k i).others_of_forward
  ports := fun y => portSteps_quiet y (fun _ _ => Or.imp (fun h => h.same fun _ => rfl) fun h => ⟨h.record, h.news⟩)
    (fun _ _ => Or.imp (fun h => h.same fun _ => rfl) fun h => ⟨h.record, h.news⟩)
    (fun _ => Or.imp (fun h => h.same fun _ => rfl) fun h => h.toldFault)
  steers := fun _ _ hw => Or.imp (fun h => h.steers hw) fun h => h.steers hw

theorem candidateFact_passed (p : Part) (k : PairIx) (i : RecordIx) : CandidateFact p k i (p.Passed k i) where
  waits := fun _ h => h.waits
  passed := fun _ h => h
  steps := (pairSteps_stopped p k i).or (pairSteps_moved p k i).others_of_forward
  ports := fun y => portSteps_quiet y (fun _ _ => Or.imp (fun h => h.same rfl) fun h => ⟨h.record, h.news⟩)
    (fun _ _ => Or.imp (fun h => h.same rfl) fun h => ⟨h.record, h.news⟩)
    (fun _ => Or.imp (fun h => h.same rfl) fun h => h.toldFault)
  steers := fun _ _ hw => Or.imp (fun h => h.same (hw.records i nofun)) fun h => h.steers hw

/-- A switched pair with its candidate, and no slot open. -/
def Part.Passes (p : Part) (k : PairIx) (i : RecordIx) (C : Part → Prop) (q : Part) : Prop :=
  (q.pair k).isSwitched ∧ p.Beside k i q ∧ C q ∧ q.NoSlotOpen

theorem switchedFact_passes {C : Part → Prop} (h : CandidateFact p k i C) : SwitchedFact k (p.Passes k i C) where
  fact :=
    { steps := (pairFact_pair k PairRecord.isSwitched).steps.and ((pairSteps_beside p k i).others_of_all.and
        (h.steps.and (pairSteps_noSlotOpen _)))
      ports := fun y =>
        ((pairFact_pair k PairRecord.isSwitched).ports y).and ((portSteps_beside p k i y).and (h.ports y))
      steers := fun q w hw ⟨hswitched, hbeside, hc, hopen⟩ =>
        ⟨(pairFact_pair k PairRecord.isSwitched).steers q w hw hswitched, hbeside.within hw nofun nofun,
          h.steers q w hw hc, hw.noSlotOpen nofun hopen⟩
      sweep := fun q ⟨hswitched, hbeside, hc, hopen⟩ => ⟨by rw [sweepPair_pair]; exact hswitched,
        (pairSteps_beside p k i).sweepPair (k := k) trivial hbeside,
        h.passed _ (sweepPair_passes hswitched hbeside (h.waits q hc)),
        (pairSteps_noSlotOpen .all).sweepPair (k := k) trivial hopen⟩ }
  faults := fun q ⟨_, hbeside, hc, hopen⟩ => ⟨workingFault_pair k q,
    (pairSteps_beside p k i).workingFault (PairLeave.all_pair k) hbeside,
    h.passed _ (workingFault_passes hbeside (h.waits q hc)),
    (pairSteps_noSlotOpen .all).workingFault (PairLeave.all_pair k) hopen⟩

/-! ## The start of the boundary, and the records' work at it -/

theorem beside_start (haborted : (p.engine (protectPort k)).aborted = false) : p.Beside k i (atBoundary b p) :=
  ⟨by rw [atBoundary_alarm], fun hfirst => by
    rw [atBoundary_lineView]
    exact ⟨fun _ => haborted, hfirst.clean, hfirst.enabled⟩⟩

theorem waits_start (hc : (p.record i).candidate k = true) : p.Waits k i (atBoundary b p) :=
  ⟨by rw [atBoundary_record]; exact .refl hc, fun _ n => by rw [atBoundary_record]; exact .refl k _⟩

theorem noSlotOpen_start (hopen : p.NoSlotOpen) : (atBoundary b p).NoSlotOpen := fun x => by
  rw [atBoundary_engine]
  exact hopen x

theorem Part.Beside.records (h : p.Beside k i q) (hretires : q.NoneRetires) : p.Beside k i (recordsBoundary q) := by
  have halarm : (recordsBoundary q).alarm = q.alarm := recordsBoundary_keeps (get := Part.alarm) (fun _ _ => rfl) hretires
  exact ⟨by rw [halarm]; exact h.1, fun hfirst => by rw [recordsBoundary_lineView]; exact h.2 hfirst⟩

/-! ## The candidate through the boundary -/

/-- A candidate of a pair that was switched when the boundary came is swept (R162). -/
theorem candidate_swept (hheld : p.held = false) (hopen : p.NoSlotOpen) (hretires : p.NoneRetires)
    (hswitched : (p.pair k).isSwitched) (hfirm : p.Firm k) (haborted : (p.engine (protectPort k)).aborted = false)
    (hc : (p.record i).candidate k = true) : p.Passed k i (hubBoundary b p) := by
  obtain ⟨_, _, hpassed, _⟩ := hubBoundary_sweeps b hheld hswitched hfirm
    (R := p.Passes k i fun q => p.Waits k i q ∨ p.Moved k i q) (S := p.Passes k i (p.Passed k i))
    (switchedFact_passes (candidateFact_waits p k i)) (switchedFact_passes (candidateFact_passed p k i))
    (fun q hnone ⟨hs, hbeside, hwaits, hidle⟩ => ⟨by rw [recordsBoundary_pair]; exact hs,
      hbeside.records (hnone hopen hretires),
      hwaits.imp (fun h => h.records (hnone hopen hretires)) fun h => h.records (hnone hopen hretires),
      recordsBoundary_noSlotOpen hidle⟩)
    ⟨by rw [atBoundary_pair]; exact hswitched, beside_start haborted, .inl (waits_start hc), noSlotOpen_start hopen⟩
    (fun q ⟨hs, hbeside, hwaits, hidle⟩ => ⟨by rw [sweepPair_pair]; exact hs,
      (pairSteps_beside p k i).sweepPair (k := k) trivial hbeside, sweepPair_passes hs hbeside hwaits,
      (pairSteps_noSlotOpen .all).sweepPair (k := k) trivial hidle⟩)
  exact hpassed

/-- A pair that is not switched, and does not wait where a pass would come to its candidate first. -/
def Part.Unswitched (p : Part) (k : PairIx) (i : RecordIx) (r : PairRecord) : Prop :=
  ¬ r.isSwitched ∧ (p.First k i → r.state ≠ .restoreWait)

theorem pairFact_unpassed (p : Part) (k : PairIx) (i : RecordIx) :
    PairFact k (fun q => p.Unswitched k i (q.pair k) ∧ p.Beside k i q ∧ p.Waits k i q ∧ q.NoSlotOpen) where
  steps := (pairFact_pair k (p.Unswitched k i)).steps.and ((pairSteps_beside p k i).others_of_all.and
    ((pairSteps_waits p k i).and (pairSteps_noSlotOpen _)))
  ports := fun y => ((pairFact_pair k (p.Unswitched k i)).ports y).and ((portSteps_beside p k i y).and
    (portSteps_untargeted y fun _ _ hsame h => h.same hsame))
  steers := fun q w hw ⟨hstate, hbeside, hwaits, hopen⟩ => ⟨(pairFact_pair k (p.Unswitched k i)).steers q w hw hstate,
    hbeside.within hw nofun nofun, hwaits.steers hw, hw.noSlotOpen nofun hopen⟩
  sweep := fun q h => by
    rw [sweepPair_unswitched h.1.1]
    exact h

theorem pairWaitStep_unswitched (h : ¬ (q.pair k).isSwitched) : ¬ ((pairWaitStep k q).pair k).isSwitched := by
  obtain ⟨c, hwaits⟩ | hreturned := pairWaitStep_record k q
  · rw [hwaits]
    exact h
  · rw [hreturned]
    rintro (hs | hs) <;> cases hs

/-- A candidate of a pair whose working port enters FAULT is passed over (R160). -/
theorem candidate_faults (hheld : p.held = false) (hopen : p.NoSlotOpen) (hretires : p.NoneRetires)
    (hswitched : ¬ (p.pair k).isSwitched) (hfaults : p.Faulting (workingPort k))
    (haborted : (p.engine (protectPort k)).aborted = false) (hc : (p.record i).candidate k = true) :
    p.Passed k i (hubBoundary b p) := by
  obtain ⟨_, _, hpassed, _⟩ := hubBoundary_workingFaults b hheld hfaults.view (muteFact_spared k) (fun _ => haborted)
    (pairFact_unpassed p k i) (switchedFact_passes (candidateFact_passed p k i)).fact
    (fun q hnone ⟨hstate, hbeside, hwaits, hidle⟩ => ⟨by rw [recordsBoundary_pair]; exact hstate,
      hbeside.records (hnone hopen hretires), hwaits.records (hnone hopen hretires), recordsBoundary_noSlotOpen hidle⟩)
    (fun hk q ⟨hstate, hbeside, hwaits, hidle⟩ => by
      have hlater : ¬ p.First k i := fun hfirst => not_waiting hfirst.waits hk
      exact ⟨⟨pairWaitStep_unswitched hstate.1, fun hfirst => absurd hfirst hlater⟩,
        (pairSteps_beside p k i).pairWaitStep (PairLeave.all_pair k) hbeside, hwaits.pairWaitStep hlater,
        (pairSteps_noSlotOpen .all).pairWaitStep (PairLeave.all_pair k) hidle⟩)
    (waitKeeps_pair (fun _ h => h.1) fun _ _ h => h.not_waiting)
    ⟨by rw [atBoundary_pair]; exact ⟨hswitched, fun hfirst => hfirst.waits⟩, beside_start haborted, waits_start hc,
      noSlotOpen_start hopen⟩
    (fun w _ ⟨_, hbeside, hwaits, hidle⟩ => ⟨workingFault_pair k w,
      (pairSteps_beside p k i).workingFault (PairLeave.all_pair k) hbeside, workingFault_passes hbeside (.inl hwaits),
      (pairSteps_noSlotOpen .all).workingFault (PairLeave.all_pair k) hidle⟩)
  exact hpassed

/-! ## A record of the pair that is no candidate (R162) -/

/-- A record of the pair that is neither a candidate nor RETIRING, not blocked when said so. -/
structure ServiceRecord.Aside (k : PairIx) (free : Prop) (r : ServiceRecord) : Prop where
  home      : pairOf r.homePort = k
  candidate : r.candidate k = false
  stays     : r.state ≠ .retiring
  unblocked : free → r.blocked = false

theorem clearStale_record (k : PairIx) (j : RecordIx) (p : Part) :
    (clearStale k p).record j =
      if pairOf (p.record j).homePort = k && (p.record j).blocked && !(p.record j).candidate k && (p.record j).state != .retiring
      then { p.record j with blocked := false } else p.record j :=
  forEach_each (get := fun j p => p.record j)
    (act := fun _ r => if pairOf r.homePort = k && r.blocked && !r.candidate k && r.state != .retiring
      then { r with blocked := false } else r) (fun i j q => by
      by_cases hi : i = j
      · subst hi
        rw [if_pos rfl]
        dsimp only
        split
        · rw [record_withRecord, if_pos rfl]
        · rfl
      · rw [if_neg hi]
        dsimp only
        split
        · rw [record_withRecord, if_neg hi]
        · rfl) j p

theorem sweepPair_aside {free : Prop} (hswitched : (q.pair k).isSwitched) (h : (q.record n).Aside k free) :
    ((sweepPair k q).record n).Aside k True := by
  have hsweep : sweepPair k q = switchPass k (clearStale k q) := by
    obtain hs | hs := hswitched <;> simp only [sweepPair, hs]
  have hstale : ((clearStale k q).record n).Aside k True := by
    rw [clearStale_record]
    split
    · exact ⟨h.home, h.candidate, h.stays, fun _ => rfl⟩
    · next hnot => exact ⟨h.home, h.candidate, h.stays, fun _ => by simpa [h.home, h.candidate, h.stays] using hnot⟩
  rw [hsweep, (switchPass_record k n _).1 hstale.candidate]
  exact hstale

theorem workingFault_aside {free : Prop} (h : (q.record n).Aside k free) : ((workingFault k q).record n).Aside k free := by
  have passed : ((switchPass k q).record n).Aside k free := by
    rw [(switchPass_record k n q).1 h.candidate]
    exact h
  unfold workingFault
  split
  · rw [withPair, setPair_record]
    exact passed
  · exact passed
  · exact passed
  · rw [withPair, setPair_record]
    exact passed

theorem switchedFact_aside (k : PairIx) (n : RecordIx) (free : Prop) :
    SwitchedFact k (fun q => (q.pair k).isSwitched ∧ (q.record n).Aside k free ∧ q.NoSlotOpen) where
  fact :=
    { steps := (pairFact_pair k PairRecord.isSwitched).steps.and
        ((pairSteps_record (fun _ h => h.home) n).and (pairSteps_noSlotOpen _))
      ports := fun y => ((pairFact_pair k PairRecord.isSwitched).ports y).and
        (portSteps_untargeted y fun _ _ hsame h => (hsame n).symm ▸ h)
      steers := fun q w hw ⟨hswitched, haside, hopen⟩ => ⟨(pairFact_pair k PairRecord.isSwitched).steers q w hw hswitched,
        (hw.records n nofun).symm ▸ haside, hw.noSlotOpen nofun hopen⟩
      sweep := fun q ⟨hswitched, haside, hopen⟩ => by
        obtain ⟨hhome, hcandidate, hstays, hunblocked⟩ := sweepPair_aside hswitched haside
        exact ⟨by rw [sweepPair_pair]; exact hswitched, ⟨hhome, hcandidate, hstays, fun _ => hunblocked trivial⟩,
          (pairSteps_noSlotOpen .all).sweepPair (k := k) trivial hopen⟩ }
  faults := fun q ⟨_, haside, hopen⟩ => ⟨workingFault_pair k q, workingFault_aside haside,
    (pairSteps_noSlotOpen .all).workingFault (PairLeave.all_pair k) hopen⟩

theorem counted_aside {r : ServiceRecord} (h : r.Aside k False) : (counted r).Aside k False := by
  obtain ⟨hhome, _, hstate⟩ := counted_place r
  exact ⟨by rw [hhome]; exact h.home, (candidate_counted k r).trans h.candidate, by rw [hstate]; exact h.stays, nofun⟩

/-- The sweep of a switched pair clears the blocked flag of a record that is no candidate. -/
theorem aside_swept (hheld : p.held = false) (hopen : p.NoSlotOpen) (hretires : p.NoneRetires)
    (hswitched : (p.pair k).isSwitched) (hfirm : p.Firm k) (haside : (p.record n).Aside k False) :
    ((hubBoundary b p).record n).blocked = false := by
  obtain ⟨_, hdone, _⟩ := hubBoundary_sweeps b hheld hswitched hfirm
    (switchedFact_aside k n False) (switchedFact_aside k n True)
    (fun q hnone ⟨hs, h, hidle⟩ => ⟨by rw [recordsBoundary_pair]; exact hs, by
      rw [recordsBoundary_record, if_neg (by simp [hnone hopen hretires n])]
      exact counted_aside h, recordsBoundary_noSlotOpen hidle⟩)
    ⟨by rw [atBoundary_pair]; exact hswitched, by rw [atBoundary_record]; exact haside, noSlotOpen_start hopen⟩
    (fun q ⟨hs, h, hidle⟩ => ⟨by rw [sweepPair_pair]; exact hs, sweepPair_aside hs h,
      (pairSteps_noSlotOpen .all).sweepPair (k := k) trivial hidle⟩)
  exact hdone.unblocked trivial

/-! ## The boundary whole -/

/-- The lines of a pair that O44's third clause speaks of. -/
theorem firm_of_cause (haborted : (p.engine (protectPort k)).aborted = false)
    (hcause : ((p.pair k).isSwitched ∧ ((p.port (workingPort k)).line = .clean ∨ p.StaysFaulted (workingPort k))) ∨
      p.Faulting (workingPort k)) : p.Firm k := by
  refine ⟨fun _ => haborted, fun hfault => ?_⟩
  have hclean : (p.port (workingPort k)).line = .clean → (p.engine (workingPort k)).aborted = true ∨
      (p.engine (workingPort k)).sent = false := fun h => LineState.noConfusion (h.symm.trans hfault)
  obtain ⟨_, hline | ⟨_, hfailed⟩⟩ | ⟨_, hline, _⟩ := hcause
  · exact hclean hline
  · exact .inl hfailed
  · exact hclean hline

theorem Part.Passed.settle (h : p.Passed k i q) (waiting : List Instr) : p.Passed k i (settle waiting q) :=
  h.imp (fun hstopped => hstopped.same (settle_record _ _ _)) fun hmoved =>
    ⟨by rw [settle_record]; exact hmoved.record, fun hthreshold => (hmoved.news hthreshold).settle waiting⟩

/-- A candidate that a pass has come to, as O44 says it. -/
theorem Part.Passed.outcome (h : p.Passed k i q) :
    ((q.record i).switched k = true ∨ ((q.record i).currentPort = workingPort k ∧ (q.record i).blocked = true)) ∧
      (p.First k i → (q.record i).switched k = true) ∧
      ((q.record i).switched k = true →
        (p.alarm.settings.recordThreshold = some .note →
          q.Reported (.record i) .switched (fun e => e.ports = some (portMask (protectPort k)))) ∧
        ((p.record i).Plain → q.record i = movedRecord k (p.record i))) := by
  obtain hstopped | hmoved := h
  · have hcandidate := hstopped.record.candidate
    obtain ⟨_, _, hport, _⟩ := (candidate_iff _ _).1 hcandidate
    refine ⟨.inr ⟨hport, hstopped.blocked⟩, fun hfirst => absurd hfirst hstopped.later, fun hs => ?_⟩
    rw [candidate_switched hcandidate] at hs
    cases hs
  · exact ⟨.inl hmoved.record.switched, fun _ => hmoved.record.switched, fun _ => ⟨hmoved.news, hmoved.record.same⟩⟩

end Passes

/-- Settles O44: the line through its port's place in the boundary, the pair beside its ports' lines, and each candidate up to
the pass of the working port's fault or of the sweep. -/
theorem lineStatesMoveAndPairsFollow : Obligations.LineStatesMoveAndPairsFollow := by
  refine ⟨boundaryMovesTheLine, pairFollowsItsPorts, fun s b k hheld hopen hretires haborted hcause =>
    ⟨_, exec_hubSecondBoundary b s, rfl, fun i hc => ?_, fun hswitched i hhome hc hstays => ?_⟩⟩
  · have hpassed : s.part.Passed k i (hubBoundary b s.part) := by
      by_cases hswitched : (s.part.pair k).isSwitched
      · exact candidate_swept hheld hopen hretires hswitched (firm_of_cause haborted hcause) haborted hc
      · exact candidate_faults hheld hopen hretires hswitched (hcause.resolve_left fun h => hswitched h.1) haborted hc
    obtain ⟨hplace, hfirst, hmoved⟩ := (hpassed.settle s.pending).outcome
    refine ⟨hplace, fun hwaits henabled hclean hroom hfree hlow => hfirst ⟨hwaits, henabled, hclean, hroom, hfree, hlow⟩,
      fun hs => ?_⟩
    obtain ⟨hnews, hsame⟩ := hmoved hs
    exact ⟨hnews, fun hoffset hshare hlive => hsame ⟨hoffset, hshare, hlive⟩⟩
  · rw [settle_record]
    exact aside_swept hheld hopen hretires hswitched (firm_of_cause haborted hcause) ⟨hhome, hc, hstays, nofun⟩

end Sys2Proof.Machine
